-- ==== Sys2Proof/Word.lean ====
section
/-! DEFINITION. The byte and the 16-bit word of the CS-120's three byte layouts (R44, R168 to R171, R179). -/

namespace Sys2Proof

/-- One byte of a frame, of the configuration record or of the service link. -/
abbrev Byte := BitVec 8

/-- A 16-bit value: the LFSR (R40), the CRC register (R44) and the stamp. -/
abbrev Word16 := BitVec 16

end Sys2Proof
end

