-- ==== Sys2Proof/Config.lean ====
section
/-! DEFINITION. What the CS-120 itself fixes: the sizes of its tables and its times. Times are in microseconds, the one
unit in which every duration of the spec is a whole number. The values that one station's configuration memory fixes are
state (`Machine.ConfigValues`), because the part reads them at start-up (R180 to R182). No value of this spec is left
undefined, so there is no free value here. -/

namespace Sys2Proof.Config

/-- The band is 120 tiles, numbered 0 to 119 (R1). -/
abbrev tileCount : Nat := 120
/-- The Claim Table holds 20 records (R73). -/
abbrev recordCount : Nat := 20
/-- The Peer Table holds at most 24 records (R55). -/
abbrev peerCapacity : Nat := 24
/-- A tile keeps at most 3 claimants (R4). -/
abbrev claimantCapacity : Nat := 3
/-- The spot queue holds at most 8 entries (R21). -/
abbrev spotCapacity : Nat := 8
/-- The Loan Stack holds at most 4 entries (R149). -/
abbrev loanCapacity : Nat := 4
/-- A run is at most 8 tiles wide. -/
abbrev maxRunWidth : Nat := 8
/-- A frame carries at most 20 entries (R44). -/
abbrev maxFrameEntries : Nat := 20
/-- A peer record is STALE from this age on (R65). -/
abbrev staleAge : Nat := 8
/-- A peer record is deleted at this age (R66). -/
abbrev goneAge : Nat := 30
/-- WARM_LISTEN lasts this many ageing ticks (R183). -/
abbrev warmTicks : Nat := 30
/-- LEAVING lasts until this many LEAVING frames are sent (R184). -/
abbrev leavingFrames : Nat := 3
/-- A DRAINING record is announced in this many sent frames (R86). -/
abbrev drainFrames : Nat := 2
/-- The loss while TENTATIVE that sends a record to its retry timer (R88). -/
abbrev lossesBeforeWait : Nat := 4
/-- A placement re-enters CHOOSE at most this many times (R108). -/
abbrev maxAttempts : Nat := 3
/-- A frame is skipped when it finds the channel BUSY after this many deferrals (R45). -/
abbrev maxDeferrals : Nat := 6
/-- A tile returns to QUIET at this recovery count (R28). -/
abbrev recoverySamples : Nat := 4
/-- The largest value of a clamped sample and of L (R23, R26). -/
abbrev maxSample : Nat := 63
/-- The drop counter saturates here (R50). -/
abbrev dropCounterMax : Nat := 65535
/-- At most two successors exist at once (R74). -/
abbrev maxSuccessors : Nat := 2
/-- At most five DATA records are not FREE at once (R74). -/
abbrev maxDataRecords : Nat := 5

/-- The ageing tick, exactly 100 ms (R56). -/
abbrev ageingPeriod : Nat := 100000
/-- The data growth period, exactly 100 ms (R139). -/
abbrev growthPeriod : Nat := 100000
/-- One contention slot, 0.5 ms (R40). -/
abbrev contentionSlot : Nat := 500
/-- One dwell, 250 µs (R23). -/
abbrev dwell : Nat := 250
/-- A retry timer starts at 2,000 ms (R81). -/
abbrev retryTime : Nat := 2000000
/-- The link abandons a transaction after 30 ms without a clock edge (R164). -/
abbrev linkTimeout : Nat := 30000

/-- NOISE_ON in use after a refused configuration record (R22). -/
abbrev defaultNoiseOn : Nat := 18
/-- The hysteresis in use after a refused configuration record (R22). -/
abbrev defaultHysteresis : Nat := 6

end Sys2Proof.Config
end

