-- ==== Sys2Proof/Syntax.lean ====
section
/-! DEFINITION. The commands that reach the CS-120, one constructor per row of spec/opcode_table.json: the events on its
pins, the expiries of its timers, the requests of the service link and the messages its blocks send one another. -/

namespace Sys2Proof

/-- The three service classes; their ranks order claims (R10). -/
inductive ServiceClass where
  | data | video | voice
deriving DecidableEq, Repr

/-- A contiguous set of tiles, by its first tile and its width. -/
structure Run where
  first : Nat
  width : Nat
deriving DecidableEq, Repr

/-- The Claim Table's answers to a room request (R117). -/
inductive RoomAnswer where
  | done | short | record
deriving DecidableEq, Repr

/-- The Claim Table's answers to a commit: taken, or the first condition of R80 that failed. -/
inductive CommitAnswer where
  | taken | record | overlap | limit | predecessor
deriving DecidableEq, Repr

/-- The Loan Stack's answers to a lend request (R151). -/
inductive LendAnswer where
  | taken | refused
deriving DecidableEq, Repr

/-- The two outcomes a placement reports to the Claim Table (R81, R119). -/
inductive PlacementEnd where
  | noRoom | limit
deriving DecidableEq, Repr

/-- The commands. `ccCs` is the level of the CC_CS pin at the send attempt that the command makes (R38, R45); `record`,
`borrower` and `lender` are claim record ids. -/
inductive Instr where
  /-- RESET (R178): power-on, or assertion of RESET_N. -/
  | reset
  /-- RESET_RELEASE (R178). -/
  | resetRelease
  /-- CONFIG_READ_COMPLETE (R181): the 32 bytes clocked in from the configuration memory. -/
  | configReadComplete (bytes : List Byte)
  /-- AGEING_TICK (R56). -/
  | ageingTick
  /-- PEER_STALE (R65). -/
  | peerStale (station : Nat)
  /-- PEER_GONE (R66). -/
  | peerGone (station : Nat)
  /-- WARM_LISTEN_END (R183). -/
  | warmListenEnd
  /-- ANNOUNCEMENT_TIMER_EXPIRY (R41). -/
  | announcementTimerExpiry (ccCs : Bool)
  /-- DEFERRAL_BACKOFF_END (R45). -/
  | deferralBackoffEnd (ccCs : Bool)
  /-- URGENT_BACKOFF_END (R47). -/
  | urgentBackoffEnd (ccCs : Bool)
  /-- TRANSMISSION_END (R46). -/
  | transmissionEnd (ccCs : Bool)
  /-- DRAIN_END (R86). -/
  | drainEnd (record : Nat)
  /-- LEAVING_COMPLETE (R184). -/
  | leavingComplete
  /-- SYNC_DETECTED (R49). -/
  | syncDetected
  /-- RECEPTION_END (R49): the carrier energy ends; `bytes` are those assembled since the last command that carried any. -/
  | receptionEnd (bytes : List Byte)
  /-- RECEPTION_OVERRUN (R49). -/
  | receptionOverrun
  /-- MEAS_SAMPLE_VALID (R23): the value on MEAS_SAMPLE. -/
  | measSampleValid (sample : Byte)
  /-- DWELL_END (R24). -/
  | dwellEnd
  /-- NOISE_RECOVERED (R28). -/
  | noiseRecovered (tile : Nat)
  /-- ROOM_REQUEST (R117). -/
  | roomRequest (record : Nat) (generation : BitVec 4) (width : Nat)
  /-- ROOM_ANSWER (R117). -/
  | roomAnswer (record : Nat) (generation : BitVec 4) (answer : RoomAnswer)
  /-- COMMIT (R80). -/
  | commit (record : Nat) (generation : BitVec 4) (run : Run)
  /-- COMMIT_ANSWER (R118). -/
  | commitAnswer (record : Nat) (generation : BitVec 4) (answer : CommitAnswer)
  /-- LEND_REQUEST (R151). -/
  | lendRequest (borrower : Nat) (borrowerGeneration : BitVec 4) (lender : Nat) (lenderGeneration : BitVec 4) (tile : Nat)
  /-- LEND_ANSWER (R110). -/
  | lendAnswer (record : Nat) (generation : BitVec 4) (answer : LendAnswer)
  /-- PLACEMENT_OUTCOME (R81). -/
  | placementOutcome (record : Nat) (generation : BitVec 4) (outcome : PlacementEnd)
  /-- RETRY_EXPIRY (R82). -/
  | retryExpiry (record : Nat)
  /-- DATA_GROWTH_EXPIRY (R140). -/
  | dataGrowthExpiry
  /-- LINK_SELECT (R163). -/
  | linkSelect
  /-- LINK_DESELECT (R163). -/
  | linkDeselect
  /-- LINK_TIMEOUT (R164). -/
  | linkTimeout
  /-- BAD_CODE (R165): a complete code byte that is in no row of the request table. -/
  | badCode (code : Byte)
  /-- READ_STATUS (R169): the request's bytes are complete; so for every request below. -/
  | readStatus
  /-- ACK_ATTN (R176). -/
  | ackAttn (causes : Byte)
  /-- SET_DATA (R147). -/
  | setData (floor : Byte) (ceiling : Byte)
  /-- OPEN_PROGRAM (R78). -/
  | openProgram (slot : Byte) (width : Byte)
  /-- CLOSE_PROGRAM (R93). -/
  | closeProgram (slot : Byte)
  /-- OPEN_CALL (R78). -/
  | openCall (slot : Byte)
  /-- CLOSE_CALL (R94). -/
  | closeCall (slot : Byte)
  /-- ACK_CALL_LINE (R174). -/
  | ackCallLine (slot : Byte)
  /-- READ_GRANT (R170). -/
  | readGrant (service : Byte)
  /-- READ_MAP (R171). -/
  | readMap (start : Byte) (count : Byte)
  /-- LEAVE (R184). -/
  | leave
  /-- JOIN (R185). -/
  | join
  /-- CALL_LINE_ASSERT (R172). -/
  | callLineAssert (line : Nat)
  /-- CALL_LINE_DEASSERT (R174). -/
  | callLineDeassert (line : Nat)
  /-- ENTRY_COUNT_ASSEMBLED (R49): the bytes assembled up to and with byte 4. -/
  | entryCountAssembled (bytes : List Byte)
  /-- RESPONSE_BYTE_CLOCKED_OUT (R163). -/
  | responseByteClockedOut
deriving DecidableEq, Repr

end Sys2Proof
end

