-- ==== Sys2Proof/WellFormed.lean ====
section
/-! DEFINITION. The operands a command can carry on the part. The bytes of a service-link request are unrestricted: R166
checks them when the request is taken. -/

namespace Sys2Proof

/-- A claim record id, 0 to 19 (R73). -/
def recordOk (r : Nat) : Bool := decide (r < Config.recordCount)

/-- A tile number, 0 to 119 (R1). -/
def tileOk (t : Nat) : Bool := decide (t < Config.tileCount)

/-- A station id on the channel, 1 to 65,534 (R3). -/
def stationOk (p : Nat) : Bool := decide (0 < p) && decide (p < 65535)

/-- A call line, 0 to 3 (R172). -/
def lineOk (n : Nat) : Bool := decide (n < 4)

/-- A width, 1 to 8. -/
def widthOk (w : Nat) : Bool := decide (0 < w) && decide (w ≤ Config.maxRunWidth)

/-- A run of 1 to 8 tiles that ends at tile 119 or below. -/
def runOk (x : Run) : Bool := widthOk x.width && decide (x.first + x.width ≤ Config.tileCount)

/-- The request table of R165: each code with the number of its argument bytes. -/
def requestTable : List (Byte × Nat) :=
  [(0x01, 0), (0x02, 1), (0x10, 2), (0x11, 2), (0x12, 1), (0x13, 1), (0x14, 1), (0x15, 1), (0x20, 1), (0x21, 2), (0x30, 0),
    (0x31, 0)]

/-- The request codes of R165. -/
def requestCodes : List Byte := requestTable.map (·.1)

/-- The number of argument bytes of a request code; absent for a code that is in no row of R165. -/
def argCount (code : Byte) : Option Nat := (requestTable.find? (fun x => x.1 == code)).map (·.2)

/-- The operands of each command that the part can be given. -/
def wellFormed : Instr → Bool
  | .reset => true
  | .resetRelease => true
  | .configReadComplete bytes => decide (bytes.length = 32)
  | .ageingTick => true
  | .peerStale p => stationOk p
  | .peerGone p => stationOk p
  | .warmListenEnd => true
  | .announcementTimerExpiry _ => true
  | .deferralBackoffEnd _ => true
  | .urgentBackoffEnd _ => true
  | .transmissionEnd _ => true
  | .drainEnd r => recordOk r
  | .leavingComplete => true
  | .syncDetected => true
  | .receptionEnd bytes => decide (bytes.length ≤ 7 + 2 * Config.maxFrameEntries)
  | .receptionOverrun => true
  | .measSampleValid _ => true
  | .dwellEnd => true
  | .noiseRecovered t => tileOk t
  | .roomRequest r _ w => recordOk r && widthOk w
  | .roomAnswer r _ _ => recordOk r
  | .commit r _ x => recordOk r && runOk x
  | .commitAnswer r _ _ => recordOk r
  | .lendRequest b _ l _ t => recordOk b && recordOk l && tileOk t
  | .lendAnswer r _ _ => recordOk r
  | .placementOutcome r _ _ => recordOk r
  | .retryExpiry r => recordOk r
  | .dataGrowthExpiry => true
  | .linkSelect => true
  | .linkDeselect => true
  | .linkTimeout => true
  | .badCode c => !requestCodes.contains c
  | .readStatus => true
  | .ackAttn _ => true
  | .setData _ _ => true
  | .openProgram _ _ => true
  | .closeProgram _ => true
  | .openCall _ => true
  | .closeCall _ => true
  | .ackCallLine _ => true
  | .readGrant _ => true
  | .readMap _ _ => true
  | .leave => true
  | .join => true
  | .callLineAssert n => lineOk n
  | .callLineDeassert n => lineOk n
  | .entryCountAssembled bytes => decide (bytes.length = 5)
  | .responseByteClockedOut => true

end Sys2Proof
end

