-- ==== Sys2Proof/Decode.lean ====
section
/-! DEFINITION. The words that spell commands. No row of spec/opcode_table.json carries bits of its own; what the spec lays out in
bytes are the requests of the service link (R165): a code byte, and the argument bytes of its row. A word is read as such a
request, its first byte the lowest. -/

namespace Sys2Proof

/-- The request that a code byte and its argument bytes make (R165): the command of the code's row where the row's number of
argument bytes has come, BAD_CODE at a code byte in no row, and none while bytes are missing or are too many. -/
def decodeRequest : List Byte → Option Instr
  | [] => none
  | code :: args =>
    match code.toNat, args with
    | 0x01, [] => some .readStatus
    | 0x02, [causes] => some (.ackAttn causes)
    | 0x10, [floor, ceiling] => some (.setData floor ceiling)
    | 0x11, [slot, width] => some (.openProgram slot width)
    | 0x12, [slot] => some (.closeProgram slot)
    | 0x13, [slot] => some (.openCall slot)
    | 0x14, [slot] => some (.closeCall slot)
    | 0x15, [slot] => some (.ackCallLine slot)
    | 0x20, [service] => some (.readGrant service)
    | 0x21, [start, count] => some (.readMap start count)
    | 0x30, [] => some .leave
    | 0x31, [] => some .join
    | _, [] => if argCount code = none then some (.badCode code) else none
    | _, _ => none

/-- Byte `i` of a word, the first byte the lowest. -/
def wordByte (w i : Nat) : Byte := BitVec.ofNat 8 (w / 256 ^ i)

/-- The command that `nbits` bits of the word `w` spell: the request of the link that its whole bytes make, code first (R165). As on
the link (R163), a word whose argument bytes have not all come makes no request. -/
def decodeTableWord (nbits w : Nat) : Option Instr :=
  decodeRequest ((List.range (nbits / 8)).map (wordByte w))

/-- The bytes of a request, code first (R165); none for a command that is no request. -/
def requestBytes : Instr → Option (List Byte)
  | .badCode code => some [code]
  | .readStatus => some [0x01]
  | .ackAttn causes => some [0x02, causes]
  | .setData floor ceiling => some [0x10, floor, ceiling]
  | .openProgram slot width => some [0x11, slot, width]
  | .closeProgram slot => some [0x12, slot]
  | .openCall slot => some [0x13, slot]
  | .closeCall slot => some [0x14, slot]
  | .ackCallLine slot => some [0x15, slot]
  | .readGrant service => some [0x20, service]
  | .readMap start count => some [0x21, start, count]
  | .leave => some [0x30]
  | .join => some [0x31]
  | .reset => none
  | .resetRelease => none
  | .configReadComplete _ => none
  | .ageingTick => none
  | .peerStale _ => none
  | .peerGone _ => none
  | .warmListenEnd => none
  | .announcementTimerExpiry _ => none
  | .deferralBackoffEnd _ => none
  | .urgentBackoffEnd _ => none
  | .transmissionEnd _ => none
  | .drainEnd _ => none
  | .leavingComplete => none
  | .syncDetected => none
  | .receptionEnd _ => none
  | .receptionOverrun => none
  | .measSampleValid _ => none
  | .dwellEnd => none
  | .noiseRecovered _ => none
  | .roomRequest _ _ _ => none
  | .roomAnswer _ _ _ => none
  | .commit _ _ _ => none
  | .commitAnswer _ _ _ => none
  | .lendRequest _ _ _ _ _ => none
  | .lendAnswer _ _ _ => none
  | .placementOutcome _ _ _ => none
  | .retryExpiry _ => none
  | .dataGrowthExpiry => none
  | .linkSelect => none
  | .linkDeselect => none
  | .linkTimeout => none
  | .callLineAssert _ => none
  | .callLineDeassert _ => none
  | .entryCountAssembled _ => none
  | .responseByteClockedOut => none

end Sys2Proof
end

