-- ==== Sys2Proof/Machine/State.lean ====
section
/-! DEFINITION. The state of the CS-120, block by block, as plain data, and its value after power-on and RESET_N. Times
that run down are held in microseconds. INVENTORY.md lists each item with its rule and its reset value. -/

namespace Sys2Proof.Machine

/-- Why a step stops with a fault: no constructor, because every command has an effect in every state. The part's own
FAULT is a part state (R186), not a stop of the model. -/
inductive Fault where
deriving DecidableEq

/-- Why a command has no meaning. -/
inductive Refusal where
  /-- Raised by `exec` alone, for a row of the command table that has no meaning yet (safe). No arm raises it. -/
  | notModelled (mnemonic : String)
deriving DecidableEq, Repr

/-! ### Occupancy Map (R1 to R4) -/

/-- The phase a claim is announced with, and the effective phase with which it takes part in precedence (R3). -/
inductive ClaimPhase where
  | tentative | held
deriving DecidableEq, Repr

/-- One peer's claim on one tile (R3). -/
structure ClaimantEntry where
  station : Nat
  cls : ServiceClass
  announced : ClaimPhase
  effective : ClaimPhase
deriving DecidableEq, Repr

/-- A tile record of the Occupancy Map (R1); claimants strongest first (R4). -/
structure TileRecord where
  locked : Bool
  inWindow : Bool
  claimants : List ClaimantEntry
deriving DecidableEq, Repr

/-! ### Peer Table (R55) -/

/-- FRESH or STALE (R55). -/
inductive PeerState where
  | fresh | stale
deriving DecidableEq, Repr

/-- A run as a peer announced it (R55). -/
structure HeardRun where
  run : Run
  cls : ServiceClass
  phase : ClaimPhase
deriving DecidableEq, Repr

/-- A peer record (R55). -/
structure PeerRecord where
  station : Nat
  state : PeerState
  age : Nat
  runs : List HeardRun
deriving DecidableEq, Repr

/-! ### Band Scanner (R21) -/

/-- The noise state of a tile (R21). -/
inductive NoiseState where
  | quiet | noisy | recovering
deriving DecidableEq, Repr

/-- What the scanner holds for one tile (R21): `level` is F, in eighths of a dB. -/
structure TileNoise where
  level : Nat
  state : NoiseState
  recovery : Nat
deriving DecidableEq, Repr

/-- The tag of a spot check: the record and generation of the placement that asked (R101). -/
structure SpotTag where
  record : Nat
  generation : BitVec 4
deriving DecidableEq, Repr

/-- An entry of the spot queue (R32). -/
structure SpotEntry where
  tile : Nat
  tag : SpotTag
deriving DecidableEq, Repr

/-- What a measurement in progress serves: the sweep, the oldest spot entry, or a spot entry that has been withdrawn, so
that its sample still updates F and no result is sent (R21, R34). -/
inductive Serves where
  | sweep | spot | withdrawnSpot
deriving DecidableEq, Repr

/-- A measurement in progress (R21), the first sample qualified in its dwell, already clamped (R23), and the time left of
the dwell. -/
structure Measurement where
  tile : Nat
  serves : Serves
  sample : Option Nat
  left : Nat
deriving DecidableEq, Repr

/-- The Band Scanner (R21); `spots` oldest first. -/
structure Scanner where
  tiles : List TileNoise
  sweep : Nat
  spots : List SpotEntry
  measuring : Option Measurement
deriving DecidableEq, Repr

/-! ### Claim Table (R73, R95, R139) -/

/-- The phase of a claim record (R76). -/
inductive Phase where
  | free | seeking | tentative | held | moving | draining | parked
deriving DecidableEq, Repr

/-- Why a record seeks or last sought (R73). -/
inductive SeekReason where
  | new | relocate | migrate | grow
deriving DecidableEq, Repr

/-- A claim record (R73); its id is its place in `State.claims`. -/
structure ClaimRecord where
  generation : BitVec 4
  cls : ServiceClass
  slot : Nat
  width : Nat
  phase : Phase
  run : Option Run
  listenCount : Nat
  tentativeLosses : Nat
  seekReason : SeekReason
  predecessor : Option Nat
  successor : Option Nat
  onLoan : Option Nat
  drainCount : Nat
  retry : Option Nat
deriving DecidableEq, Repr

/-- The cause of a grant change (R96). -/
inductive GrantCause where
  | placed | lost | noiseMove | trimmed | grown | loaned | returned | closed | left
deriving DecidableEq, Repr

/-- The last change of a grant record (R95). -/
structure LastChange where
  cause : GrantCause
  stamp : Word16
  displacing : Option Nat
deriving DecidableEq, Repr

/-- A grant record (R95): one entry per slot of its service. -/
structure GrantRecord where
  generation : BitVec 8
  entries : List (Option Run)
  last : Option LastChange
deriving DecidableEq, Repr

/-- The three grant records (R95). -/
structure Grants where
  data : GrantRecord
  video : GrantRecord
  voice : GrantRecord
deriving DecidableEq, Repr

/-- The data growth timer (R139): STOPPED is `none`. -/
structure GrowthTimer where
  left : Option Nat
  pace : Nat
deriving DecidableEq, Repr

/-! ### Placement Engine (R101) -/

/-- A placement request (R101). -/
structure Request where
  record : Nat
  generation : BitVec 4
  cls : ServiceClass
  width : Nat
  reason : SeekReason
  predecessor : Option Nat
deriving DecidableEq, Repr

/-- The stage of a placement (R101). A placement rests in CHOOSE only while its lend request is outstanding (R110).
`entering` is the model's own: a placement that R103 has started within the step being made, and that reads its snapshot and
enters CHOOSE at the end of that step (R105, R57, assumption log 4); no placement rests there between steps. -/
inductive Stage where
  | entering | choose | confirm | commit
deriving DecidableEq, Repr

/-- Progress of room-making (R101, R117). -/
inductive Room where
  | requested | done
deriving DecidableEq, Repr

/-- An active placement (R101). -/
structure Placement where
  request : Request
  stage : Stage
  attempts : Nat
  excluded : List Nat
  chosen : Option Run
  pendingSpots : List Nat
  room : Option Room
deriving DecidableEq, Repr

/-- A suspended placement keeps its request, attempts and excluded tiles (R101, R114). -/
structure Suspended where
  request : Request
  attempts : Nat
  excluded : List Nat
deriving DecidableEq, Repr

/-- The Placement Engine (R101); `queue` in queue order (R102). -/
structure Engine where
  queue : List Request
  active : Option Placement
  suspended : Option Suspended
deriving DecidableEq, Repr

/-! ### Loan Stack (R149) -/

/-- The state of a loan entry (R149). -/
inductive LoanState where
  | out | returned | void
deriving DecidableEq, Repr

/-- A loan entry (R149); its index is its place in `State.loans`, the oldest first. -/
structure LoanEntry where
  lender : Option Nat
  lenderGeneration : BitVec 4
  borrower : Nat
  borrowerGeneration : BitVec 4
  tile : Nat
  state : LoanState
deriving DecidableEq, Repr

/-! ### Coordination Transceiver (R39) -/

/-- An item of a frame's carried list (R39). -/
structure CarriedItem where
  record : Nat
  generation : BitVec 4
  phase : ClaimPhase
deriving DecidableEq, Repr

/-- A built frame (R39): its frame bytes and CRC as they go on the air, its deferral count, its deferral backoff and its
carried list. -/
structure Frame where
  bytes : List Byte
  deferrals : Nat
  backoff : Option Nat
  carried : List CarriedItem
deriving DecidableEq, Repr

/-- A frame buffer (R39); `left` is what remains of the transmission (R37). -/
inductive FrameBuffer where
  | empty
  | waiting (frame : Frame)
  | sending (frame : Frame) (left : Nat)
deriving DecidableEq, Repr

/-- The urgent allowance (R39). -/
inductive Allowance where
  | available | used
deriving DecidableEq, Repr

/-- The Coordination Transceiver (R39). `timer` is the announcement timer, STOPPED when `none`; `reception` holds the bytes
assembled so far. -/
structure Transceiver where
  timer : Option Nat
  lfsr : Word16
  bufA : FrameBuffer
  bufB : FrameBuffer
  allowance : Allowance
  urgentBackoff : Option Nat
  dropped : Nat
  reception : Option (List Byte)
deriving DecidableEq, Repr

/-! ### Service Interface (R137, R162, R172, R176) -/

/-- The link transaction state (R162). -/
inductive LinkState where
  | idle | code | args | response | spent
deriving DecidableEq, Repr

/-- The service link (R162): the request code and argument bytes received, the response buffer, the index of the next
byte of it, the time since the last clock edge, whether this transaction has timed out (R164), and the byte that the last
eight clocks brought out; what LNK_SDO carries next is `lnkSdo`. -/
structure Link where
  state : LinkState
  code : Byte
  args : List Byte
  response : List Byte
  index : Nat
  sinceEdge : Nat
  timedOut : Bool
  lastOut : Byte
deriving DecidableEq, Repr

/-- The data demand record (R137). -/
structure Demand where
  floor : Nat
  ceiling : Nat
deriving DecidableEq, Repr

/-- The latch and the acknowledgement of a call line (R172); SET is `true`. -/
structure CallLine where
  latch : Bool
  ack : Bool
deriving DecidableEq, Repr

/-- The attention latches and the attention mask, each a cause set (R168, R176, R177). -/
structure Attention where
  latched : Byte
  mask : Byte
deriving DecidableEq, Repr

/-! ### Start-up Loader (R178, R182) -/

/-- The part state (R178). -/
inductive PartState where
  | loading | warmListen | active | leaving | quiet | fault
deriving DecidableEq, Repr

/-- The fault cause (R178). -/
inductive FaultCause where
  | noFault | config | duplicateId
deriving DecidableEq, Repr

/-- The configuration values in force, after the clamps of R182. A sensitivity is `true` for EDGE_LEVEL. -/
structure ConfigValues where
  ownId : Nat
  bandLow : Nat
  bandHigh : Nat
  locks : List (Nat × Nat)
  holdLimit : Nat
  videoMax : Nat
  voiceMax : Nat
  dataMax : Nat
  noiseOn : Nat
  hysteresis : Nat
  edgeLevel : List Bool
  mask : Byte
deriving DecidableEq, Repr

/-- The Start-up Loader (R178), with whether RESET_N is held and whether the configuration read is in progress (R180). -/
structure Loader where
  inReset : Bool
  reading : Bool
  part : PartState
  faultCause : FaultCause
  warmCount : Nat
  leavingCount : Nat
  config : Option ConfigValues
deriving DecidableEq, Repr

/-- The ageing tick timer and the stamp that counts its ticks (R56, R178). -/
structure Clock where
  ageing : Option Nat
  stamp : Word16
deriving DecidableEq, Repr

/-- The input pins whose levels the rules read: LNK_CS_N (`true` when asserted), CALL0 to CALL3, and CC_CS. -/
structure Pins where
  linkSelected : Bool
  calls : List Bool
  ccCs : Bool
deriving DecidableEq, Repr

/-- The whole part. `outbox` holds the messages that one block has sent another and that have not yet arrived, oldest
first; `pending` holds the commands that are waiting. -/
structure State where
  loader : Loader
  clock : Clock
  chan : Transceiver
  peers : List PeerRecord
  tiles : List TileRecord
  scan : Scanner
  claims : List ClaimRecord
  growth : GrowthTimer
  grants : Grants
  engine : Engine
  loans : List LoanEntry
  link : Link
  demand : Demand
  lines : List CallLine
  attn : Attention
  pins : Pins
  outbox : List Instr
  pending : List Instr
deriving DecidableEq, Repr

/-! ### Reset values -/

/-- A tile record after reset (R1). -/
def TileRecord.reset : TileRecord := ⟨false, false, []⟩

/-- A tile's noise after reset (R21). -/
def TileNoise.reset : TileNoise := ⟨0, .quiet, 0⟩

/-- A claim record after reset (R73). -/
def ClaimRecord.reset : ClaimRecord where
  generation := 0
  cls := .data
  slot := 0
  width := 1
  phase := .free
  run := none
  listenCount := 0
  tentativeLosses := 0
  seekReason := .new
  predecessor := none
  successor := none
  onLoan := none
  drainCount := 0
  retry := none

/-- A grant record of `slots` slots after reset (R95). -/
def GrantRecord.reset (slots : Nat) : GrantRecord := ⟨0, List.replicate slots none, none⟩

/-- The transceiver after reset (R39). -/
def Transceiver.reset : Transceiver where
  timer := none
  lfsr := 0
  bufA := .empty
  bufB := .empty
  allowance := .available
  urgentBackoff := none
  dropped := 0
  reception := none

/-- The link after reset (R162). -/
def Link.reset : Link := ⟨.idle, 0, [], [], 0, 0, false, 0⟩

/-- The Placement Engine after reset (R101). -/
def Engine.reset : Engine := ⟨[], none, none⟩

/-- The machine right after power-on or assertion of RESET_N, before its release (R178), its input pins at rest and no
command waiting. -/
def State.reset : State where
  loader := ⟨true, false, .loading, .noFault, 0, 0, none⟩
  clock := ⟨none, 0⟩
  chan := Transceiver.reset
  peers := []
  tiles := List.replicate Config.tileCount TileRecord.reset
  scan := ⟨List.replicate Config.tileCount TileNoise.reset, 0, [], none⟩
  claims := List.replicate Config.recordCount ClaimRecord.reset
  growth := ⟨none, 0⟩
  grants := ⟨GrantRecord.reset 5, GrantRecord.reset 4, GrantRecord.reset 4⟩
  engine := Engine.reset
  loans := []
  link := Link.reset
  demand := ⟨0, 0⟩
  lines := List.replicate 4 ⟨false, false⟩
  attn := ⟨0, 0⟩
  pins := ⟨false, List.replicate 4 false, false⟩
  outbox := []
  pending := []

end Sys2Proof.Machine
end

