-- ==== Sys2Proof/Machine/Flags.lean ====
section
/-! DEFINITION. The attention causes, their latches and the attention output (R168, R176, R177). -/

namespace Sys2Proof.Machine

/-- The attention causes. -/
inductive Cause where
  | grant | lost | noise | unmet | link | peersFull | fault
deriving DecidableEq, Repr

/-- The bit of a cause in a cause set (R168). -/
def Cause.bit : Cause → Byte
  | .grant => 0x01
  | .lost => 0x02
  | .noise => 0x04
  | .unmet => 0x08
  | .link => 0x10
  | .peersFull => 0x20
  | .fault => 0x40

/-- The cause set of all seven causes (R177). -/
def allCauses : Byte := 0x7F

/-- Whether a cause's latch is SET (R176). -/
def State.isLatched (s : State) (c : Cause) : Bool := s.attn.latched &&& c.bit != 0

/-- The event that latches a cause sets its latch (R176). -/
def latch (c : Cause) (s : State) : State :=
  { s with attn := { s.attn with latched := s.attn.latched ||| c.bit } }

/-- ACK_ATTN clears every cause named in its set and leaves the others (R176). -/
def unlatch (causes : Byte) (s : State) : State :=
  { s with attn := { s.attn with latched := s.attn.latched &&& ~~~causes } }

/-- The ATTN output: high while at least one latched cause is unmasked (R177). -/
def attnOutput (s : State) : Bool := s.attn.latched &&& s.attn.mask != 0

end Sys2Proof.Machine
end

