-- ==== Sys2Proof/Machine/Ops.lean ====
section
/-! DEFINITION. The operations that several blocks share: reads of the claim records and of the band, urgent-build requests,
placement requests and cancellations, grant changes, releases and the taking of records. -/

namespace Sys2Proof.Machine

/-! ### Runs -/

/-- The last tile of a run. -/
def runLast (x : Run) : Nat := x.first + x.width - 1

/-- Whether a tile lies in a run. -/
def runHas (x : Run) (t : Nat) : Bool := decide (x.first ≤ t) && decide (t < x.first + x.width)

/-- The tiles of a run, ascending. -/
def runTiles (x : Run) : List Nat := List.range' x.first x.width

/-! ### Part state and configuration -/

/-- Whether the part is in ACTIVE. -/
def isActive (s : State) : Bool := s.loader.part == .active

/-- The own id; absent until a configuration record is accepted (R181). -/
def ownId (s : State) : Option Nat := s.loader.config.map (·.ownId)

/-- HOLD_LIMIT in force (R79). -/
def holdLimit (s : State) : Nat := (s.loader.config.map (·.holdLimit)).getD 0

/-- NOISE_ON in use (R22). -/
def noiseOn (s : State) : Nat := (s.loader.config.map (·.noiseOn)).getD Config.defaultNoiseOn

/-- NOISE_OFF in use: NOISE_ON less the hysteresis (R22). -/
def noiseOff (s : State) : Nat :=
  noiseOn s - (s.loader.config.map (·.hysteresis)).getD Config.defaultHysteresis

/-- The class maximum of open programs or calls, or the data ceiling maximum. -/
def classMax (s : State) : ServiceClass → Nat
  | .data => (s.loader.config.map (·.dataMax)).getD 0
  | .video => (s.loader.config.map (·.videoMax)).getD 0
  | .voice => (s.loader.config.map (·.voiceMax)).getD 0

/-! ### Claim records -/

/-- The rank of a class: a higher rank is stronger (R10). -/
def rank : ServiceClass → Nat
  | .data => 1
  | .video => 2
  | .voice => 3

/-- The claim record of an id. -/
def State.claim (s : State) (r : Nat) : ClaimRecord := s.claims.getD r ClaimRecord.reset

/-- Replaces the claim record of an id. -/
def setClaim (r : Nat) (c : ClaimRecord) (s : State) : State := { s with claims := s.claims.set r c }

/-- The phases in which a record holds tiles (R76). -/
def Phase.holds : Phase → Bool
  | .tentative => true
  | .held => true
  | .moving => true
  | .draining => true
  | .parked => true
  | .free => false
  | .seeking => false

/-- The phases in which a record's run is granted (R76, R95). -/
def Phase.granted : Phase → Bool
  | .held => true
  | .moving => true
  | _ => false

/-- Whether a tile lies in the run of a record that holds tiles (R76). -/
def ClaimRecord.ownsTile (c : ClaimRecord) (t : Nat) : Bool :=
  c.phase.holds && (match c.run with
    | some x => runHas x t
    | none => false)

/-- The own record in whose run a tile lies (R76). -/
def ownRecord (s : State) (t : Nat) : Option Nat := s.claims.findIdx? (·.ownsTile t)

/-- Whether a tile lies in an own run (R76). -/
def isOwn (s : State) (t : Nat) : Bool := s.claims.any (·.ownsTile t)

/-- The width of a record's run. -/
def ClaimRecord.runWidth (c : ClaimRecord) : Nat :=
  match c.run with
  | some x => x.width
  | none => 0

/-- Whether a record counts in the held total: TENTATIVE, HELD, MOVING or PARKED, and no successor (R79). -/
def ClaimRecord.counted (c : ClaimRecord) : Bool :=
  (c.phase == .tentative || c.phase == .held || c.phase == .moving || c.phase == .parked) && c.predecessor.isNone

/-- The held total (R79). -/
def heldTotal (s : State) : Nat := ((s.claims.filter (·.counted)).map (·.runWidth)).sum

/-- Whether a record's tiles are data tiles: DATA in TENTATIVE or HELD (R138). -/
def ClaimRecord.isData (c : ClaimRecord) : Bool :=
  c.cls == .data && (c.phase == .tentative || c.phase == .held)

/-- The data count (R138). -/
def dataCount (s : State) : Nat := ((s.claims.filter (·.isData)).map (·.runWidth)).sum

/-- Whether a record is a growth record: DATA in SEEKING or TENTATIVE (R138). -/
def ClaimRecord.isGrowth (c : ClaimRecord) : Bool :=
  c.cls == .data && (c.phase == .seeking || c.phase == .tentative)

/-- Whether a record keeps its program or call open: a primary in SEEKING, TENTATIVE, HELD or MOVING (R78). -/
def ClaimRecord.opens (c : ClaimRecord) (k : ServiceClass) (slot : Nat) : Bool :=
  c.cls == k && c.slot == slot && c.predecessor.isNone &&
    (c.phase == .seeking || c.phase == .tentative || c.phase == .held || c.phase == .moving)

/-- Whether the program or call of a slot is open (R78). -/
def slotOpen (s : State) (k : ServiceClass) (slot : Nat) : Bool := s.claims.any (·.opens k slot)

/-- The number of open programs or calls (R78). -/
def openCount (s : State) (k : ServiceClass) : Nat := (List.range 4).countP (slotOpen s k)

/-- A record becomes FREE: no run, no retry timer, no link and no loan. -/
def ClaimRecord.freed (c : ClaimRecord) : ClaimRecord :=
  { c with phase := .free, run := none, predecessor := none, successor := none, onLoan := none, retry := none }

/-- The record's run loses all its tiles: the generation increases (R75). -/
def ClaimRecord.unrun (c : ClaimRecord) : ClaimRecord := { c with generation := c.generation + 1, run := none }

/-! ### Reads of the band -/

/-- The tile record of a tile. -/
def State.tile (s : State) (t : Nat) : TileRecord := s.tiles.getD t TileRecord.reset

/-- What the scanner holds for a tile. -/
def State.noise (s : State) (t : Nat) : TileNoise := s.scan.tiles.getD t TileNoise.reset

/-- The reported level L of a filtered level F (R26). -/
def reportedLevel (f : Nat) : Nat := (f + 4) / 8

/-- Whether any tile of a record's run is NOISY (R35). -/
def anyNoisy (s : State) (r : Nat) : Bool :=
  match (s.claim r).run with
  | some x => (runTiles x).any (fun t => (s.noise t).state == .noisy)
  | none => false

/-- Whether every tile of a record's run is QUIET (R35). -/
def allQuiet (s : State) (r : Nat) : Bool :=
  match (s.claim r).run with
  | some x => (runTiles x).all (fun t => (s.noise t).state == .quiet)
  | none => true

/-! ### Messages between blocks -/

/-- One block sends another a message. -/
def send (m : Instr) (s : State) : State := { s with outbox := s.outbox ++ [m] }

/-- A message that arrives is no longer on its way. -/
def arrive (m : Instr) (s : State) : State := { s with outbox := s.outbox.erase m }

/-! ### LFSR and urgent builds -/

/-- One advance of the LFSR: taps at bits 16, 14, 13 and 11, every bit up one place (R40). -/
def lfsrNext (x : Word16) : Word16 :=
  (x <<< 1) ||| (((x >>> 15) ^^^ (x >>> 13) ^^^ (x >>> 12) ^^^ (x >>> 10)) &&& 1)

/-- The backoff drawn with an LFSR value: 1 to 8 contention slots (R40). -/
def backoffOf (x : Word16) : Nat := (x.toNat % 8 + 1) * Config.contentionSlot

/-- The announcement period drawn with an LFSR value: 88 to 112 ms (R41). -/
def periodOf (x : Word16) : Nat := (88 + x.toNat % 25) * 1000

/-- The transceiver takes an urgent-build request in ACTIVE (R47). -/
def Transceiver.takeUrgent (c : Transceiver) : Transceiver :=
  match c.allowance with
  | .available =>
    { c with lfsr := lfsrNext c.lfsr, urgentBackoff := some (backoffOf (lfsrNext c.lfsr)), allowance := .used }
  | .used => c

/-- The Claim Table asks for an urgent build; ignored outside ACTIVE (R47). -/
def urgentRequest (s : State) : State :=
  { s with chan := if isActive s then s.chan.takeUrgent else s.chan }

/-! ### Spot queue -/

/-- A measurement that serves a spot entry which leaves the queue runs on, and no result is sent for it (R34). -/
def Measurement.orphaned (m : Measurement) : Measurement :=
  if m.serves = .spot then { m with serves := .withdrawnSpot } else m

/-- Withdrawal of every spot entry that carries a tag (R34). The oldest entry is the one in measurement. -/
def Scanner.withdraw (sc : Scanner) (tag : SpotTag) : Scanner :=
  { sc with
    spots := sc.spots.filter (fun e => decide (e.tag ≠ tag))
    measuring := match sc.spots.head? with
      | some e => if e.tag = tag then sc.measuring.map (·.orphaned) else sc.measuring
      | none => sc.measuring }

/-- The spot queue is emptied on entry to LEAVING and to FAULT (R34). -/
def Scanner.empty (sc : Scanner) : Scanner :=
  { sc with spots := [], measuring := sc.measuring.map (·.orphaned) }

/-! ### Placement requests and cancellations -/

/-- The tag of a placement's spot checks (R101). -/
def Request.tag (q : Request) : SpotTag := ⟨q.record, q.generation⟩

/-- The placement request of a claim record (R101). -/
def requestOf (s : State) (r : Nat) : Request where
  record := r
  generation := (s.claim r).generation
  cls := (s.claim r).cls
  width := (s.claim r).width
  reason := (s.claim r).seekReason
  predecessor := (s.claim r).predecessor

/-- A request joins the queue after every request of equal or higher rank and before every one of lower rank (R102). -/
def joinQueue (q : Request) : List Request → List Request
  | [] => [q]
  | h :: t => if rank h.cls < rank q.cls then q :: h :: t else h :: joinQueue q t

/-- The active placement is suspended: its spot checks are withdrawn and it keeps its request, attempts and excluded tiles
(R114). -/
def suspendActive (p : Placement) (e : Engine) (sc : Scanner) : Engine × Scanner :=
  ({ e with active := none, suspended := some ⟨p.request, p.attempts, p.excluded⟩ }, sc.withdraw p.request.tag)

/-- After a request has been placed, a VOICE request suspends a non-voice placement in CONFIRM (R102, R114). -/
def suspendFor (q : Request) (e : Engine) (sc : Scanner) : Engine × Scanner :=
  match e.active with
  | some p =>
    if q.cls = .voice ∧ p.request.cls ≠ .voice ∧ p.stage = .confirm then suspendActive p e sc else (e, sc)
  | none => (e, sc)

/-- The active placement of a record is discarded, with its spot checks withdrawn in CONFIRM (R104). -/
def discardActive (r : Nat) (e : Engine) (sc : Scanner) : Engine × Scanner :=
  match e.active with
  | some p =>
    if p.request.record = r then
      ({ e with active := none }, if p.stage = .confirm then sc.withdraw p.request.tag else sc)
    else (e, sc)
  | none => (e, sc)

/-- The suspended placement of a record is discarded (R104). -/
def discardSuspended (r : Nat) (e : Engine) : Engine :=
  match e.suspended with
  | some p => if p.request.record = r then { e with suspended := none } else e
  | none => e

/-- A cancellation names a record: whatever the engine holds for it goes (R104). -/
def cancelIn (r : Nat) (e : Engine) (sc : Scanner) : Engine × Scanner :=
  discardActive r (discardSuspended r { e with queue := e.queue.filter (fun q => decide (q.record ≠ r)) }) sc

/-- The generation of the active or suspended placement that the engine holds for a record. -/
def placementGeneration (r : Nat) (e : Engine) : Option (BitVec 4) :=
  match e.active, e.suspended with
  | some p, some u =>
    if p.request.record = r then some p.request.generation
    else if u.request.record = r then some u.request.generation else none
  | some p, none => if p.request.record = r then some p.request.generation else none
  | none, some u => if u.request.record = r then some u.request.generation else none
  | none, none => none

/-- A placement request arrives in ACTIVE (R102). DEDUCED (assumption log 31): a request under another generation discards the
placement as on a cancellation, which by R104 starts the next one; here the new request joins the queue first, and the next one
is started after that, as R102 ends. -/
def requestIn (q : Request) (e : Engine) (sc : Scanner) : Engine × Scanner :=
  if e.queue.any (fun h => h.record == q.record) then
    suspendFor q { e with queue := e.queue.map (fun h => if h.record = q.record then q else h) } sc
  else
    match placementGeneration q.record e with
    | none => suspendFor q { e with queue := joinQueue q e.queue } sc
    | some g =>
      if g = q.generation then (e, sc)
      else
        let d := cancelIn q.record e sc
        suspendFor q { d.1 with queue := joinQueue q d.1.queue } d.2

/-- Whether the queue holds a VOICE request. -/
def voiceQueued (e : Engine) : Bool := e.queue.any (fun q => q.cls == .voice)

/-- Replaces the active placement. -/
def setActive (p : Option Placement) (s : State) : State := { s with engine := { s.engine with active := p } }

/-- A request that becomes the active placement, `attempts` and `excluded` as given (R103, R115). -/
def Request.entering (q : Request) (attempts : Nat) (excluded : List Nat) : Placement :=
  ⟨q, .entering, attempts, excluded, none, [], none⟩

/-- The request at the head of the queue becomes the active placement (R103). -/
def Engine.takeHead (e : Engine) : Engine :=
  match e.queue with
  | q :: rest => { e with queue := rest, active := some (q.entering 0 []) }
  | [] => e

/-- The suspended placement resumes as a re-entry into CHOOSE; its attempts at 3, it ends as NO_ROOM, and the next placement is
started (R108, R115). With the engine, the outcome that is sent. -/
def Engine.resume (u : Suspended) (e : Engine) : Engine × List Instr :=
  if u.attempts < Config.maxAttempts then
    ({ e with active := some (u.request.entering (u.attempts + 1) u.excluded), suspended := none }, [])
  else
    ({ e with suspended := none }.takeHead, [.placementOutcome u.request.record u.request.generation .noRoom])

/-- An engine without an active placement starts the next one (R103). -/
def Engine.next (e : Engine) : Engine × List Instr :=
  if e.active.isSome then (e, [])
  else
    match e.suspended with
    | some u => if voiceQueued e then (e.takeHead, []) else e.resume u
    | none => (e.takeHead, [])

/-- Where it is due, the next placement is started (R103). It enters CHOOSE at the end of the step (assumption log 4). -/
def takeUpIf (due : Bool) (s : State) : State :=
  let d := if due then s.engine.next else (s.engine, [])
  { s with engine := d.1, outbox := s.outbox ++ d.2 }

/-- The Claim Table sends a placement request for a record, and it is placed in the engine; outside ACTIVE it is discarded on
arrival (R101, R102). -/
def queuePlacement (r : Nat) (s : State) : State :=
  let d := if isActive s then requestIn (requestOf s r) s.engine s.scan else (s.engine, s.scan)
  { s with engine := d.1, scan := d.2 }

/-- The Claim Table sends a placement request for a record; after it has been placed, an engine without an active placement
starts the next one (R102, R103). -/
def requestPlacement (r : Nat) (s : State) : State := takeUpIf (isActive s) (queuePlacement r s)

/-- Whatever the engine holds for a record goes (R104). -/
def discardPlacement (r : Nat) (s : State) : State :=
  let d := cancelIn r s.engine s.scan
  { s with engine := d.1, scan := d.2 }

/-- The Claim Table sends a cancellation naming a record; when the active placement is discarded, the next one is started
(R104, R103). -/
def cancel (r : Nat) (s : State) : State :=
  let u := discardPlacement r s
  takeUpIf (s.engine.active.isSome && u.engine.active.isNone) u

/-! ### Grant records -/

/-- The slots of a service (R95). -/
def slotCount : ServiceClass → Nat
  | .data => 5
  | .video => 4
  | .voice => 4

/-- The grant record of a service. -/
def Grants.of (g : Grants) : ServiceClass → GrantRecord
  | .data => g.data
  | .video => g.video
  | .voice => g.voice

/-- Replaces the grant record of a service. -/
def Grants.put (g : Grants) (k : ServiceClass) (x : GrantRecord) : Grants :=
  match k with
  | .data => { g with data := x }
  | .video => { g with video := x }
  | .voice => { g with voice := x }

/-- The entry a slot has by the law of R95: the run of the record of that class and slot in HELD or MOVING. -/
def grantEntry (claims : List ClaimRecord) (k : ServiceClass) (slot : Nat) : Option Run :=
  match claims.find? (fun c => c.cls == k && c.slot == slot && c.phase.granted) with
  | some c => c.run
  | none => none

/-- The entries of a service by the law of R95. -/
def grantEntries (claims : List ClaimRecord) (k : ServiceClass) : List (Option Run) :=
  (List.range (slotCount k)).map (grantEntry claims k)

/-- Whether the claim records of a service have moved on from its grant record. -/
def grantMoved (s : State) (k : ServiceClass) : Bool := decide (grantEntries s.claims k ≠ (s.grants.of k).entries)

/-- One grant change: the generation increases, the last change is replaced (R96). -/
def GrantRecord.changed (g : GrantRecord) (entries : List (Option Run)) (cause : GrantCause) (stamp : Word16)
    (displacing : Option Nat) : GrantRecord :=
  ⟨g.generation + 1, entries, some ⟨cause, stamp, displacing⟩⟩

/-- An event at the Claim Table has moved the entries of a service: one grant change with the event's cause, and GRANT is
latched. An event that changes no entry makes no change (R96). -/
def commitGrant (k : ServiceClass) (cause : GrantCause) (displacing : Option Nat) (s : State) : State :=
  { s with
    grants := if grantMoved s k then
        s.grants.put k ((s.grants.of k).changed (grantEntries s.claims k) cause s.clock.stamp displacing)
      else s.grants
    attn := if grantMoved s k then (latch .grant s).attn else s.attn }

/-! ### Records taken and released -/

/-- The release of a record's whole run (R77): the generation increases and an urgent build is requested. -/
def releaseRun (r : Nat) (s : State) : State := urgentRequest (setClaim r (s.claim r).unrun s)

/-- The lowest-numbered FREE record (R74). -/
def freeRecord (s : State) : Option Nat := s.claims.findIdx? (fun c => c.phase == .free)

/-- The number of DATA records that are not FREE (R74). -/
def dataRecords (s : State) : Nat := s.claims.countP (fun c => c.cls == .data && c.phase != .free)

/-- The number of successors (R74). -/
def successorCount (s : State) : Nat := s.claims.countP (fun c => c.phase != .free && c.predecessor.isSome)

/-- The record that R74 takes for a claim, or none where it refuses the claim. -/
def takable (k : ServiceClass) (predecessor : Option Nat) (s : State) : Option Nat :=
  if k = .data ∧ Config.maxDataRecords ≤ dataRecords s then none
  else if predecessor.isSome ∧ Config.maxSuccessors ≤ successorCount s then none
  else freeRecord s

/-- A record as it is taken for a claim: from FREE to SEEKING (R74). -/
def ClaimRecord.taken (c : ClaimRecord) (k : ServiceClass) (slot width : Nat) (reason : SeekReason)
    (predecessor : Option Nat) : ClaimRecord where
  generation := c.generation + 1
  cls := k
  slot := slot
  width := width
  phase := .seeking
  run := none
  listenCount := 0
  tentativeLosses := 0
  seekReason := reason
  predecessor := predecessor
  successor := none
  onLoan := none
  drainCount := 0
  retry := none

/-- An open takes a record and, in ACTIVE, requests its placement; refused, it changes nothing (R78). -/
def openSlot (k : ServiceClass) (slot width : Nat) (s : State) : State :=
  match takable k none s with
  | some r => requestPlacement r (setClaim r ((s.claim r).taken k slot width .new none) s)
  | none => s

/-- An event on the part's pins or timers has no effect while RESET_N is held, because every item of every block then has
its reset value (R178). -/
def outOfReset (s : State) (f : State → State) : Host.Outcome State Fault Refusal :=
  .next (if s.loader.inReset then s else f s)

end Sys2Proof.Machine
end

