-- ==== Sys2Proof/Machine/Operands.lean ====
section
/-! DEFINITION. The byte layouts: the announcement frame (R44, R50), the configuration record (R179 to R182), and the cause
set, status, grant and map layouts of the service link (R168 to R171). -/

namespace Sys2Proof.Machine

/-! ### Bytes and the CRC-16 -/

/-- A natural number as a byte. -/
def byteOf (n : Nat) : Byte := BitVec.ofNat 8 n

/-- A 16-bit value as two bytes, high byte first. -/
def bytes16 (n : Nat) : List Byte := [byteOf (n / 256), byteOf (n % 256)]

/-- Two bytes as one value, high byte first. -/
def value16 (hi lo : Byte) : Nat := hi.toNat * 256 + lo.toNat

/-- The byte at an index of a byte string; an undriven line reads 0xFF (R180). -/
def byteAt (bs : List Byte) (i : Nat) : Byte := bs.getD i 0xFF

/-- One bit of the CRC-16 with polynomial x^16 + x^12 + x^5 + 1 (R44). -/
def crcBit (crc : Word16) : Word16 := if crc.msb then (crc <<< 1) ^^^ 0x1021 else crc <<< 1

/-- One byte of the CRC-16, most significant bit first (R44). -/
def crcByte (crc : Word16) (b : Byte) : Word16 :=
  crcBit (crcBit (crcBit (crcBit (crcBit (crcBit (crcBit (crcBit (crc ^^^ (b.setWidth 16 <<< 8)))))))))

/-- The CRC-16 of a byte string, preset to 0xFFFF, without reflection or inversion (R44, R180). -/
def crc16 (bs : List Byte) : Word16 := bs.foldl crcByte 0xFFFF

/-! ### The announcement frame -/

/-- The frame type ANNOUNCE (R44). -/
def announceType : Byte := 0xA1

/-- The class bits of an entry: 01 DATA, 10 VIDEO, 11 VOICE (R44). -/
def classBits (k : ServiceClass) : Nat := rank k

/-- The class of the class bits; 00 is no class (R50). -/
def classOfBits : Nat → Option ServiceClass
  | 1 => some .data
  | 2 => some .video
  | 3 => some .voice
  | _ => none

/-- The phase bit of an entry (R44). -/
def phaseBit : ClaimPhase → Nat
  | .tentative => 0
  | .held => 1

/-- The two bytes of an entry (R44). -/
def entryBytes (h : HeardRun) : List Byte :=
  [byteOf h.run.first, byteOf (h.run.width - 1 + 8 * classBits h.cls + 32 * phaseBit h.phase)]

/-- The frame bytes of an announcement, without the CRC (R44). -/
def frameBytes (station : Nat) (leaving : Bool) (entries : List HeardRun) : List Byte :=
  announceType :: bytes16 station ++ [if leaving then 1 else 0, byteOf entries.length] ++ entries.flatMap entryBytes

/-- A byte string followed by its CRC, high byte first (R44). -/
def withCrc (bs : List Byte) : List Byte := bs ++ bytes16 (crc16 bs).toNat

/-- The bits of a byte, most significant first (R37). -/
def byteBits (b : Byte) : List Bool := (List.range 8).map (fun i => b.getLsbD (7 - i))

/-- The preamble: 16 bits, alternating ones and zeros, starting with a one (R37). -/
def preamble : List Byte := [0xAA, 0xAA]

/-- The sync word, 0xB38E (R37). -/
def syncWord : List Byte := [0xB3, 0x8E]

/-- The bits of a transmission in the order they are sent: preamble, sync word, and the frame's bytes with their CRC (R37). -/
def airBits (bs : List Byte) : List Bool := (preamble ++ syncWord ++ bs).flatMap byteBits

/-- The air time of a frame, CRC included: 32 bits of preamble and sync word, then its bytes, at 1 µs a bit (R37). -/
def airTime (bs : List Byte) : Nat := 32 + 8 * bs.length

/-- The entry of two received bytes, where R50 allows it. -/
def parseEntry (b0 b1 : Byte) : Option HeardRun :=
  match classOfBits (b1.toNat / 8 % 4) with
  | some k =>
    if b0.toNat + b1.toNat % 8 ≤ 119 ∧ b1.toNat / 64 = 0 then
      some ⟨⟨b0.toNat, b1.toNat % 8 + 1⟩, k, if b1.toNat / 32 % 2 = 1 then .held else .tentative⟩
    else none
  | none => none

/-- The `n` entries of the bytes after the header, where every one is allowed (R50). -/
def parseEntries : Nat → List Byte → Option (List HeardRun)
  | 0, _ => some []
  | n + 1, b0 :: b1 :: rest =>
    match parseEntry b0 b1, parseEntries n rest with
    | some h, some hs => some (h :: hs)
    | _, _ => none
  | _ + 1, _ => none

/-- A valid received frame. -/
structure ReceivedFrame where
  station : Nat
  leaving : Bool
  entries : List HeardRun
deriving DecidableEq, Repr

/-- The expected length of a frame whose header is known, CRC included (R49). -/
def expectedLength (bs : List Byte) : Nat := 7 + 2 * (byteAt bs 4).toNat

/-- Validation of a reception that ended with its carrier energy (R49, R50): none where the frame is dropped. The receiver
assembles no byte past the expected length. -/
def parseFrame (bs : List Byte) : Option ReceivedFrame :=
  let n := (byteAt bs 4).toNat
  let body := bs.take (5 + 2 * n)
  let station := value16 (byteAt bs 1) (byteAt bs 2)
  if bs.length < 5 ∨ Config.maxFrameEntries < n ∨ bs.length < 7 + 2 * n then none
  else if crc16 body ≠ BitVec.ofNat 16 (value16 (byteAt bs (5 + 2 * n)) (byteAt bs (6 + 2 * n))) then none
  else if byteAt bs 0 ≠ announceType ∨ station = 0 ∨ station = 65535 ∨ (byteAt bs 3).toNat / 2 ≠ 0 then none
  else (parseEntries n (body.drop 5)).map (fun hs => ⟨station, byteAt bs 3 == 1, hs⟩)

/-! ### The configuration record -/

/-- A value brought into a range. -/
def clamp (lo hi x : Nat) : Nat := max lo (min hi x)

/-- The hysteresis in force, after NOISE_ON's own clamp (R182). -/
def clampHysteresis (on h : Nat) : Nat :=
  if on ≤ clamp 2 12 h then on - 1 else clamp 2 12 h

/-- A lock range in force: absent where its first tile exceeds its last or it lies wholly above tile 119, else cut at tile
119; the unused range 0xFF 0xFF lies wholly above (R182). -/
def lockRange (lo hi : Byte) : List (Nat × Nat) :=
  if hi.toNat < lo.toNat ∨ 119 < lo.toNat then [] else [(lo.toNat, min 119 hi.toNat)]

/-- The bytes that the configuration read sends on CFG_SDO: the read byte and two address bytes (R180). -/
def configReadCommand : List Byte := [0x03, 0x00, 0x00]

/-- The bytes of a configuration record, clocked in on CFG_SDI (R179, R180). -/
def configRecordLength : Nat := 32

/-- The clocks of the configuration read, eight for each byte sent and each byte clocked in (R180). -/
def configReadClocks : Nat := 8 * (configReadCommand.length + configRecordLength)

/-- Whether a configuration record is accepted (R181). -/
def recordAccepted (bs : List Byte) : Bool :=
  byteAt bs 0 == 0xC5 &&
  crc16 (bs.take 30) == BitVec.ofNat 16 (value16 (byteAt bs 30) (byteAt bs 31)) &&
  value16 (byteAt bs 1) (byteAt bs 2) != 0 &&
  value16 (byteAt bs 1) (byteAt bs 2) != 65535 &&
  decide ((byteAt bs 3).toNat ≤ (byteAt bs 4).toNat) &&
  decide ((byteAt bs 4).toNat ≤ 119)

/-- The values in force of an accepted record (R179, R182). -/
def recordValues (bs : List Byte) : ConfigValues where
  ownId := value16 (byteAt bs 1) (byteAt bs 2)
  bandLow := (byteAt bs 3).toNat
  bandHigh := (byteAt bs 4).toNat
  locks := lockRange (byteAt bs 5) (byteAt bs 6) ++ lockRange (byteAt bs 7) (byteAt bs 8) ++
    lockRange (byteAt bs 9) (byteAt bs 10) ++ lockRange (byteAt bs 11) (byteAt bs 12)
  holdLimit := clamp 1 48 (byteAt bs 13).toNat
  videoMax := min 4 (byteAt bs 14).toNat
  voiceMax := min 4 (byteAt bs 15).toNat
  dataMax := min 32 (byteAt bs 16).toNat
  noiseOn := clamp 6 48 (byteAt bs 17).toNat
  hysteresis := clampHysteresis (clamp 6 48 (byteAt bs 17).toNat) (byteAt bs 18).toNat
  edgeLevel := (List.range 4).map (fun n => (byteAt bs 19).getLsbD n)
  mask := byteAt bs 20 &&& allCauses

/-! ### Service-link layouts -/

/-- Four flags as bits 3..0, flag 0 in bit 0. -/
def nibble (bs : List Bool) : Nat :=
  (List.range 4).foldl (fun n i => if bs.getD i false then n + 2 ^ i else n) 0

/-- The part state byte (R169). -/
def partByte : PartState → Byte
  | .loading => 0
  | .warmListen => 1
  | .active => 2
  | .leaving => 3
  | .quiet => 4
  | .fault => 5

/-- The fault cause byte (R169). -/
def faultByte : FaultCause → Byte
  | .noFault => 0
  | .config => 1
  | .duplicateId => 2

/-- The last-change cause byte (R170). -/
def causeByte : GrantCause → Byte
  | .placed => 1
  | .lost => 2
  | .noiseMove => 3
  | .trimmed => 4
  | .grown => 5
  | .loaned => 6
  | .returned => 7
  | .closed => 8
  | .left => 9

/-- The placement busy indication: a placement is active or suspended, or a request is queued (R121). -/
def placementBusy (e : Engine) : Bool := e.active.isSome || e.suspended.isSome || !e.queue.isEmpty

/-- The 12 bytes of READ_STATUS (R169). -/
def statusBytes (s : State) : List Byte :=
  [partByte s.loader.part,
    faultByte s.loader.faultCause,
    s.attn.latched,
    s.attn.mask,
    byteOf (nibble (s.lines.map (·.latch)) + 16 * nibble s.pins.calls),
    byteOf (nibble (s.lines.map (·.ack)) + if placementBusy s.engine then 16 else 0),
    byteOf s.peers.length,
    byteOf (heldTotal s)] ++
  bytes16 s.chan.dropped ++ bytes16 s.clock.stamp.toNat

/-- The two bytes of a grant entry (R170). -/
def grantEntryBytes : Option Run → List Byte
  | some x => [byteOf x.first, byteOf x.width]
  | none => [0xFF, 0]

/-- The service number (R170). -/
def serviceByte : ServiceClass → Byte
  | .data => 0
  | .video => 1
  | .voice => 2

/-- The service of a service number (R166, R170). -/
def serviceOf (b : Byte) : Option ServiceClass :=
  match b.toNat with
  | 0 => some .data
  | 1 => some .video
  | 2 => some .voice
  | _ => none

/-- The cause, stamp and displacing station of a last change; zeros where absent (R170). -/
def lastChangeBytes : Option LastChange → List Byte
  | some x => causeByte x.cause :: bytes16 x.stamp.toNat ++ bytes16 (x.displacing.getD 0)
  | none => [0, 0, 0, 0, 0]

/-- The bytes of READ_GRANT (R170). -/
def grantBytes (k : ServiceClass) (g : GrantRecord) : List Byte :=
  [serviceByte k, g.generation] ++ lastChangeBytes g.last ++ g.entries.flatMap grantEntryBytes

/-- The noise state bits of a tile summary (R171). -/
def noiseBits : NoiseState → Nat
  | .quiet => 0
  | .noisy => 1
  | .recovering => 2

/-- The class and effective phase bits of a tile summary's first claimant (R171). -/
def firstClaimantBits : List ClaimantEntry → Nat
  | e :: _ => 32 * classBits e.cls + 128 * phaseBit e.effective
  | [] => 0

/-- The two bytes of a tile summary (R171). -/
def tileSummary (s : State) (t : Nat) : List Byte :=
  [byteOf (reportedLevel (s.noise t).level + 64 * noiseBits (s.noise t).state),
    byteOf ((if (s.tile t).locked then 1 else 0) + (if (s.tile t).inWindow then 2 else 0) + (if isOwn s t then 4 else 0) +
      8 * (s.tile t).claimants.length + firstClaimantBits (s.tile t).claimants)]

/-- The bytes of READ_MAP: `count` summaries from `start` on, wrapping from 119 to 0 (R171). -/
def mapBytes (s : State) (start count : Nat) : List Byte :=
  (List.range count).flatMap (fun i => tileSummary s ((start + i) % Config.tileCount))

end Sys2Proof.Machine
end

