-- ==== Sys2Proof/Machine/DataService.lean ====
section
/-! DEFINITION. The data service: the trims (R145, R146), paced growth (R139 to R142), the merge of a growth record (R144)
and the effect of a changed demand (R147). -/

namespace Sys2Proof.Machine

/-! ### Trimming -/

/-- What survives of a run when one of its tiles is cut: the wider part, the lower of two equal ones, or nothing (R145). -/
def trimmedRun (x : Run) (t : Nat) : Option Run :=
  let lower := t - x.first
  let upper := runLast x - t
  if lower = 0 ∧ upper = 0 then none
  else if upper ≤ lower then some ⟨x.first, lower⟩
  else some ⟨t + 1, upper⟩

/-- A trim orphans every loan entry that names the record as lender under its old generation (R154). -/
def orphanLoans (r : Nat) (g : BitVec 4) (loans : List LoanEntry) : List LoanEntry :=
  loans.map (fun e => if e.lender = some r ∧ e.lenderGeneration = g then { e with lender := none } else e)

/-- A data record with what a cut leaves of its run: FREE where nothing survives (R145). -/
def ClaimRecord.keeping (c : ClaimRecord) : Option Run → ClaimRecord
  | some x => { c with run := some x, width := x.width }
  | none => c.freed

/-- A record is cut to what survives under a new generation, and its loans are orphaned (R145, R154). -/
def cutRecord (r : Nat) (kept : Option Run) (s : State) : State :=
  { s with
    claims := s.claims.set r
      (ClaimRecord.keeping { s.claim r with generation := (s.claim r).generation + 1 } kept)
    loans := orphanLoans r (s.claim r).generation s.loans }

/-- The single-tile trim of a data record (R145). -/
def trimTile (r t : Nat) (s : State) : State :=
  match (s.claim r).run with
  | some x => urgentRequest (cutRecord r (trimmedRun x t) s)
  | none => s

/-- The record that holds the highest data tile. -/
def highestData (s : State) : Option Nat :=
  (List.range Config.recordCount).foldl (fun best r =>
    if (s.claim r).isData then
      match (s.claim r).run, best with
      | some x, some b =>
        (match (s.claim b).run with
        | some y => if runLast y < runLast x then some r else best
        | none => some r)
      | some _, none => some r
      | none, _ => best
    else best) none

/-- A run without its last tile. -/
def dropLastTile (x : Run) : Option Run := if x.width ≤ 1 then none else some ⟨x.first, x.width - 1⟩

/-- What the engine still holds for a record of which nothing survives a trim is discarded (R142, R104). -/
def cancelCut (r : Nat) (kept : Option Run) (s : State) : State := if kept.isNone then cancel r s else s

/-- One tile of a top-down trim: the last tile of record `r`, which takes one new generation in the whole trim (R146). -/
def cutTop (r : Nat) (cut : List Nat) (s : State) : State :=
  match (s.claim r).run with
  | some x =>
    cancelCut r (dropLastTile x)
      (if cut.contains r then setClaim r ((s.claim r).keeping (dropLastTile x)) s
      else cutRecord r (dropLastTile x) s)
  | none => s

/-- The tiles of a top-down trim, one at a time from the highest data tile; `cut` holds the records already cut (R146). -/
def cutHighest : Nat → List Nat → State → State
  | 0, _, s => s
  | k + 1, cut, s =>
    match highestData s with
    | some r => cutHighest k (r :: cut) (cutTop r cut s)
    | none => s

/-- The top-down trim of `k` data tiles as one event: one data grant change at most, and one urgent build (R146). -/
def topDownTrim (k : Nat) (s : State) : State :=
  if k = 0 then s else commitGrant .data .trimmed none (urgentRequest (cutHighest k [] s))

/-- A data count above the ceiling is trimmed (R147). -/
def trimToCeiling (s : State) : State := topDownTrim (dataCount s - s.demand.ceiling) s

/-! ### Growth -/

/-- Whether a growth record exists (R141, hold 1). -/
def growthExists (s : State) : Bool := s.claims.any (·.isGrowth)

/-- The lowest data slot not used by a DATA record that is not FREE (R78). -/
def freeDataSlot (s : State) : Nat :=
  ((List.range Config.maxDataRecords).find? (fun n =>
    !s.claims.any (fun c => c.cls == .data && c.phase != .free && c.slot == n))).getD 0

/-- Whether growth is held by the hold limit, the five data records or the lack of a FREE record (R141, holds 2 to 4). -/
def growthBarred (s : State) : Bool :=
  decide (heldTotal s = holdLimit s) || decide (Config.maxDataRecords ≤ dataRecords s) || (freeRecord s).isNone

/-- A growth request: a DATA record of width 1 in the lowest free data slot (R142). -/
def requestGrowth (s : State) : State :=
  match takable .data none s with
  | some r => requestPlacement r (setClaim r ((s.claim r).taken .data (freeDataSlot s) 1 .grow none) s)
  | none => s

/-- Replaces the pace count. -/
def setPace (n : Nat) (s : State) : State := { s with growth := { s.growth with pace := n } }

/-- Growth that is due: requested, or held (R140, R141). -/
def growWhenDue (s : State) : State :=
  if growthExists s then s
  else if growthBarred s then (if dataCount s < s.demand.floor then latch .unmet s else s)
  else setPace 0 (requestGrowth s)

/-- The comparison at an expiry of the data growth timer (R140). -/
def growthComparison (s : State) : State :=
  if s.demand.ceiling ≤ dataCount s then setPace 0 s
  else
    let s' := setPace (min 4 (s.growth.pace + 1)) s
    if dataCount s < s.demand.floor ∨ s'.growth.pace = 4 then growWhenDue s' else s'

/-- Growth below the floor reports what keeps it from the floor (R142). -/
def unmetBelowFloor (s : State) : State := if dataCount s < s.demand.floor then latch .unmet s else s

/-! ### Merging -/

/-- A HELD DATA record, not `r`, that has room for one more tile. -/
def ClaimRecord.absorbs (c : ClaimRecord) : Bool :=
  c.cls == .data && c.phase == .held && decide (c.runWidth + 1 ≤ Config.maxRunWidth)

/-- The HELD DATA record whose last tile lies just below tile `t`, where it can absorb it (R144). -/
def lowerNeighbour (s : State) (t : Nat) : Option Nat :=
  s.claims.findIdx? (fun c => c.absorbs && (match c.run with
    | some x => decide (x.first + x.width = t)
    | none => false))

/-- The HELD DATA record whose first tile lies just above tile `t`, where it can absorb it (R144). -/
def upperNeighbour (s : State) (t : Nat) : Option Nat :=
  s.claims.findIdx? (fun c => c.absorbs && (match c.run with
    | some x => decide (x.first = t + 1)
    | none => false))

/-- A run widened by the tile just above it. -/
def widenUp (x : Run) : Run := ⟨x.first, x.width + 1⟩

/-- A run widened by the tile just below it. -/
def widenDown (x : Run) : Run := ⟨x.first - 1, x.width + 1⟩

/-- A record's run is widened under an unchanged generation (R144, R159). -/
def ClaimRecord.widened (c : ClaimRecord) (f : Run → Run) : ClaimRecord :=
  match c.run with
  | some x => { c with run := some (f x), width := (f x).width }
  | none => c

/-- The growth record `r` merges into record `a`: the tile changes records in one change, and `r` becomes FREE (R144). -/
def mergeInto (a r : Nat) (f : Run → Run) (s : State) : State :=
  setClaim r (s.claim r).unrun.freed (setClaim a ((s.claim a).widened f) s)

/-- What becomes of a promoted growth record on tile `t` (R144). -/
def mergeGrowth (r t : Nat) (s : State) : State :=
  match lowerNeighbour s t with
  | some a => commitGrant .data .grown none (mergeInto a r widenUp s)
  | none =>
    match upperNeighbour s t with
    | some a => commitGrant .data .grown none (mergeInto a r widenDown s)
    | none => commitGrant .data .placed none s

/-! ### Changed demand -/

/-- A seeking growth record that the ceiling has caught up with becomes FREE, its placement cancelled (R147, step 2). -/
def freeCaughtGrowth (s : State) : State :=
  if s.demand.ceiling ≤ dataCount s then
    match s.claims.findIdx? (fun c => c.cls == .data && c.phase == .seeking) with
    | some r => cancel r (setClaim r (s.claim r).freed s)
    | none => s
  else s

/-- The data demand record after the clamps of R137. -/
def clampDemand (dataMax floor ceiling : Nat) : Demand :=
  ⟨min floor (min ceiling dataMax), min ceiling dataMax⟩

/-- A SET_DATA that is taken (R137, R147). -/
def applyDemand (floor ceiling : Nat) (s : State) : State :=
  let s' := { s with demand := clampDemand (classMax s .data) floor ceiling }
  if isActive s' then freeCaughtGrowth (trimToCeiling s') else s'

end Sys2Proof.Machine
end

