-- ==== Sys2Proof/Machine/Loans.lean ====
section
/-! DEFINITION. The Loan Stack: lending (R151, R152), returns and parking (R155), void entries (R157) and unwinding
(R158 to R160). -/

namespace Sys2Proof.Machine

/-! ### Unwinding -/

/-- Whether a popped entry goes back to its lender (R159). -/
def returnsHome (e : LoanEntry) (s : State) : Option Nat :=
  match e.lender with
  | some l =>
    match (s.claim l).run with
    | some x =>
      if (s.claim l).cls = .data ∧ (s.claim l).phase = .held ∧ (s.claim l).generation = e.lenderGeneration ∧
          x.first + x.width = e.tile ∧ x.width < Config.maxRunWidth then some l else none
    | none => none
  | none => none

/-- Whether the borrower of a RETURNED entry still holds the tile for it: the PARKED record, or the record whose call has
just closed, in HELD, MOVING or DRAINING, that holds the entry's tile under the entry's generation (R159). -/
def answersFor (e : LoanEntry) (s : State) : Bool :=
  ((s.claim e.borrower).phase == .parked || (s.claim e.borrower).phase == .held ||
    (s.claim e.borrower).phase == .moving || (s.claim e.borrower).phase == .draining) &&
  (s.claim e.borrower).generation == e.borrowerGeneration && (s.claim e.borrower).run == some ⟨e.tile, 1⟩

/-- A popped RETURNED entry is settled: its tile goes back to the lender or is released (R159). -/
def settleReturned (e : LoanEntry) (s : State) : State :=
  if answersFor e s then
    match returnsHome e s with
    | some l => mergeInto l e.borrower widenUp s
    | none => urgentRequest (setClaim e.borrower (s.claim e.borrower).unrun.freed s)
  else s

/-- The entries are popped from the top while it is RETURNED or VOID (R158). -/
def unwindStack : Nat → State → State
  | 0, s => s
  | n + 1, s =>
    match s.loans.getLast? with
    | some e =>
      match e.state with
      | .out => s
      | .void => unwindStack n { s with loans := s.loans.dropLast }
      | .returned => unwindStack n (settleReturned e { s with loans := s.loans.dropLast })
    | none => s

/-- One unwinding as one event: at most one data grant change with cause RETURNED, then the trim to the ceiling as a
separate event where a tile has returned (R160, R147). DESIGN CHOICE (assumption log 26): a return that brings the data count
exactly to the ceiling exceeds nothing, so it trims nothing, and a growth record that seeks at that moment is kept. -/
def unwind (s : State) : State :=
  let u := unwindStack s.loans.length s
  if grantMoved u .data then trimToCeiling (commitGrant .data .returned none u) else u

/-- Changes the state of an entry. -/
def markLoan (i : Nat) (x : LoanState) (s : State) : State :=
  { s with loans := s.loans.modify i (fun e => { e with state := x }) }

/-- Whether the entry at an index names a borrower and its generation. -/
def loanNames (i r : Nat) (g : BitVec 4) (s : State) : Bool :=
  match s.loans[i]? with
  | some e => e.borrower == r && e.borrowerGeneration == g
  | none => false

/-- Whether the entry at an index is in a state. -/
def loanIs (i : Nat) (x : LoanState) (s : State) : Bool :=
  match s.loans[i]? with
  | some e => e.state == x
  | none => false

/-- A void names an entry and its borrower: the entry becomes VOID, and the stack unwinds where it is the top (R157). -/
def voidLoan (i r : Nat) (g : BitVec 4) (s : State) : State :=
  if loanNames i r g s ∧ ¬ loanIs i .void s then
    if i + 1 = s.loans.length then unwind (markLoan i .void s) else markLoan i .void s
  else s

/-- The void of a record that has lost its borrowed tile, if it held one; `c` is the record before the loss. -/
def voidLoanOf (r : Nat) (c : ClaimRecord) (s : State) : State :=
  match c.onLoan with
  | some i => voidLoan i r c.generation s
  | none => s

/-! ### Lending -/

/-- Whether the Loan Stack takes a lend request (R151). DEDUCED (assumption log 32): R151 has no condition on the entries below, so
a lend is taken where a VOID entry still names the borrower under the generation that has come round to the same value, though
R149 says that no two entries do. -/
def lendTaken (b : Nat) (bg : BitVec 4) (l : Nat) (lg : BitVec 4) (t : Nat) (s : State) : Bool :=
  isActive s && decide (s.loans.length < Config.loanCapacity) &&
  ((s.claim b).cls == .voice && (s.claim b).phase == .seeking && (s.claim b).generation == bg &&
    (s.claim b).predecessor.isNone) &&
  ((s.claim l).cls == .data && (s.claim l).phase == .held && (s.claim l).generation == lg &&
    decide (2 ≤ (s.claim l).runWidth)) &&
  (match (s.claim l).run with
    | some x => decide (runLast x = t)
    | none => false)

/-- A run without its last tile, for a run of width 2 or more. -/
def shortened (x : Run) : Run := ⟨x.first, x.width - 1⟩

/-- The borrower as it takes the lent tile (R152). -/
def ClaimRecord.lent (c : ClaimRecord) (t index : Nat) : ClaimRecord :=
  { c with phase := .held, run := some ⟨t, 1⟩, width := 1, listenCount := 0, tentativeLosses := 0, retry := none,
           onLoan := some index }

/-- A lend that is TAKEN, in one step (R152). -/
def lend (b : Nat) (bg : BitVec 4) (l : Nat) (lg : BitVec 4) (t : Nat) (s : State) : State :=
  let moved := setClaim b ((s.claim b).lent t s.loans.length) (setClaim l ((s.claim l).widened shortened) s)
  let pushed := { moved with loans := s.loans ++ [⟨some l, lg, b, bg, t, .out⟩] }
  urgentRequest (commitGrant .voice .placed none (commitGrant .data .loaned none pushed))

/-- LEND_REQUEST (R151, R152): the answer goes back to the Placement Engine. -/
def execLendRequest (b : Nat) (bg : BitVec 4) (l : Nat) (lg : BitVec 4) (t : Nat) (s : State) :
    Host.Outcome State Fault Refusal :=
  outOfReset s fun s =>
    let s := arrive (.lendRequest b bg l lg t) s
    if lendTaken b bg l lg t s then send (.lendAnswer b bg .taken) (lend b bg l lg t s)
    else send (.lendAnswer b bg .refused) s

end Sys2Proof.Machine
end

