-- ==== Sys2Proof/Machine/OccupancyMap.lean ====
section
/-! DEFINITION. The Occupancy Map: precedence (R10 to R12), the claimant list (R4 to R8), eligibility (R13, R14), and the
answers to the promotion check (R18). -/

namespace Sys2Proof.Machine

/-! ### Precedence -/

/-- What precedence compares of a claim: class, effective phase and station id (R10). -/
structure Contender where
  cls : ServiceClass
  phase : ClaimPhase
  station : Nat
deriving DecidableEq, Repr

/-- Whether claim `a` beats claim `b` (R10): by class rank, then by effective phase, then by lower station id. -/
def beats (a b : Contender) : Bool :=
  if rank a.cls ≠ rank b.cls then decide (rank b.cls < rank a.cls)
  else if a.phase ≠ b.phase then a.phase == .held
  else decide (a.station < b.station)

/-- A claimant entry as it takes part in precedence. -/
def ClaimantEntry.contender (e : ClaimantEntry) : Contender := ⟨e.cls, e.effective, e.station⟩

/-- Whether an entry beats another on their tile. -/
def entryBeats (a b : ClaimantEntry) : Bool := beats a.contender b.contender

/-- The class and phase with which an own record that holds a run takes part in precedence, and with which it is announced
(R12, R43). -/
def ClaimRecord.announced (c : ClaimRecord) : ServiceClass × ClaimPhase :=
  match c.phase with
  | .parked => (.data, .held)
  | .tentative => (c.cls, .tentative)
  | _ => (c.cls, .held)

/-- An own record as it takes part in precedence (R12). -/
def ClaimRecord.contender (c : ClaimRecord) (own : Nat) : Contender := ⟨c.announced.1, c.announced.2, own⟩

/-! ### The claimant list -/

/-- The list with an entry placed after every entry that beats it (R5). -/
def placeEntry (e : ClaimantEntry) : List ClaimantEntry → List ClaimantEntry
  | [] => [e]
  | h :: t => if entryBeats h e then h :: placeEntry e t else e :: h :: t

/-- Of two entries of one station, whether the old one is the stronger by steps 1 and 2 of R10; equal, the new one is kept. -/
def oldStronger (old new : ClaimantEntry) : Bool :=
  if rank old.cls ≠ rank new.cls then decide (rank new.cls < rank old.cls)
  else old.effective == .held && new.effective == .tentative

/-- Removal of a station's entry (R7). -/
def removeStation (p : Nat) (l : List ClaimantEntry) : List ClaimantEntry :=
  l.filter (fun e => decide (e.station ≠ p))

/-- Insertion of an entry into a claimant list (R5): the weakest of four falls off; of two entries of one station the
stronger is kept. -/
def insertEntry (e : ClaimantEntry) (l : List ClaimantEntry) : List ClaimantEntry :=
  match l.find? (fun h => h.station == e.station) with
  | some old => placeEntry (if oldStronger old e then old else e) (removeStation e.station l)
  | none => (placeEntry e l).take Config.claimantCapacity

/-- The entry of a station whose effective phase a change to STALE lowers (R8). -/
def weakenable (p : Nat) (l : List ClaimantEntry) : Option ClaimantEntry :=
  l.find? (fun h => h.station == p && h.announced == .held && h.effective == .held)

/-- The claimant list after a station's entry goes from effective HELD to TENTATIVE and takes its new place (R8). -/
def weakenEntry (p : Nat) (l : List ClaimantEntry) : List ClaimantEntry :=
  match weakenable p l with
  | some e => placeEntry { e with effective := .tentative } (removeStation p l)
  | none => l

/-- Changes the claimant list of one tile. -/
def changeClaimants (t : Nat) (f : List ClaimantEntry → List ClaimantEntry) (tiles : List TileRecord) : List TileRecord :=
  tiles.modify t (fun x => { x with claimants := f x.claimants })

/-- Removal of a station's entries over every tile of the runs given (R7, R60). -/
def removeClaims (p : Nat) (runs : List HeardRun) (tiles : List TileRecord) : List TileRecord :=
  (runs.flatMap (fun h => runTiles h.run)).foldl (fun ts t => changeClaimants t (removeStation p) ts) tiles

/-! ### Eligibility -/

/-- Condition 5 of R13: no claimant, or an own TENTATIVE claim of the class beats the first (R14). -/
def beatsClaimants (own : Nat) (k : ServiceClass) (l : List ClaimantEntry) : Bool :=
  match l with
  | [] => true
  | e :: _ => beats ⟨k, .tentative, own⟩ e.contender

/-- Whether a tile is eligible for a new own claim of a class (R13). -/
def eligible (s : State) (k : ServiceClass) (t : Nat) : Bool :=
  (s.tile t).inWindow && !(s.tile t).locked && (s.noise t).state == .quiet && !isOwn s t &&
    beatsClaimants ((ownId s).getD 0) k (s.tile t).claimants

/-! ### Promotion check -/

/-- A tile with the station of its first claimant, the strongest of its list (R5), where that one beats the claim given (R10). -/
def tileWinner (s : State) (c : Contender) (t : Nat) : Option (Nat × Nat) :=
  match (s.tile t).claimants with
  | [] => none
  | e :: _ => if beats e.contender c then some (t, e.station) else none

/-- The first claimant of a tile that beats a record taken as a HELD claim of its own class (R18). -/
def promotionLoser (s : State) (k : ServiceClass) (t : Nat) : Option (Nat × Nat) :=
  tileWinner s ⟨k, .held, (ownId s).getD 0⟩ t

/-- The promotion check of a record (R18): none for PROMOTE; for LOSS the lowest lost tile and the station that wins it. -/
def promotionCheck (s : State) (r : Nat) : Option (Nat × Nat) :=
  match (s.claim r).run with
  | some x => (runTiles x).findSome? (promotionLoser s (s.claim r).cls)
  | none => none

/-- The window and lock flags of an accepted configuration record (R2). -/
def flagTiles (v : ConfigValues) (tiles : List TileRecord) : List TileRecord :=
  tiles.mapIdx (fun t x => { x with
    inWindow := decide (v.bandLow ≤ t) && decide (t ≤ v.bandHigh)
    locked := v.locks.any (fun g => decide (g.1 ≤ t) && decide (t ≤ g.2)) })

end Sys2Proof.Machine
end

