-- ==== Sys2Proof/Machine/Claims.lean ====
section
/-! DEFINITION. The Claim Table: migration (R122 to R134), losses (R87 to R90), noise and quiet notices (R91, R92), listening
and promotion (R83 to R86), commits and rooms (R80, R117), outcomes and retries (R81, R82, R125), closes (R93, R94) and the
freeing of every record (R100). -/

namespace Sys2Proof.Machine

/-! ### Migration -/

/-- A record is held degraded: its retry timer starts and UNMET is latched (R124). -/
def degrade (p : Nat) (s : State) : State :=
  latch .unmet (setClaim p { s.claim p with retry := some Config.retryTime } s)

/-- A successor `q` is taken for record `p`: both links are made in one step (R74, R122). -/
def linkSuccessor (p q : Nat) (s : State) : State :=
  setClaim p { s.claim p with successor := some q }
    (setClaim q ((s.claim q).taken (s.claim p).cls (s.claim p).slot (s.claim p).width .migrate (some p)) s)

/-- A migration starts: a successor is taken and its placement requested, or the record is held degraded (R123). -/
def startMigration (p : Nat) (s : State) : State :=
  match takable (s.claim p).cls (some p) s with
  | some q => requestPlacement q (linkSuccessor p q s)
  | none => degrade p s

/-- A seeking successor becomes FREE, the links are cleared, and its placement is cancelled (R132, R133). -/
def dropSuccessor (p : Nat) (s : State) : State :=
  match (s.claim p).successor with
  | some q => cancel q (setClaim q (s.claim q).freed (setClaim p { s.claim p with successor := none } s))
  | none => s

/-- The predecessor of a successor that has ended returns to HELD without a successor (R129). -/
def ClaimRecord.unmoved (c : ClaimRecord) : ClaimRecord := { c with phase := .held, successor := none }

/-! ### Losses -/

/-- A primary in TENTATIVE loses (R88): it releases its run and seeks again, or waits on its retry timer at the fourth loss. -/
def tentativeLoss (r : Nat) (s : State) : State :=
  let c := s.claim r
  let u := releaseRun r s
  if c.tentativeLosses + 1 < Config.lossesBeforeWait then
    requestPlacement r (setClaim r { c.unrun with phase := .seeking, tentativeLosses := c.tentativeLosses + 1 } u)
  else
    latch .unmet (setClaim r
      { c.unrun with phase := .seeking, tentativeLosses := Config.lossesBeforeWait, retry := some Config.retryTime } u)

/-- A TENTATIVE successor of `p` loses (R129): it becomes FREE, what the engine still holds for it is discarded (R126, R104), and
its predecessor returns to HELD, held degraded where a tile of its run is NOISY. -/
def successorLoss (r p : Nat) (s : State) : State :=
  let c := s.claim r
  let u := cancel r (setClaim p (s.claim p).unmoved (setClaim r c.unrun.freed (releaseRun r s)))
  if anyNoisy u p then degrade p u else u

/-- A SEEKING successor whose predecessor has lost becomes FREE, and its placement is cancelled (R132). -/
def freeSuccessor (c : ClaimRecord) (s : State) : State :=
  match c.successor with
  | some q => cancel q (setClaim q (s.claim q).freed s)
  | none => s

/-- A HELD video or voice record loses (R87, R132): the run is released, the grant withdrawn, the record relocates, and a seeking
successor is freed. DESIGN CHOICE, unsafe (assumption log 33): the spec does not order the relocation request against the
successor's cancellation at the engine; the request joins first, so it may start ahead of a queued request of a lower class or a
suspended placement. -/
def heldLoss (r winner : Nat) (s : State) : State :=
  let c := s.claim r
  let u := setClaim r
    { c.unrun with phase := .seeking, seekReason := .relocate, successor := none, onLoan := none, retry := none }
    (releaseRun r (latch .lost s))
  voidLoanOf r c (commitGrant c.cls .lost (some winner) (freeSuccessor c (requestPlacement r u)))

/-- The successor of a lost MOVING record becomes a relocating primary, keeping its run and listen count (R131). -/
def inheritSuccessor (q : Nat) (s : State) : State :=
  setClaim q { s.claim q with predecessor := none, seekReason := .relocate } s

/-- A MOVING record loses (R131): it becomes FREE, the grant is withdrawn, and its successor takes over. -/
def movingLoss (r winner : Nat) (s : State) : State :=
  let c := s.claim r
  let u := setClaim r c.unrun.freed (releaseRun r (latch .lost s))
  let v := match c.successor with
    | some q => inheritSuccessor q u
    | none => u
  voidLoanOf r c (commitGrant c.cls .lost (some winner) v)

/-- A DRAINING or PARKED record releases its run and becomes FREE, its loan entry VOID (R86, R90). -/
def releaseAndFree (r : Nat) (s : State) : State :=
  let c := s.claim r
  voidLoanOf r c (setClaim r c.unrun.freed (releaseRun r s))

/-- A HELD DATA record loses one tile (R89). -/
def dataLoss (r t winner : Nat) (s : State) : State :=
  commitGrant .data .lost (some winner) (trimTile r t (latch .lost s))

/-- Whether a notice about a tile of a record is applied: the record is not FREE, its generation matches and the tile lies in
its run (R75, R87, R91). -/
def noticeApplies (r : Nat) (g : BitVec 4) (t : Nat) (s : State) : Bool :=
  (s.claim r).ownsTile t && (s.claim r).generation == g

/-- A loss notice arrives (R87 to R90). -/
def applyLoss (r : Nat) (g : BitVec 4) (t winner : Nat) (s : State) : State :=
  if noticeApplies r g t s then
    match (s.claim r).phase with
    | .tentative =>
      (match (s.claim r).predecessor with
      | some p => successorLoss r p s
      | none => tentativeLoss r s)
    | .held => if (s.claim r).cls = .data then dataLoss r t winner s else heldLoss r winner s
    | .moving => movingLoss r winner s
    | .draining => releaseAndFree r s
    | .parked => releaseAndFree r s
    | .free => s
    | .seeking => s
  else s

/-! ### Noise and quiet notices -/

/-- The predecessor of a successor hit by noise returns to HELD, and the migration is withdrawn where its run is clean
(R130). -/
def resumeSeeking (p : Nat) (s : State) : State :=
  let u := setClaim p { s.claim p with phase := .held } s
  if allQuiet u p then dropSuccessor p u else u

/-- A TENTATIVE record meets noise (R91): it releases its run and seeks again. -/
def tentativeNoise (r : Nat) (s : State) : State :=
  let c := s.claim r
  let u := requestPlacement r (setClaim r { c.unrun with phase := .seeking } (releaseRun r s))
  match c.predecessor with
  | some p => resumeSeeking p u
  | none => u

/-- A HELD video or voice record meets noise (R123). -/
def heldNoise (r : Nat) (s : State) : State :=
  if (s.claim r).successor = none ∧ (s.claim r).retry = none then startMigration r s else s

/-- A noise notice arrives (R91). -/
def applyNoise (r : Nat) (g : BitVec 4) (t : Nat) (s : State) : State :=
  if noticeApplies r g t s then
    match (s.claim r).phase with
    | .tentative => tentativeNoise r s
    | .held =>
      if (s.claim r).cls = .data then commitGrant .data .trimmed none (trimTile r t s) else heldNoise r s
    | _ => s
  else s

/-- A quiet notice arrives (R92, R133): a seeking migration is withdrawn, or a degraded record's timer cleared, where every
tile of the run is QUIET. -/
def applyQuiet (r : Nat) (g : BitVec 4) (t : Nat) (s : State) : State :=
  if noticeApplies r g t s ∧ (s.claim r).phase = .held ∧ (s.claim r).cls ≠ .data ∧ allQuiet s r then
    match (s.claim r).successor with
    | some _ => dropSuccessor r s
    | none => setClaim r { s.claim r with retry := none } s
  else s

/-! ### Listening, promotion and draining -/

/-- The number of sent frames a class listens for (R83). -/
def listenTarget : ServiceClass → Nat
  | .voice => 2
  | .video => 3
  | .data => 3

/-- A DRAINING record whose drain count has reached 2 releases its run and becomes FREE (R86). -/
def endDrain (r : Nat) (s : State) : State :=
  if (s.claim r).phase = .draining ∧ Config.drainFrames ≤ (s.claim r).drainCount then releaseAndFree r s else s

/-- One item of a sent notice (R83). -/
def sentItem (s : State) (i : CarriedItem) : State :=
  let c := s.claim i.record
  if c.generation ≠ i.generation then s
  else if c.phase = .tentative ∧ i.phase = .tentative then
    setClaim i.record { c with listenCount := min 3 (c.listenCount + 1) } s
  else if c.phase = .draining ∧ i.phase = .held then
    endDrain i.record (setClaim i.record { c with drainCount := min Config.drainFrames (c.drainCount + 1) } s)
  else s

/-- The sent notice of a frame built in ACTIVE (R46, R83). -/
def sentNotice (items : List CarriedItem) (s : State) : State := items.foldl sentItem s

/-- A record becomes HELD by promotion (R84). -/
def ClaimRecord.promoted (c : ClaimRecord) : ClaimRecord :=
  { c with phase := .held, listenCount := 0, tentativeLosses := 0, predecessor := none }

/-- The switch of a migration: the successor `r` of `p` is HELD, and `p` drains (R127). -/
def switchMigration (r p : Nat) (s : State) : State :=
  commitGrant (s.claim r).cls .noiseMove none
    (setClaim p { s.claim p with phase := .draining, drainCount := 0, successor := none }
      (setClaim r (s.claim r).promoted s))

/-- The effect of a promotion (R85). -/
def promote (r : Nat) (s : State) : State :=
  match (s.claim r).predecessor with
  | some p => switchMigration r p s
  | none =>
    let u := setClaim r (s.claim r).promoted s
    match (s.claim r).cls, (s.claim r).run with
    | .data, some x => mergeGrowth r x.first u
    | k, _ => commitGrant k .placed none u

/-- The build notice at one record: a due TENTATIVE record is promoted or handled as lost (R84). -/
def promoteIfDue (s : State) (r : Nat) : State :=
  if (s.claim r).phase = .tentative ∧ listenTarget (s.claim r).cls ≤ (s.claim r).listenCount then
    match promotionCheck s r with
    | some (t, p) => applyLoss r (s.claim r).generation t p s
    | none => promote r s
  else s

/-- The build notice (R43, R84): the TENTATIVE records in ascending id. -/
def buildNotice (s : State) : State := (List.range Config.recordCount).foldl promoteIfDue s

/-! ### Commits and rooms -/

/-- Whether a run meets an own run (R80, condition 2). -/
def meetsOwn (x : Run) (s : State) : Bool := (runTiles x).any (isOwn s)

/-- Whether the predecessor of a record, if it has one, is HELD (R80, condition 4). -/
def predecessorHeld (r : Nat) (s : State) : Bool :=
  match (s.claim r).predecessor with
  | some p => (s.claim p).phase == .held
  | none => true

/-- The answer to a commit: the first condition that fails, in the order of R80. Outside ACTIVE, where no record holds a run
(R95, R100), it is RECORD (assumption log 6). No condition is about claimant entries or noise: what came to the run after the
re-check meets the record as it is committed (R17, R31, R120: `commitContention`, `commitNoise`). -/
def judgeCommit (r : Nat) (g : BitVec 4) (x : Run) (s : State) : CommitAnswer :=
  if ¬ isActive s ∨ (s.claim r).phase ≠ .seeking ∨ (s.claim r).generation ≠ g then .record
  else if meetsOwn x s then .overlap
  else if (s.claim r).predecessor = none ∧ holdLimit s < heldTotal s + x.width then .limit
  else if !predecessorHeld r s then .predecessor
  else .taken

/-- A record as it takes a commit (R80). -/
def ClaimRecord.committed (c : ClaimRecord) (x : Run) : ClaimRecord :=
  { c with phase := .tentative, run := some x, width := x.width, listenCount := 0, retry := none }

/-- A commit is taken: the record is TENTATIVE, a predecessor MOVING, and an urgent build is requested (R80). -/
def takeCommit (r : Nat) (x : Run) (s : State) : State :=
  let u := setClaim r ((s.claim r).committed x) s
  urgentRequest (match (s.claim r).predecessor with
    | some p => setClaim p { s.claim p with phase := .moving } u
    | none => u)

/-- The loss notice of a committed record: with the re-check first, an entry that has come to its run since then is compared by
R16 with the TENTATIVE record, and a winning one sends it (R17, R120), the one on the lowest such tile. DEDUCED (assumption
log 30): also where the entry came before the commit arrived. -/
def commitContention (r : Nat) (x : Run) (s : State) : State :=
  match (runTiles x).findSome? (tileWinner s ((s.claim r).contender ((ownId s).getD 0))) with
  | some (t, p) => applyLoss r (s.claim r).generation t p s
  | none => s

/-- The noise notice of a committed record: with the re-check first, a tile of its run that has left QUIET since then sends it,
the lowest such tile (R31, R120). DEDUCED (assumption log 23): also where the tile turned NOISY before the commit arrived. -/
def commitNoise (r : Nat) (x : Run) (s : State) : State :=
  match (runTiles x).find? (fun t => (s.noise t).state != .quiet) with
  | some t => applyNoise r (s.claim r).generation t s
  | none => s

/-- The answer to a room request (R117). -/
def judgeRoom (r : Nat) (g : BitVec 4) (w : Nat) (s : State) : RoomAnswer :=
  if (s.claim r).phase ≠ .seeking ∨ (s.claim r).generation ≠ g then .record
  else if heldTotal s + w - holdLimit s ≤ dataCount s then .done
  else .short

/-! ### Outcomes and retries -/

/-- A placement ends without room for a record that matches (R81, R126). -/
def applyOutcome (r : Nat) (s : State) : State :=
  match (s.claim r).predecessor with
  | some p =>
    degrade p (setClaim p { s.claim p with successor := none } (setClaim r (s.claim r).freed s))
  | none =>
    if (s.claim r).seekReason = .grow then unmetBelowFloor (setClaim r (s.claim r).freed s)
    else latch .unmet (setClaim r { s.claim r with retry := some Config.retryTime } s)

/-- PLACEMENT_OUTCOME (R81): ignored unless the record is SEEKING with the generation named. Retry timers run in ACTIVE
only (R82). -/
def execPlacementOutcome (r : Nat) (g : BitVec 4) (o : PlacementEnd) (s : State) : Host.Outcome State Fault Refusal :=
  outOfReset s fun s =>
    let s := arrive (.placementOutcome r g o) s
    if isActive s ∧ (s.claim r).phase = .seeking ∧ (s.claim r).generation = g then applyOutcome r s else s

/-- A running retry timer of a record expires (R82, R125). -/
def expireRetry (r : Nat) (s : State) : State :=
  match (s.claim r).phase with
  | .seeking => requestPlacement r (setClaim r { s.claim r with retry := none, tentativeLosses := 0 } s)
  | .held =>
    let u := setClaim r { s.claim r with retry := none } s
    if anyNoisy u r ∧ (s.claim r).successor = none then startMigration r u else u
  | _ => s

/-! ### Closes -/

/-- One record of a closed program or call is freed: its run released, its placement cancelled (R93). -/
def freeClosed (s : State) (r : Nat) : State :=
  let u := if (s.claim r).run.isSome then releaseRun r s else s
  cancel r (setClaim r (u.claim r).freed u)

/-- The records of a class and slot that a close takes: not FREE, and not PARKED (R93, R94). -/
def closingRecords (k : ServiceClass) (slot : Nat) (s : State) : List Nat :=
  (List.range Config.recordCount).filter (fun r =>
    (s.claim r).cls == k && (s.claim r).slot == slot && (s.claim r).phase != .free && (s.claim r).phase != .parked)

/-- The close of a program (R93). -/
def closeProgram (slot : Nat) (s : State) : State :=
  commitGrant .video .closed none ((closingRecords .video slot s).foldl freeClosed s)

/-- Whether a closing record's loan entry is OUT and names it, so that the close returns the loan (R155). -/
def returnsLoan (r : Nat) (s : State) : Option Nat :=
  match (s.claim r).onLoan with
  | some i => if loanNames i r (s.claim r).generation s ∧ loanIs i .out s then some i else none
  | none => none

/-- One record of a closed call: its loan entry is marked RETURNED, or it is freed (R94, R155). -/
def closeCallRecord (s : State) (r : Nat) : State :=
  match returnsLoan r s with
  | some i => markLoan i .returned (cancel r s)
  | none => freeClosed s r

/-- A borrower whose entry the unwinding has not popped is PARKED (R155). -/
def ClaimRecord.park (c : ClaimRecord) : ClaimRecord :=
  { c with phase := .parked, listenCount := 0, drainCount := 0, predecessor := none, successor := none, retry := none }

/-- The records of a closed call that the unwinding has left are PARKED (R94, R155). -/
def parkRemaining (s : State) (r : Nat) : State :=
  if (s.claim r).phase = .free then s else setClaim r (s.claim r).park s

/-- The close of a call (R94): its loans are marked RETURNED together, the unwinding runs once, the borrowers it has not
popped are PARKED, the voice grant entry is withdrawn, and the returned tiles are granted to data. -/
def closeCall (slot : Nat) (s : State) : State :=
  let rs := closingRecords .voice slot s
  let u := rs.foldl closeCallRecord s
  let v := rs.foldl parkRemaining (unwindStack u.loans.length u)
  let w := commitGrant .voice .closed none v
  if grantMoved w .data then trimToCeiling (commitGrant .data .returned none w) else w

/-! ### The freeing of every record -/

/-- A record freed on LEAVE or FAULT: a run it holds is released under a new generation (R100). -/
def ClaimRecord.freedAll (c : ClaimRecord) : ClaimRecord := if c.run.isSome then c.unrun.freed else c.freed

/-- The change of a grant record on LEAVE or FAULT: every entry absent, cause LEFT (R100). -/
def GrantRecord.left (g : GrantRecord) (k : ServiceClass) (stamp : Word16) : GrantRecord :=
  g.changed (List.replicate (slotCount k) none) .left stamp none

/-- Every record is freed, every grant record makes one change with cause LEFT, GRANT is latched, and the Placement Engine
and the Loan Stack are emptied (R100, R121, R149). The urgent builds that the releases request are ignored, because they
reach the transceiver in LEAVING or FAULT. -/
def freeAll (s : State) : State :=
  latch .grant
    { s with
      claims := s.claims.map (·.freedAll)
      grants :=
        { data := s.grants.data.left .data s.clock.stamp
          video := s.grants.video.left .video s.clock.stamp
          voice := s.grants.voice.left .voice s.clock.stamp }
      engine := Engine.reset
      loans := [] }

end Sys2Proof.Machine
end

