-- ==== Sys2Proof/Machine/Placement.lean ====
section
/-! DEFINITION. The Placement Engine: CHOOSE and the cost of a run (R105 to R111), CONFIRM (R112, R113), COMMIT (R116 to
R118), and the engine's work at the end of a step: a placement that R103 has started within the step reads its snapshot when the other
effects of the step are complete (assumption log 4). -/

namespace Sys2Proof.Machine

/-! ### CHOOSE -/

/-- The tiles beside a HELD DATA record of a width below 8 (R143). -/
def ClaimRecord.besideTiles (c : ClaimRecord) : List Nat :=
  match c.run with
  | some x =>
    if c.cls = .data ∧ c.phase = .held ∧ x.width < Config.maxRunWidth then
      (if x.first = 0 then [] else [x.first - 1]) ++ [x.first + x.width]
    else []
  | none => []

/-- The first tiles of the runs of a width whose tiles are all usable (R105). -/
def candidateStarts (w : Nat) (usable : Nat → Bool) : List Nat :=
  (List.range (Config.tileCount + 1 - w)).filter (fun a => (runTiles ⟨a, w⟩).all usable)

/-- The number of own DATA records in HELD. -/
def heldDataRecords (s : State) : Nat := s.claims.countP (fun c => c.cls == .data && c.phase == .held)

/-- The narrowing of the candidates of a growth request (R143). -/
def growthStarts (s : State) (starts : List Nat) : List Nat :=
  let beside := starts.filter (fun a => (s.claims.flatMap (·.besideTiles)).contains a)
  if beside ≠ [] then beside else if heldDataRecords s < 4 then starts else []

/-- The candidate runs of a placement, by first tile, ascending (R105, R143). -/
def candidates (p : Placement) (s : State) : List Nat :=
  let usable := ((List.range Config.tileCount).filter (fun t => eligible s p.request.cls t && !p.excluded.contains t))
  let starts := candidateStarts p.request.width (fun t => usable.contains t)
  if p.request.reason = .grow then growthStarts s starts else starts

/-- The tiles of a run whose claimant list is not empty (R106). -/
def claimedTiles (s : State) (x : Run) : Nat := (runTiles x).countP (fun t => !(s.tile t).claimants.isEmpty)

/-- Whether a neighbour tile exists and is occupied, own or locked (R106). -/
def crowds (s : State) (t : Nat) : Bool :=
  decide (t < Config.tileCount) && (!(s.tile t).claimants.isEmpty || isOwn s t || (s.tile t).locked)

/-- The neighbour tiles of a run, where they exist below it (R106). -/
def neighbours (x : Run) : List Nat := (if x.first = 0 then [] else [x.first - 1]) ++ [x.first + x.width]

/-- The cost of a run (R106). -/
def runCost (s : State) (x : Run) : Nat :=
  ((runTiles x).map (fun t => reportedLevel (s.noise t).level)).sum + 16 * claimedTiles s x +
    4 * (neighbours x).countP (crowds s)

/-- Whether a candidate of cost `n` takes the place of the best so far of cost `m`: among equal costs VOICE takes the later,
higher one (R107). -/
def takesPlace (k : ServiceClass) (n m : Nat) : Bool := decide (n < m) || (k == .voice && decide (n = m))

/-- The winning run among candidates in ascending order, with its cost (R107). -/
def cheapest (k : ServiceClass) (w : Nat) (s : State) (starts : List Nat) : Option (Nat × Nat) :=
  starts.foldl (fun best a =>
    match best with
    | none => some (a, runCost s ⟨a, w⟩)
    | some (b, m) => if takesPlace k (runCost s ⟨a, w⟩) m then some (a, runCost s ⟨a, w⟩) else some (b, m)) none

/-- The winning run of a placement (R107). -/
def winningRun (p : Placement) (s : State) : Option Run :=
  (cheapest p.request.cls p.request.width s (candidates p s)).map (fun b => ⟨b.1, p.request.width⟩)

/-- What CHOOSE leads to. -/
inductive Choice where
  | noRoom
  | limit
  | lend (lender : Nat) (lenderGeneration : BitVec 4) (tile : Nat)
  | confirm (run : Run)
deriving DecidableEq, Repr

/-- Whether a record can lend: DATA, HELD, of width 2 or more (R109). -/
def ClaimRecord.canLend (c : ClaimRecord) : Bool := c.cls == .data && c.phase == .held && decide (2 ≤ c.runWidth)

/-- Whether lender `a` is preferred to lender `b`: wider, or of equal width and of a lower slot (R110). -/
def lenderBefore (a b : ClaimRecord) : Bool :=
  decide (b.runWidth < a.runWidth) || (decide (a.runWidth = b.runWidth) && decide (a.slot < b.slot))

/-- The lender of R110. -/
def chooseLender (s : State) : Option Nat :=
  (List.range Config.recordCount).foldl (fun best r =>
    if (s.claim r).canLend then
      match best with
      | none => some r
      | some b => if lenderBefore (s.claim r) (s.claim b) then some r else best
    else best) none

/-- The lender and its highest tile, where a loan is possible: the stack has room and a record can lend (R109, R110). -/
def loanOffer (s : State) : Option Choice :=
  if s.loans.length < Config.loanCapacity then
    match chooseLender s with
    | some l =>
      match (s.claim l).run with
      | some x => some (.lend l (s.claim l).generation (runLast x))
      | none => none
    | none => none
  else none

/-- The decision between a run and a loan for a VOICE primary (R109). -/
def runOrLoan (best : Option Run) (s : State) : Choice :=
  let atLimit := decide (heldTotal s = holdLimit s)
  let noRoom := match best with
    | none => true
    | some x => decide (0 < claimedTiles s x)
  if atLimit || noRoom then
    match loanOffer s with
    | some c => c
    | none =>
      if atLimit then .limit
      else match best with
        | some x => .confirm x
        | none => .noRoom
  else match best with
    | some x => .confirm x
    | none => .noRoom

/-- What CHOOSE decides for a placement, from one snapshot (R105 to R111). -/
def choose (p : Placement) (s : State) : Choice :=
  if p.request.cls = .voice ∧ p.request.predecessor = none then runOrLoan (winningRun p s) s
  else
    match winningRun p s with
    | none => .noRoom
    | some x =>
      if p.request.cls = .data ∧ holdLimit s < heldTotal s + p.request.width then .limit else .confirm x

/-! ### CONFIRM -/

/-- A spot check requested of the scanner (R32): the queue after it, or none where the request is refused. -/
def Scanner.request (sc : Scanner) (t : Nat) (tag : SpotTag) : Option Scanner :=
  if sc.spots.any (fun e => e.tile == t) then
    some { sc with spots := sc.spots.map (fun e => if e.tile = t then { e with tag := tag } else e) }
  else if sc.spots.length < Config.spotCapacity then some { sc with spots := sc.spots ++ [⟨t, tag⟩] }
  else none

/-- The spot checks of a run, in ascending order, up to the first refusal (R112): the scanner after them, and whether all
were taken. -/
def Scanner.requestAll (tag : SpotTag) : List Nat → Scanner → Scanner × Bool
  | [], sc => (sc, true)
  | t :: ts, sc =>
    match sc.request t tag with
    | some sc' => Scanner.requestAll tag ts sc'
    | none => (sc, false)

/-- A placement ends with an outcome that is reported to the Claim Table (R119). -/
def endPlacement (p : Placement) (o : PlacementEnd) (s : State) : State :=
  send (.placementOutcome p.request.record p.request.generation o) (setActive none s)

/-- The placement waits in CHOOSE for the answer to its lend request (R110). -/
def requestLend (p : Placement) (l : Nat) (lg : BitVec 4) (t : Nat) (s : State) : State :=
  send (.lendRequest p.request.record p.request.generation l lg t)
    (setActive (some { p with stage := .choose, chosen := none, pendingSpots := [], room := none }) s)

/-- The active placement is suspended (R112, R114). -/
def suspend (p : Placement) (s : State) : State :=
  { s with engine := (suspendActive p s.engine s.scan).1, scan := (suspendActive p s.engine s.scan).2 }

/-- The placement is in CONFIRM on a run, its spot checks placed (R112). -/
def awaitSpots (p : Placement) (x : Run) (sc : Scanner) (s : State) : State :=
  setActive (some { p with stage := .confirm, chosen := some x, pendingSpots := runTiles x, room := none })
    { s with scan := sc }

/-- The placement enters CHOOSE, with `more` re-entries still allowed (R105, R108). A refused spot check sends it there again
(R113). -/
def enterChoose : Nat → Placement → State → State
  | more, p, s =>
    match choose p s with
    | .noRoom => endPlacement p .noRoom s
    | .limit => endPlacement p .limit s
    | .lend l lg t => requestLend p l lg t s
    | .confirm x =>
      if p.request.cls ≠ .voice ∧ voiceQueued s.engine then suspend p s
      else
        let d := s.scan.requestAll p.request.tag (runTiles x)
        if d.2 then awaitSpots p x d.1 s
        else
          match more with
          | 0 => endPlacement p .noRoom { s with scan := d.1.withdraw p.request.tag }
          | n + 1 =>
            enterChoose n { p with attempts := p.attempts + 1 } { s with scan := d.1.withdraw p.request.tag }

/-- A cause of R108: the placement re-enters CHOOSE, or ends as NO_ROOM where its attempts stand at 3. -/
def reenter (p : Placement) (s : State) : State :=
  if p.attempts < Config.maxAttempts then
    enterChoose (Config.maxAttempts - (p.attempts + 1)) { p with attempts := p.attempts + 1 } s
  else endPlacement p .noRoom s

/-! ### The engine's work at the end of a step -/

/-- A placement that R103 has started within the step enters CHOOSE (R105, R57). -/
def chooseNow (s : State) : State :=
  match s.engine.active with
  | some p => if p.stage = .entering then enterChoose (Config.maxAttempts - p.attempts) { p with stage := .choose } s else s
  | none => s

/-- Whether a placement waits to enter CHOOSE. -/
def Engine.enters (e : Engine) : Bool :=
  match e.active with
  | some p => p.stage == .entering
  | none => false

/-- The engine works until no placement waits to enter CHOOSE. Each round takes a placement into CHOOSE; where it leaves the
engine without an active placement, the next one is started (R103). -/
def runEngine : Nat → State → State
  | 0, s => s
  | n + 1, s => if s.engine.enters then runEngine n (takeUpIf true (chooseNow s)) else s

/-- The engine's work at the end of a step (assumption log 4). Every round but the last takes a request out of the queue or the
suspended placement, of which one more may come about, so the rounds allowed for suffice. -/
def settle (s : State) : State := runEngine (2 * s.engine.queue.length + 4) (takeUpIf true s)

/-- The engine's work at the end of a step that has touched the engine only where it has changed since `before`. -/
def settleFrom (before : Engine) (s : State) : State := if s.engine = before then s else settle s

/-! ### COMMIT -/

/-- The engine sends the commit (R118). -/
def sendCommit (p : Placement) (x : Run) (s : State) : State :=
  send (.commit p.request.record p.request.generation x) (setActive (some p) s)

/-- The re-check on entry to COMMIT, and what follows it (R116, R117). -/
def enterCommit (p : Placement) (x : Run) (s : State) : State :=
  let p' := { p with stage := .commit, pendingSpots := [], room := none }
  if p.request.cls = .data ∧ holdLimit s < heldTotal s + p.request.width then endPlacement p .limit s
  else if (runTiles x).any (fun t => !eligible s p.request.cls t) ∨
      (p.request.cls = .voice ∧ p.request.predecessor = none ∧ heldTotal s = holdLimit s) then reenter p s
  else if p.request.cls = .video ∧ p.request.predecessor = none then
    send (.roomRequest p.request.record p.request.generation p.request.width)
      (setActive (some { p' with room := some .requested }) s)
  else sendCommit p' x s

/-! ### Spot results -/

/-- What a spot result asks of the engine (R113). -/
inductive SpotAction where
  | discard
  | wait (placement : Placement)
  | commit (placement : Placement) (run : Run)
  | exclude (placement : Placement)
deriving DecidableEq, Repr

/-- The engine reads a spot result by its tag and tile (R113); `clear` is the verdict. -/
def judgeSpot (t : Nat) (tag : SpotTag) (clear : Bool) (e : Engine) : SpotAction :=
  match e.active with
  | none => .discard
  | some p =>
    if p.request.tag ≠ tag ∨ p.stage ≠ .confirm ∨ t ∉ p.pendingSpots then .discard
    else if clear then
      let p' := { p with pendingSpots := p.pendingSpots.filter (fun u => decide (u ≠ t)) }
      match p'.pendingSpots, p.chosen with
      | [], some x => .commit p' x
      | _, _ => .wait p'
    else .exclude { p with excluded := p.excluded ++ [t], chosen := none, pendingSpots := [] }

/-- The effect of a spot result on the spot queue: a HIGH result withdraws the remaining checks (R113). -/
def spotWithdraws (a : SpotAction) (s : State) : State :=
  match a with
  | .exclude p => { s with scan := s.scan.withdraw p.request.tag }
  | _ => s

/-- The effect of a spot result on the placement (R113). -/
def spotAdvances (a : SpotAction) (s : State) : State :=
  match a with
  | .discard => s
  | .wait p => setActive (some p) s
  | .commit p x => enterCommit p x s
  | .exclude p => reenter p s

/-! ### Answers -/

/-- The active placement that an answer finds, in the stage named (R120). -/
def answered (r : Nat) (g : BitVec 4) (stage : Stage) (s : State) : Option Placement :=
  match s.engine.active with
  | some p => if p.request.record = r ∧ p.request.generation = g ∧ p.stage = stage then some p else none
  | none => none

/-- Whether a placement makes room before its commit: VIDEO, and no successor (R117). -/
def Placement.makesRoom (p : Placement) : Bool := p.request.cls == .video && p.request.predecessor.isNone

/-- A room answer reaches the placement that waits for it (R117). -/
def takeRoomAnswer (p : Placement) (a : RoomAnswer) (s : State) : State :=
  match a with
  | .done =>
    (match p.chosen with
    | some x => sendCommit { p with room := some .done } x s
    | none => s)
  | .short => endPlacement p .limit s
  | .record => setActive none s

/-- ROOM_ANSWER (R117, R120). -/
def execRoomAnswer (r : Nat) (g : BitVec 4) (a : RoomAnswer) (s : State) : Host.Outcome State Fault Refusal :=
  outOfReset s fun s =>
    let s := arrive (.roomAnswer r g a) s
    match answered r g .commit s with
    | some p => if p.room = some .requested then settle (takeRoomAnswer p a s) else s
    | none => s

/-- A commit answer reaches the placement that waits for it (R118). -/
def takeCommitAnswer (p : Placement) (a : CommitAnswer) (s : State) : State :=
  match a with
  | .taken => setActive none s
  | .record => setActive none s
  | .predecessor => setActive none s
  | .overlap => reenter p s
  | .limit => if p.request.cls = .data then endPlacement p .limit s else reenter p s

/-- COMMIT_ANSWER (R118, R120). -/
def execCommitAnswer (r : Nat) (g : BitVec 4) (a : CommitAnswer) (s : State) : Host.Outcome State Fault Refusal :=
  outOfReset s fun s =>
    let s := arrive (.commitAnswer r g a) s
    match answered r g .commit s with
    | some p => if p.makesRoom ∧ p.room ≠ some .done then s else settle (takeCommitAnswer p a s)
    | none => s

/-- LEND_ANSWER (R110, R120). -/
def execLendAnswer (r : Nat) (g : BitVec 4) (a : LendAnswer) (s : State) : Host.Outcome State Fault Refusal :=
  outOfReset s fun s =>
    let s := arrive (.lendAnswer r g a) s
    match answered r g .choose s with
    | some p =>
      (match a with
      | .taken => settle (setActive none s)
      | .refused => settle (reenter p s))
    | none => s

/-- COMMIT (R80): the answer goes back, and a commit that is taken is followed by the loss notice, or else by the noise notice, that
its run met on the way; after the loss the record has no run, and the noise finds nothing. -/
def execCommit (r : Nat) (g : BitVec 4) (x : Run) (s : State) : Host.Outcome State Fault Refusal :=
  outOfReset s fun s =>
    let u := arrive (.commit r g x) s
    let a := judgeCommit r g x u
    if a = .taken then settleFrom u.engine
      (commitNoise r x (commitContention r x (send (.commitAnswer r g a) (takeCommit r x u))))
    else send (.commitAnswer r g a) u

/-- ROOM_REQUEST (R117): own data is trimmed by the excess, or not at all. -/
def execRoomRequest (r : Nat) (g : BitVec 4) (w : Nat) (s : State) : Host.Outcome State Fault Refusal :=
  outOfReset s fun s =>
    let u := arrive (.roomRequest r g w) s
    let a := judgeRoom r g w u
    settleFrom u.engine (send (.roomAnswer r g a)
      (if a = .done then topDownTrim (heldTotal u + w - holdLimit u) u else u))

/-! ### Expiries that request placements -/

/-- RETRY_EXPIRY (R82, R125): a running retry timer, in ACTIVE. -/
def execRetryExpiry (r : Nat) (s : State) : Host.Outcome State Fault Refusal :=
  outOfReset s fun s =>
    if isActive s ∧ (s.claim r).retry.isSome then settle (expireRetry r s) else s

/-- DATA_GROWTH_EXPIRY (R139, R140): a running growth timer. -/
def execDataGrowthExpiry (s : State) : Host.Outcome State Fault Refusal :=
  outOfReset s fun s =>
    if s.growth.left.isSome then
      settle (growthComparison { s with growth := { s.growth with left := some Config.growthPeriod } })
    else s

/-- DRAIN_END (R86): a DRAINING record whose drain count stands at 2. -/
def execDrainEnd (r : Nat) (s : State) : Host.Outcome State Fault Refusal :=
  outOfReset s fun s => settleFrom s.engine (endDrain r s)

end Sys2Proof.Machine
end

