-- ==== Sys2Proof/Machine/Peers.lean ====
section
/-! DEFINITION. The Peer Table: contention detection (R16), the application of frames (R57 to R63), eviction (R58) and ageing
(R64 to R66). -/

namespace Sys2Proof.Machine

/-! ### Contention -/

/-- The own record that an entry on a tile beats, if any (R16). -/
def contested (t : Nat) (e : ClaimantEntry) (s : State) : Option Nat :=
  match ownRecord s t with
  | some r => if beats e.contender ((s.claim r).contender ((ownId s).getD 0)) then some r else none
  | none => none

/-- Contention detection: a winning entry sends a loss notice, which the Claim Table applies at once (R15, R16). DESIGN CHOICE
(assumption log 25): R62 lets a later tile of the same frame be compared before or after the Claim Table has acted; here it is
compared after, so a data record cut by one notice is compared, and cut, again under its new generation. -/
def contend (t : Nat) (e : ClaimantEntry) (s : State) : State :=
  match contested t e s with
  | some r => applyLoss r (s.claim r).generation t e.station s
  | none => s

/-- An entry is presented to the map: placed by R5 and compared by R16; an entry with the own id is neither (R19). -/
def presentEntry (e : ClaimantEntry) (s : State) (t : Nat) : State :=
  if ownId s = some e.station then s
  else contend t e { s with tiles := changeClaimants t (insertEntry e) s.tiles }

/-- A change of a station's effective phase on a tile (R8): re-sorted, and compared again by R16. -/
def weakenOn (p : Nat) (s : State) (t : Nat) : State :=
  match weakenable p (s.tile t).claimants with
  | some e => contend t { e with effective := .tentative } { s with tiles := changeClaimants t (weakenEntry p) s.tiles }
  | none => s

/-! ### Peer records -/

/-- The record of a station. -/
def peer (s : State) (p : Nat) : Option PeerRecord := s.peers.find? (fun x => x.station == p)

/-- The table without a station's record. -/
def withoutPeer (p : Nat) (l : List PeerRecord) : List PeerRecord := l.filter (fun x => decide (x.station ≠ p))

/-- The table with a station's record made or replaced; the table is unordered, and is kept by ascending station id so that
equal tables are equal data. -/
def putPeer (x : PeerRecord) : List PeerRecord → List PeerRecord
  | [] => [x]
  | h :: t =>
    if h.station < x.station then h :: putPeer x t
    else if h.station = x.station then x :: t
    else x :: h :: t

/-- A record is deleted: its entries are removed over every run it last announced (R60, R71). -/
def deletePeer (x : PeerRecord) (s : State) : State :=
  { s with tiles := removeClaims x.station x.runs s.tiles, peers := withoutPeer x.station s.peers }

/-- The claimant entry that an announced run gives on each of its tiles, the station being FRESH (R61). -/
def entryOf (p : Nat) (h : HeardRun) : ClaimantEntry := ⟨p, h.cls, h.phase, h.phase⟩

/-- The insertion of one announced run, from its first tile to its last (R61). -/
def insertRun (p : Nat) (s : State) (h : HeardRun) : State := (runTiles h.run).foldl (presentEntry (entryOf p h)) s

/-- A frame is applied to a record whose last-heard runs were `old`: they are removed, the record becomes FRESH at age 0 with
the new runs, and these are inserted in frame order (R60, R61). -/
def replaceClaims (p : Nat) (old new : List HeardRun) (s : State) : State :=
  new.foldl (insertRun p)
    { s with tiles := removeClaims p old s.tiles, peers := putPeer ⟨p, .fresh, 0, new⟩ s.peers }

/-- Whether STALE record `a` is evicted before record `b`: older, or of equal age and of a higher id (R58). -/
def evictedBefore (a b : PeerRecord) : Bool :=
  decide (b.age < a.age) || (decide (a.age = b.age) && decide (b.station < a.station))

/-- The record evicted for a new peer: the STALE record of greatest age, then of highest id (R58). -/
def evictee (l : List PeerRecord) : Option PeerRecord :=
  (l.filter (fun x => x.state == .stale)).foldl (fun best x =>
    match best with
    | none => some x
    | some b => if evictedBefore x b then some x else some b) none

/-- A frame without LEAVING from a station that has no record (R58, R59). -/
def newPeerFrame (p : Nat) (new : List HeardRun) (s : State) : State :=
  if s.peers.length < Config.peerCapacity then replaceClaims p [] new s
  else
    match evictee s.peers with
    | some x => replaceClaims p [] new (deletePeer x s)
    | none => latch .peersFull s

/-- A valid frame is applied to the Peer Table (R57). -/
def applyFrame (f : ReceivedFrame) (s : State) : State :=
  match peer s f.station with
  | some x => if f.leaving then deletePeer x s else replaceClaims f.station x.runs f.entries s
  | none => if f.leaving then s else newPeerFrame f.station f.entries s

/-! ### Ageing -/

/-- The tiles of the runs a record announced HELD, run by run (R65). -/
def heldTiles (x : PeerRecord) : List Nat :=
  (x.runs.filter (fun h => h.phase == .held)).flatMap (fun h => runTiles h.run)

/-- A record whose age has reached 8 becomes STALE, and its HELD entries are weakened (R65). -/
def turnStale (p : Nat) (s : State) : State :=
  match peer s p with
  | some x =>
    if Config.staleAge ≤ x.age ∧ x.state = .fresh then
      (heldTiles x).foldl (weakenOn p) { s with peers := putPeer { x with state := .stale } s.peers }
    else s
  | none => s

/-- A record whose age has reached 30 is deleted with its entries (R66). -/
def turnGone (p : Nat) (s : State) : State :=
  match peer s p with
  | some x => if Config.goneAge ≤ x.age then deletePeer x s else s
  | none => s

/-- One record ages by a tick (R64). -/
def agePeer (s : State) (p : Nat) : State :=
  match peer s p with
  | some x => turnGone p (turnStale p { s with peers := putPeer { x with age := x.age + 1 } s.peers })
  | none => s

/-- Every record ages by a tick (R64). -/
def agePeers (s : State) : State := (s.peers.map (·.station)).foldl agePeer s

/-- PEER_STALE (R65): for a FRESH record whose age stands at 8 or more. -/
def execPeerStale (p : Nat) (s : State) : Host.Outcome State Fault Refusal :=
  outOfReset s fun s => settle (turnStale p s)

/-- PEER_GONE (R66): for a record whose age stands at 30 or more. -/
def execPeerGone (p : Nat) (s : State) : Host.Outcome State Fault Refusal :=
  outOfReset s fun s => turnGone p s

end Sys2Proof.Machine
end

