-- ==== Sys2Proof/Machine/Channel.lean ====
section
/-! DEFINITION. The Coordination Transceiver's sending side: builds (R42, R43), send attempts (R45), and what the changes of
part state do to it (R52 to R54). -/

namespace Sys2Proof.Machine

/-! ### Frame buffers -/

/-- Whether a frame is in transmission. -/
def Transceiver.isSending (c : Transceiver) : Bool :=
  match c.bufA, c.bufB with
  | .sending _ _, _ => true
  | _, .sending _ _ => true
  | _, _ => false

/-- A WAITING buffer becomes EMPTY; another is unchanged (R42). -/
def FrameBuffer.unwaited : FrameBuffer → FrameBuffer
  | .waiting _ => .empty
  | b => b

/-- Any WAITING frame is discarded (R42, R53). -/
def Transceiver.discardWaiting (c : Transceiver) : Transceiver :=
  { c with bufA := c.bufA.unwaited, bufB := c.bufB.unwaited }

/-- A built frame is written into a buffer that is not SENDING, which becomes WAITING (R42). -/
def Transceiver.write (c : Transceiver) (f : Frame) : Transceiver :=
  match c.bufA with
  | .sending _ _ => { c with bufB := .waiting f }
  | _ => { c with bufA := .waiting f }

/-- A send attempt for one WAITING frame (R45): the buffer after it, and the LFSR after it. -/
def attemptFrame (busy : Bool) (f : Frame) (lfsr : Word16) : FrameBuffer × Word16 :=
  if !busy then (.sending { f with backoff := none } (airTime f.bytes), lfsr)
  else if f.deferrals < Config.maxDeferrals then
    (.waiting { f with deferrals := f.deferrals + 1, backoff := some (backoffOf (lfsrNext lfsr)) }, lfsrNext lfsr)
  else (.empty, lfsr)

/-- The send attempt of the WAITING frame, if there is one and no transmission is on (R45, R46). -/
def Transceiver.attempt (c : Transceiver) (busy : Bool) : Transceiver :=
  if c.isSending then c
  else
    match c.bufA, c.bufB with
    | .waiting f, _ => { c with bufA := (attemptFrame busy f c.lfsr).1, lfsr := (attemptFrame busy f c.lfsr).2 }
    | _, .waiting f => { c with bufB := (attemptFrame busy f c.lfsr).1, lfsr := (attemptFrame busy f c.lfsr).2 }
    | _, _ => c

/-- Carrier sense: BUSY while CC_CS shows energy and while a reception is in progress (R38). -/
def carrierBusy (s : State) : Bool := s.pins.ccCs || s.chan.reception.isSome

/-- The level of CC_CS is sampled. -/
def sampleCarrier (ccCs : Bool) (s : State) : State := { s with pins := { s.pins with ccCs := ccCs } }

/-- The send attempt of the WAITING frame, on the carrier as it is sensed now (R45). -/
def attemptSend (s : State) : State := { s with chan := s.chan.attempt (carrierBusy s) }

/-! ### Builds -/

/-- The ids of the records that a frame carries: those that hold a run, ascending (R43). -/
def carriedRecords (s : State) : List Nat :=
  (List.range Config.recordCount).filter (fun r => (s.claim r).phase.holds && (s.claim r).run.isSome)

/-- The entry of a carried record: its run, with the class and phase it is announced with (R43). -/
def carriedEntry (s : State) (r : Nat) : HeardRun :=
  ⟨(s.claim r).run.getD ⟨0, 1⟩, (s.claim r).announced.1, (s.claim r).announced.2⟩

/-- The carried-list item of a carried record (R39). -/
def carriedItem (s : State) (r : Nat) : CarriedItem := ⟨r, (s.claim r).generation, (s.claim r).announced.2⟩

/-- The frame composed from the Claim Table as it stands, or a LEAVING frame outside ACTIVE (R43, R44). -/
def composeFrame (s : State) : Frame :=
  if isActive s then
    ⟨withCrc (frameBytes ((ownId s).getD 0) false ((carriedRecords s).map (carriedEntry s))), 0, none,
      (carriedRecords s).map (carriedItem s)⟩
  else ⟨withCrc (frameBytes ((ownId s).getD 0) true []), 0, none, []⟩

/-- A build (R42, R43): the build notice in ACTIVE, then the composed frame supersedes any WAITING one. -/
def buildFrame (s : State) : State :=
  let u := if isActive s then buildNotice s else s
  { u with chan := u.chan.discardWaiting.write (composeFrame u) }

/-- A timer build ends any urgent backoff and restores the allowance once its frame is composed (R42). -/
def restoreAllowance (s : State) : State :=
  { s with chan := { s.chan with urgentBackoff := none, allowance := .available } }

/-- The announcement timer is started or runs on: the next period is drawn (R41). -/
def Transceiver.drawPeriod (c : Transceiver) : Transceiver :=
  { c with lfsr := lfsrNext c.lfsr, timer := some (periodOf (lfsrNext c.lfsr)) }

/-- ANNOUNCEMENT_TIMER_EXPIRY (R41, R42): a running announcement timer. -/
def execAnnouncementTimerExpiry (ccCs : Bool) (s : State) : Host.Outcome State Fault Refusal :=
  outOfReset s fun s =>
    if s.chan.timer.isSome then
      settle (attemptSend (restoreAllowance (buildFrame (sampleCarrier ccCs { s with chan := s.chan.drawPeriod }))))
    else s

/-- URGENT_BACKOFF_END (R47): a running urgent backoff, in ACTIVE. -/
def execUrgentBackoffEnd (ccCs : Bool) (s : State) : Host.Outcome State Fault Refusal :=
  outOfReset s fun s =>
    if s.chan.urgentBackoff.isSome ∧ isActive s then
      settle (attemptSend (buildFrame (sampleCarrier ccCs { s with chan := { s.chan with urgentBackoff := none } })))
    else s

/-- Whether a buffer holds a WAITING frame whose deferral backoff runs. -/
def FrameBuffer.deferring : FrameBuffer → Bool
  | .waiting f => f.backoff.isSome
  | _ => false

/-- A frame's deferral backoff ends. -/
def FrameBuffer.endBackoff : FrameBuffer → FrameBuffer
  | .waiting f => .waiting { f with backoff := none }
  | b => b

/-- DEFERRAL_BACKOFF_END (R45): a WAITING frame whose deferral backoff runs makes its next send attempt. -/
def execDeferralBackoffEnd (ccCs : Bool) (s : State) : Host.Outcome State Fault Refusal :=
  outOfReset s fun s =>
    if s.chan.bufA.deferring || s.chan.bufB.deferring then
      attemptSend (sampleCarrier ccCs
        { s with chan := { s.chan with bufA := s.chan.bufA.endBackoff, bufB := s.chan.bufB.endBackoff } })
    else s

/-! ### Changes of part state -/

/-- The transmit side on entry to LEAVING and FAULT, before its timer: a transmission is cut off, a WAITING frame discarded
and an urgent backoff ended (R53, R54). -/
def Transceiver.cleared (c : Transceiver) : Transceiver :=
  { c with bufA := .empty, bufB := .empty, urgentBackoff := none }

end Sys2Proof.Machine
end

