-- ==== Sys2Proof/Machine/CallLines.lean ====
section
/-! DEFINITION. The call lines: latches, acknowledgements and the calls they open and close (R172 to R175). -/

namespace Sys2Proof.Machine

/-- The latch and acknowledgement of a line. -/
def State.line (s : State) (n : Nat) : CallLine := s.lines.getD n ⟨false, false⟩

/-- Replaces the latch and acknowledgement of a line. -/
def setLine (n : Nat) (x : CallLine) (s : State) : State := { s with lines := s.lines.set n x }

/-- The level of a call line; `true` is asserted. -/
def callLevel (s : State) (n : Nat) : Bool := s.pins.calls.getD n false

/-- The line's level becomes `level`. -/
def setCallLevel (n : Nat) (level : Bool) (s : State) : State :=
  { s with pins := { s.pins with calls := s.pins.calls.set n level } }

/-- Whether a line's sensitivity is EDGE_LEVEL (R172). -/
def isEdgeLevel (s : State) (n : Nat) : Bool :=
  match s.loader.config with
  | some v => v.edgeLevel.getD n false
  | none => false

/-- The part states in which the lines are watched (R172). -/
def linesWatched (s : State) : Bool :=
  match s.loader.part with
  | .loading => false
  | .fault => false
  | _ => true

/-- A line's open: as an OPEN_CALL would, with UNMET latched where the maximum or the records refuse it (R172). -/
def openByLine (n : Nat) (s : State) : State :=
  if slotOpen s .voice n then s
  else if openCount s .voice < classMax s .voice ∧ (takable .voice none s).isSome then openSlot .voice n 1 s
  else latch .unmet s

/-- The latch takes an assertion edge; an edge that finds it SET is lost (R172). -/
def takeEdge (n : Nat) (s : State) : State :=
  if (s.line n).latch then s else openByLine n (setLine n ⟨true, false⟩ s)

/-- The call of a slot is closed if it is open, and the line's latch and acknowledgement become CLEAR (R167, R174). -/
def closeLine (n : Nat) (s : State) : State :=
  setLine n ⟨false, false⟩ (if slotOpen s .voice n then closeCall n s else s)

/-- ACK_CALL_LINE on a SET latch (R173, R174). -/
def acknowledgeLine (n : Nat) (s : State) : State :=
  if isEdgeLevel s n then
    if callLevel s n then setLine n ⟨true, true⟩ s else closeLine n s
  else setLine n ⟨false, (s.line n).ack⟩ s

/-- Deassertion of an EDGE_LEVEL line with its latch and acknowledgement SET closes its call (R174). -/
def releaseLine (n : Nat) (s : State) : State :=
  if isEdgeLevel s n ∧ (s.line n).latch ∧ (s.line n).ack then closeLine n s else s

/-- On entry to ACTIVE an asserted EDGE_LEVEL line with its latch CLEAR is taken as an assertion edge (R174). -/
def takeLevel (s : State) (n : Nat) : State :=
  if isEdgeLevel s n ∧ callLevel s n then takeEdge n s else s

/-- Every latch and acknowledgement becomes CLEAR (R175). -/
def clearLines (s : State) : State := { s with lines := List.replicate 4 ⟨false, false⟩ }

/-- CALL_LINE_ASSERT (R172): the level changes in every state; a change from deasserted is an edge where the lines are
watched. -/
def execCallLineAssert (n : Nat) (s : State) : Host.Outcome State Fault Refusal :=
  .next (
    let u := setCallLevel n true s
    if !s.loader.inReset ∧ n < 4 ∧ !callLevel s n ∧ linesWatched s then settle (takeEdge n u) else u)

/-- CALL_LINE_DEASSERT (R174): the level changes in every state. -/
def execCallLineDeassert (n : Nat) (s : State) : Host.Outcome State Fault Refusal :=
  .next (
    let u := setCallLevel n false s
    if !s.loader.inReset ∧ n < 4 ∧ callLevel s n ∧ linesWatched s then settle (releaseLine n u) else u)

end Sys2Proof.Machine
end

