-- ==== Sys2Proof/Machine/Loader.lean ====
section
/-! DEFINITION. The Start-up Loader: reset (R178), the configuration record (R181, R182), the changes of part state (R183 to
R186), and the ageing tick that counts WARM_LISTEN (R56). -/

namespace Sys2Proof.Machine

/-! ### Measurements -/

/-- The next measurement (R24): the oldest spot entry, or the tile at the sweep position. -/
def Scanner.start (sc : Scanner) : Scanner :=
  match sc.spots with
  | e :: _ => { sc with measuring := some ⟨e.tile, .spot, none, Config.dwell⟩ }
  | [] => { sc with measuring := some ⟨sc.sweep, .sweep, none, Config.dwell⟩ }

/-! ### Changes of part state -/

/-- Replaces the part state. -/
def setPart (x : PartState) (s : State) : State := { s with loader := { s.loader with part := x } }

/-- Entry to WARM_LISTEN (R183): the count is 0 and the LFSR is seeded with the own id (R40). -/
def enterWarmListen (s : State) : State :=
  { s with
    loader := { s.loader with part := .warmListen, warmCount := 0 }
    chan := { s.chan with lfsr := BitVec.ofNat 16 ((ownId s).getD 0) } }

/-- The ids of the SEEKING records, ascending (R99). -/
def seekingRecords (s : State) : List Nat :=
  (List.range Config.recordCount).filter (fun r => (s.claim r).phase == .seeking)

/-- Entry to ACTIVE (R183): the announcement timer and the data growth timer start (R52, R139), every SEEKING record is queued
(R99), the first of the queue to be started by R103 (R121), and each asserted EDGE_LEVEL line with its latch CLEAR opens its call
(R174). DESIGN CHOICE (assumption log 27): the spec orders neither the lines nor their opens against the
start of R99's first request; here the requests of R99 join the queue, the lines are taken from line 0 to line 3, and the engine
starts its first placement when the first line's request has joined, so that a VOICE one comes before them. -/
def enterActive (s : State) : State :=
  let u := { s with
    loader := { s.loader with part := .active }
    chan := { s.chan.drawPeriod with allowance := .available }
    growth := ⟨some Config.growthPeriod, 0⟩ }
  let v := (seekingRecords u).foldl (fun w r => queuePlacement r w) u
  (List.range 4).foldl takeLevel v

/-- What LEAVE and entry to FAULT have in common, after the part state has changed: every record freed (R100), the spot queue
emptied (R34), the growth timer stopped (R139), the call-line latches clear (R175) and the transmit side cleared (R53, R54). -/
def standDown (s : State) : State :=
  let u := clearLines (freeAll s)
  { u with
    scan := u.scan.empty
    growth := ⟨none, 0⟩
    chan := u.chan.cleared }

/-- LEAVE, taken in WARM_LISTEN or ACTIVE (R184): the announcement timer runs on, or is started from WARM_LISTEN (R53). -/
def enterLeaving (s : State) : State :=
  let u := standDown { s with loader := { s.loader with part := .leaving, leavingCount := 0 } }
  { u with chan := if isActive s then u.chan else u.chan.drawPeriod }

/-- Entry to QUIET (R53, R185): the announcement timer stops and a WAITING frame is discarded. -/
def enterQuiet (s : State) : State :=
  { setPart .quiet s with chan := { s.chan.discardWaiting with timer := none } }

/-- Entry to FAULT (R54, R186). -/
def enterFault (cause : FaultCause) (s : State) : State :=
  let u := standDown { s with loader := { s.loader with part := .fault, faultCause := cause } }
  latch .fault { u with chan := { u.chan with timer := none } }

/-- The thirtieth tick of WARM_LISTEN has been counted: the part enters ACTIVE (R183). -/
def endWarmListen (s : State) : State :=
  if s.loader.part = .warmListen ∧ Config.warmTicks ≤ s.loader.warmCount then enterActive s else s

/-- The third LEAVING frame has been counted: the part enters QUIET (R184). -/
def completeLeaving (s : State) : State :=
  if s.loader.part = .leaving ∧ Config.leavingFrames ≤ s.loader.leavingCount then enterQuiet s else s

/-! ### Reset and configuration -/

/-- RESET (R178): every item of every block takes its reset value; the levels of the input pins and the commands that wait
outside the part are not the part's. -/
def execReset (s : State) : Host.Outcome State Fault Refusal :=
  .next { State.reset with pins := s.pins, pending := s.pending }

/-- Release of reset (R178): the ageing tick timer starts, the configuration read begins, and a link that is selected waits in
SPENT for its release (R162). -/
def releaseReset (s : State) : State :=
  { s with
    loader := { s.loader with inReset := false, reading := true }
    clock := { s.clock with ageing := some Config.ageingPeriod }
    link := { s.link with state := if s.pins.linkSelected then .spent else .idle } }

/-- RESET_RELEASE (R178), while RESET_N is held. -/
def execResetRelease (s : State) : Host.Outcome State Fault Refusal :=
  .next (if s.loader.inReset then releaseReset s else s)

/-- A configuration record is accepted (R182): its values are handed over, the tile flags set, the sweep started, and the part
enters WARM_LISTEN. -/
def acceptConfig (v : ConfigValues) (s : State) : State :=
  enterWarmListen { s with
    loader := { s.loader with reading := false, config := some v }
    tiles := flagTiles v s.tiles
    attn := { s.attn with mask := v.mask }
    scan := s.scan.start }

/-- A configuration record is refused (R181): the part enters FAULT with cause CONFIG, every cause is unmasked (R177), and the
sweep starts with the default thresholds (R22). -/
def refuseConfig (s : State) : State :=
  let u := enterFault .config { s with loader := { s.loader with reading := false } }
  { u with attn := { u.attn with mask := allCauses }, scan := u.scan.start }

/-- CONFIG_READ_COMPLETE (R181), while the configuration read is in progress in LOADING. -/
def execConfigReadComplete (bytes : List Byte) (s : State) : Host.Outcome State Fault Refusal :=
  outOfReset s fun s =>
    if s.loader.reading ∧ s.loader.part = .loading then
      if recordAccepted bytes then acceptConfig (recordValues bytes) s else refuseConfig s
    else s

/-! ### Ticks and counts -/

/-- The warm-listen count advances in WARM_LISTEN (R183). -/
def countWarmTick (s : State) : State :=
  if s.loader.part = .warmListen then
    { s with loader := { s.loader with warmCount := min Config.warmTicks (s.loader.warmCount + 1) } }
  else s

/-- The stamp counts a tick, and the tick timer runs on (R56, R178). -/
def stampTick (s : State) : State := { s with clock := ⟨some Config.ageingPeriod, s.clock.stamp + 1⟩ }

/-- AGEING_TICK (R56): the stamp advances, every peer record ages with what follows from it (R64 to R66), and WARM_LISTEN is
counted, with the entry to ACTIVE at its thirtieth tick (R183). DESIGN CHOICE (assumption log 24): R56 does not order the two; the
stamp advances before the records age, so a grant change that a weakening brings about carries the new stamp. -/
def execAgeingTick (s : State) : Host.Outcome State Fault Refusal :=
  outOfReset s fun s =>
    if s.clock.ageing.isSome then settle (endWarmListen (countWarmTick (agePeers (stampTick s)))) else s

/-- WARM_LISTEN_END (R183): in WARM_LISTEN, with thirty ticks counted. -/
def execWarmListenEnd (s : State) : Host.Outcome State Fault Refusal :=
  outOfReset s fun s => settle (endWarmListen s)

/-- LEAVING_COMPLETE (R184): in LEAVING, with three LEAVING frames counted. -/
def execLeavingComplete (s : State) : Host.Outcome State Fault Refusal :=
  outOfReset s completeLeaving

/-! ### Sent and received frames -/

/-- Whether a frame is a LEAVING frame: bit 0 of its flags byte (R44). -/
def Frame.isLeaving (f : Frame) : Bool := (byteAt f.bytes 3).getLsbD 0

/-- The sent notice of a frame (R46): to the Claim Table, or, for a LEAVING frame, to the loader's leaving count (R184). -/
def giveSentNotice (f : Frame) (s : State) : State :=
  if f.isLeaving then
    completeLeaving
      (if s.loader.part = .leaving then
        { s with loader := { s.loader with leavingCount := min Config.leavingFrames (s.loader.leavingCount + 1) } }
      else s)
  else sentNotice f.carried s

/-- The frame in transmission, and the transceiver with its buffer EMPTY (R46). -/
def Transceiver.endSending (c : Transceiver) : Option (Frame × Transceiver) :=
  match c.bufA, c.bufB with
  | .sending f _, _ => some (f, { c with bufA := .empty })
  | _, .sending f _ => some (f, { c with bufB := .empty })
  | _, _ => none

/-- TRANSMISSION_END (R46): the buffer empties, the sent notice is given, and a WAITING frame makes its first attempt. -/
def execTransmissionEnd (ccCs : Bool) (s : State) : Host.Outcome State Fault Refusal :=
  outOfReset s fun s =>
    match s.chan.endSending with
    | some (f, c) => settleFrom s.engine (attemptSend (giveSentNotice f (sampleCarrier ccCs { s with chan := c })))
    | none => s

/-- Whether the receiver is on: in every part state but LOADING (R39, R51). -/
def receiverOn (s : State) : Bool := s.loader.part != .loading

/-- Replaces the reception. -/
def setReception (x : Option (List Byte)) (s : State) : State := { s with chan := { s.chan with reception := x } }

/-- SYNC_DETECTED (R49): a reception begins, outside a transmission of the part's own and outside another reception. -/
def execSyncDetected (s : State) : Host.Outcome State Fault Refusal :=
  outOfReset s fun s =>
    if receiverOn s ∧ !s.chan.isSending ∧ s.chan.reception = none then setReception (some []) (sampleCarrier true s) else s

/-- A dropped frame is counted once, saturating (R50). -/
def dropFrame (s : State) : State :=
  { s with chan := { s.chan with dropped := min Config.dropCounterMax (s.chan.dropped + 1) } }

/-- A valid frame is handed on (R51). -/
def handOn (f : ReceivedFrame) (s : State) : State :=
  if ownId s = some f.station then
    if s.loader.part = .fault then s else enterFault .duplicateId s
  else applyFrame f s

/-- ENTRY_COUNT_ASSEMBLED (R49): an entry count above 20 ends the reception, and the frame is dropped. -/
def execEntryCountAssembled (bytes : List Byte) (s : State) : Host.Outcome State Fault Refusal :=
  outOfReset s fun s =>
    match s.chan.reception with
    | some got =>
      if 5 ≤ (got ++ bytes).length ∧ Config.maxFrameEntries < (byteAt (got ++ bytes) 4).toNat then
        dropFrame (setReception none s)
      else setReception (some (got ++ bytes)) s
    | none => s

/-- RECEPTION_END (R49 to R51): the energy has ended; the frame is validated, and handed on or dropped. -/
def execReceptionEnd (bytes : List Byte) (s : State) : Host.Outcome State Fault Refusal :=
  outOfReset s fun s =>
    match s.chan.reception with
    | some got =>
      let u := setReception none (sampleCarrier false s)
      (match parseFrame (got ++ bytes) with
      | some f => settle (handOn f u)
      | none => dropFrame u)
    | none => s

/-- RECEPTION_OVERRUN (R49): energy goes on past the last expected byte; the frame is dropped, and the carrier stays BUSY. -/
def execReceptionOverrun (s : State) : Host.Outcome State Fault Refusal :=
  outOfReset s fun s =>
    match s.chan.reception with
    | some _ => dropFrame (setReception none (sampleCarrier true s))
    | none => s

end Sys2Proof.Machine
end

