-- ==== Sys2Proof/Machine/BandScanner.lean ====
section
/-! DEFINITION. The Band Scanner: samples (R23), the filter (R25), the noise states and their notices (R27 to R30), and the end
of a dwell (R24, R33). -/

namespace Sys2Proof.Machine

/-- A sample as it is used: a value above 63 is taken as 63 (R23). -/
def clampSample (b : Byte) : Nat := min Config.maxSample b.toNat

/-- The filter (R25). -/
def filterStep (f sample : Nat) : Nat := f - f / 8 + sample

/-- Changes what the scanner holds for a tile. -/
def changeNoise (t : Nat) (f : TileNoise → TileNoise) (s : State) : State :=
  { s with scan := { s.scan with tiles := s.scan.tiles.modify t f } }

/-- MEAS_SAMPLE_VALID (R23): the first sample of the dwell is taken and clamped, a later one ignored. -/
def execMeasSampleValid (sample : Byte) (s : State) : Host.Outcome State Fault Refusal :=
  outOfReset s fun s =>
    match s.scan.measuring with
    | some m =>
      if m.sample = none then
        { s with scan := { s.scan with measuring := some { m with sample := some (clampSample sample) } } }
      else s
    | none => s

/-- A tile has entered NOISY (R29): an own TENTATIVE, HELD or MOVING record receives a noise notice, and NOISE is latched for
a HELD or MOVING one. -/
def noiseNotice (t : Nat) (s : State) : State :=
  match ownRecord s t with
  | some r =>
    let u := if (s.claim r).phase = .held ∨ (s.claim r).phase = .moving then latch .noise s else s
    if (s.claim r).phase = .tentative ∨ (s.claim r).phase = .held ∨ (s.claim r).phase = .moving then
      applyNoise r (s.claim r).generation t u
    else u
  | none => s

/-- A tile has entered QUIET from RECOVERING (R30): an own HELD or MOVING record receives a quiet notice. -/
def quietNotice (t : Nat) (s : State) : State :=
  match ownRecord s t with
  | some r =>
    if (s.claim r).phase = .held ∨ (s.claim r).phase = .moving then applyQuiet r (s.claim r).generation t s else s
  | none => s

/-- A RECOVERING tile whose recovery count has reached 4 returns to QUIET (R28). -/
def recoverTile (t : Nat) (s : State) : State :=
  if (s.noise t).state = .recovering ∧ Config.recoverySamples ≤ (s.noise t).recovery then
    quietNotice t (changeNoise t (fun x => { x with state := .quiet, recovery := 0 }) s)
  else s

/-- A tile enters NOISY (R27, R28). -/
def enterNoisy (t : Nat) (s : State) : State :=
  noiseNotice t (changeNoise t (fun x => { x with state := .noisy, recovery := 0 }) s)

/-- The noise state machine of a tile, on a sweep sample, after the filter (R27, R28). -/
def driveNoise (t : Nat) (s : State) : State :=
  let l := reportedLevel (s.noise t).level
  match (s.noise t).state with
  | .quiet => if noiseOn s ≤ l then enterNoisy t s else s
  | .noisy =>
    if l < noiseOff s then changeNoise t (fun x => { x with state := .recovering, recovery := 1 }) s else s
  | .recovering =>
    if l < noiseOff s then recoverTile t (changeNoise t (fun x => { x with recovery := x.recovery + 1 }) s)
    else enterNoisy t s

/-- A sample that a measurement yields updates F of its tile (R25). -/
def takeSample (t : Nat) (sample : Option Nat) (s : State) : State :=
  match sample with
  | some v => changeNoise t (fun x => { x with level := filterStep x.level v }) s
  | none => s

/-- The sweep position advances, wrapping from 119 to 0 (R24). -/
def advanceSweep (s : State) : State :=
  { s with scan := { s.scan with sweep := if s.scan.sweep + 1 < Config.tileCount then s.scan.sweep + 1 else 0 } }

/-- The measurement that ends the dwell is over and the next one begins, by the spot queue as it stands (R24). -/
def startMeasurement (s : State) : State := { s with scan := s.scan.start }

/-- The end of a sweep measurement: a MISSING one drives nothing (R23, R27). -/
def endSweep (m : Measurement) (s : State) : State :=
  let u := takeSample m.tile m.sample s
  startMeasurement (advanceSweep (if m.sample.isSome then driveNoise m.tile u else u))

/-- The verdict of a spot measurement: CLEAR below NOISE_ON; HIGH otherwise, and where it is MISSING (R33). -/
def spotClear (sample : Option Nat) (s : State) : Bool :=
  match sample with
  | some v => decide (v < noiseOn s)
  | none => false

/-- The end of a spot measurement: the oldest entry leaves the queue, its result goes to the engine, and the next measurement
begins on what the result has left of the queue, before the engine chooses again (R24, R33, R34). -/
def endSpot (m : Measurement) (s : State) : State :=
  let u := takeSample m.tile m.sample s
  match u.scan.spots with
  | e :: rest =>
    let v := { u with scan := { u.scan with spots := rest } }
    let a := judgeSpot e.tile e.tag (spotClear m.sample s) v.engine
    spotAdvances a (startMeasurement (spotWithdraws a v))
  | [] => startMeasurement u

/-- DWELL_END (R24): the measurement in progress ends and the next one begins. -/
def execDwellEnd (s : State) : Host.Outcome State Fault Refusal :=
  outOfReset s fun s =>
    match s.scan.measuring with
    | some m =>
      (match m.serves with
      | .sweep => settle (endSweep m s)
      | .spot => settle (endSpot m s)
      | .withdrawnSpot => startMeasurement (takeSample m.tile m.sample s))
    | none => s

/-- NOISE_RECOVERED (R28): a RECOVERING tile whose recovery count stands at 4. -/
def execNoiseRecovered (t : Nat) (s : State) : Host.Outcome State Fault Refusal :=
  outOfReset s fun s => settle (recoverTile t s)

end Sys2Proof.Machine
end

