-- ==== Sys2Proof/Machine/ServiceLink.lean ====
section
/-! DEFINITION. The service link: the transaction (R162 to R164), the checks of a request (R165, R166), the reads (R168 to
R171) and the effects of the requests (R167, R176, R184, R185). -/

namespace Sys2Proof.Machine

/-! ### The transaction -/

/-- LINK_SELECT (R163): LNK_CS_N is asserted; out of reset, an assertion starts a transaction in CODE. -/
def execLinkSelect (s : State) : Host.Outcome State Fault Refusal :=
  .next (
    let u := { s with pins := { s.pins with linkSelected := true } }
    if s.loader.inReset ∨ s.pins.linkSelected then u
    else { u with link := { Link.reset with state := .code } })

/-- LINK_DESELECT (R163): LNK_CS_N is released, and the link is IDLE, its bytes discarded. -/
def execLinkDeselect (s : State) : Host.Outcome State Fault Refusal :=
  .next { s with pins := { s.pins with linkSelected := false }, link := Link.reset }

/-- LINK_TIMEOUT (R164): once for each transaction, while the link is selected. -/
def execLinkTimeout (s : State) : Host.Outcome State Fault Refusal :=
  outOfReset s fun s =>
    if s.pins.linkSelected ∧ s.link.state ≠ .idle ∧ !s.link.timedOut then
      latch .link { s with link := { s.link with state := .spent, timedOut := true } }
    else s

/-- The next byte of the response buffer is clocked out; when the buffer is exhausted, the link enters SPENT (R163). -/
def Link.clockOut (l : Link) : Link :=
  { l with
    lastOut := l.response.getD l.index 0
    index := l.index + 1
    sinceEdge := 0
    state := if l.index + 1 < l.response.length then .response else .spent }

/-- Eight clocks, which bring a byte in and one out and restart the time since the last clock edge (R163, R164). A code byte with
argument bytes moves the link to ARGS, an argument byte joins those received, and 0x00 comes out; in RESPONSE the next byte of
the buffer comes out; in SPENT the byte that comes in is ignored, and 0x00 comes out. A request that the byte completes is taken
by `clockIn`. -/
def Link.clockByte (l : Link) (b : Byte) : Link :=
  match l.state with
  | .idle => l
  | .code =>
    { l with code := b, args := [], lastOut := 0, sinceEdge := 0, state := if 0 < (argCount b).getD 0 then .args else .code }
  | .args => { l with args := l.args ++ [b], lastOut := 0, sinceEdge := 0 }
  | .response => l.clockOut
  | .spent => { l with lastOut := 0, sinceEdge := 0 }

/-- Bytes are clocked in, one after another. -/
def clockBytes (bs : List Byte) (s : State) : State := { s with link := bs.foldl Link.clockByte s.link }

/-- RESPONSE_BYTE_CLOCKED_OUT (R163): in RESPONSE, and, with nothing left to come out, in SPENT (R164). -/
def execResponseByteClockedOut (s : State) : Host.Outcome State Fault Refusal :=
  outOfReset s fun s => if s.link.state = .response ∨ s.link.state = .spent then clockBytes [0] s else s

/-! ### Results and checks -/

/-- The result codes (R165). -/
inductive LinkResult where
  | ok | badCode | notReady | badArg | slotState | limit
deriving DecidableEq, Repr

/-- The byte of a result code (R165). -/
def LinkResult.byte : LinkResult → Byte
  | .ok => 0xA0
  | .badCode => 0xE1
  | .notReady => 0xE2
  | .badArg => 0xE3
  | .slotState => 0xE4
  | .limit => 0xE5

/-- The response buffer is filled and the link enters RESPONSE (R163). -/
def respond (r : LinkResult) (bytes : List Byte) (s : State) : State :=
  { s with link := { s.link with state := .response, response := r.byte :: bytes, index := 0 } }

/-- A request whose last byte has come is taken (R163): where the check gives OK its effect is applied, and the reply is formed
from the state of that moment; refused, it has no effect. -/
def takeRequest (check : State → LinkResult) (effect : State → State) (reply : State → List Byte) (s : State) : State :=
  if check s = .ok then respond .ok (reply s) (effect s) else respond (check s) [] s

/-- No bytes follow the result code. -/
def noReply (_ : State) : List Byte := []

/-- Whether demand requests are served in the part state (R166, step 2). -/
def demandServed (s : State) : Bool :=
  match s.loader.part with
  | .loading => false
  | .fault => false
  | _ => true

/-- Steps 2 and 3 of R166 for a demand request, then what follows. -/
def checkDemand (argsOk : Bool) (rest : LinkResult) (s : State) : LinkResult :=
  if !demandServed s then .notReady else if !argsOk then .badArg else rest

/-- Whether an argument is a slot, 0 to 3 (R166, step 3). -/
def slotArg (b : Byte) : Bool := decide (b.toNat < 4)

/-- Whether an argument is a width, 1 to 8 (R166, step 3). -/
def widthArg (b : Byte) : Bool := decide (1 ≤ b.toNat) && decide (b.toNat ≤ 8)

/-- Steps 4 and 5 of R166 for an open. -/
def checkOpen (k : ServiceClass) (slot : Nat) (s : State) : LinkResult :=
  if slotOpen s k slot then .slotState
  else if classMax s k ≤ openCount s k ∨ takable k none s = none then .limit
  else .ok

/-! ### The requests: what each does when it is taken -/

/-- READ_STATUS (R169). -/
def serveReadStatus (s : State) : State := takeRequest (fun _ => .ok) id statusBytes s

/-- ACK_ATTN (R176). -/
def serveAckAttn (causes : Byte) (s : State) : State :=
  takeRequest (fun _ => if causes.getLsbD 7 then .badArg else .ok) (unlatch causes) noReply s

/-- SET_DATA (R137, R147). -/
def serveSetData (floor ceiling : Byte) (s : State) : State :=
  takeRequest (checkDemand true .ok) (fun s => settle (applyDemand floor.toNat ceiling.toNat s)) noReply s

/-- OPEN_PROGRAM (R78). -/
def serveOpenProgram (slot width : Byte) (s : State) : State :=
  takeRequest (fun s => checkDemand (slotArg slot && widthArg width) (checkOpen .video slot.toNat s) s)
    (fun s => settle (openSlot .video slot.toNat width.toNat s)) noReply s

/-- CLOSE_PROGRAM (R93). -/
def serveCloseProgram (slot : Byte) (s : State) : State :=
  takeRequest (fun s => checkDemand (slotArg slot) (if slotOpen s .video slot.toNat then .ok else .slotState) s)
    (fun s => settle (closeProgram slot.toNat s)) noReply s

/-- OPEN_CALL (R78). -/
def serveOpenCall (slot : Byte) (s : State) : State :=
  takeRequest (fun s => checkDemand (slotArg slot) (checkOpen .voice slot.toNat s) s)
    (fun s => settle (openSlot .voice slot.toNat 1 s)) noReply s

/-- CLOSE_CALL (R94, R167). -/
def serveCloseCall (slot : Byte) (s : State) : State :=
  takeRequest (checkDemand (slotArg slot) .ok) (fun s => settle (closeLine slot.toNat s)) noReply s

/-- ACK_CALL_LINE (R173, R174). -/
def serveAckCallLine (slot : Byte) (s : State) : State :=
  takeRequest (fun s => checkDemand (slotArg slot) (if (s.line slot.toNat).latch then .ok else .slotState) s)
    (fun s => settle (acknowledgeLine slot.toNat s)) noReply s

/-- READ_GRANT (R170). -/
def serveReadGrant (service : Byte) (s : State) : State :=
  takeRequest (fun _ => if (serviceOf service).isSome then .ok else .badArg) id
    (fun s => match serviceOf service with
      | some k => grantBytes k (s.grants.of k)
      | none => []) s

/-- READ_MAP (R171). -/
def serveReadMap (start count : Byte) (s : State) : State :=
  takeRequest (fun _ => if start.toNat ≤ 119 ∧ 1 ≤ count.toNat ∧ count.toNat ≤ 120 then .ok else .badArg) id
    (fun s => mapBytes s start.toNat count.toNat) s

/-- LEAVE (R184): served in WARM_LISTEN and ACTIVE (R166). -/
def serveLeave (s : State) : State :=
  takeRequest (fun s => if s.loader.part = .warmListen ∨ s.loader.part = .active then .ok else .notReady) enterLeaving
    noReply s

/-- JOIN (R185): served in QUIET (R166). -/
def serveJoin (s : State) : State :=
  takeRequest (fun s => if s.loader.part = .quiet then .ok else .notReady) enterWarmListen noReply s

/-- The request that the bytes of a transaction have made is taken (R163, R165). -/
def serve (request : Instr) (s : State) : State :=
  match request with
  | .badCode _ => respond .badCode [] s
  | .readStatus => serveReadStatus s
  | .ackAttn causes => serveAckAttn causes s
  | .setData floor ceiling => serveSetData floor ceiling s
  | .openProgram slot width => serveOpenProgram slot width s
  | .closeProgram slot => serveCloseProgram slot s
  | .openCall slot => serveOpenCall slot s
  | .closeCall slot => serveCloseCall slot s
  | .ackCallLine slot => serveAckCallLine slot s
  | .readGrant service => serveReadGrant service s
  | .readMap start count => serveReadMap start count s
  | .leave => serveLeave s
  | .join => serveJoin s
  | _ => s

/-! ### The bytes of a request -/

/-- A byte comes in (R163): in CODE and ARGS the link looks up the bytes received in the request table, and the byte that completes
a request, or a code in no row of the table, has it taken at once. -/
def clockIn (b : Byte) (s : State) : State :=
  let u := clockBytes [b] s
  if s.link.state = .code ∨ s.link.state = .args then
    match decodeRequest (u.link.code :: u.link.args) with
    | some c => serve c u
    | none => u
  else u

/-- The bytes of a request come in, one after another: from ARGS those that have not yet come, where those that have come begin
this request (assumption log 16). In RESPONSE and SPENT they are clocked and ignored; in IDLE there is no transaction. -/
def transact (bytes : List Byte) (s : State) : State :=
  match s.link.state with
  | .idle => s
  | .args =>
    if (s.link.code :: s.link.args).isPrefixOf bytes then
      (bytes.drop (s.link.args.length + 1)).foldl (fun u b => clockIn b u) s
    else s
  | _ => bytes.foldl (fun u b => clockIn b u) s

/-- BAD_CODE (R165): the code byte comes in CODE, where a code with argument bytes moves the link to ARGS (R163), and a code
without is one of the requests below. In RESPONSE and SPENT the byte is clocked and ignored. -/
def execBadCode (code : Byte) (s : State) : Host.Outcome State Fault Refusal :=
  outOfReset s fun s =>
    if s.link.state = .args ∨ s.link.state = .code ∧ argCount code = some 0 then s else transact [code] s

/-- READ_STATUS (R169). -/
def execReadStatus (s : State) : Host.Outcome State Fault Refusal := outOfReset s (transact [0x01])

/-- ACK_ATTN (R176). -/
def execAckAttn (causes : Byte) (s : State) : Host.Outcome State Fault Refusal := outOfReset s (transact [0x02, causes])

/-- SET_DATA (R137, R147). -/
def execSetData (floor ceiling : Byte) (s : State) : Host.Outcome State Fault Refusal :=
  outOfReset s (transact [0x10, floor, ceiling])

/-- OPEN_PROGRAM (R78). -/
def execOpenProgram (slot width : Byte) (s : State) : Host.Outcome State Fault Refusal :=
  outOfReset s (transact [0x11, slot, width])

/-- CLOSE_PROGRAM (R93). -/
def execCloseProgram (slot : Byte) (s : State) : Host.Outcome State Fault Refusal := outOfReset s (transact [0x12, slot])

/-- OPEN_CALL (R78). -/
def execOpenCall (slot : Byte) (s : State) : Host.Outcome State Fault Refusal := outOfReset s (transact [0x13, slot])

/-- CLOSE_CALL (R94, R167). -/
def execCloseCall (slot : Byte) (s : State) : Host.Outcome State Fault Refusal := outOfReset s (transact [0x14, slot])

/-- ACK_CALL_LINE (R173, R174). -/
def execAckCallLine (slot : Byte) (s : State) : Host.Outcome State Fault Refusal := outOfReset s (transact [0x15, slot])

/-- READ_GRANT (R170). -/
def execReadGrant (service : Byte) (s : State) : Host.Outcome State Fault Refusal := outOfReset s (transact [0x20, service])

/-- READ_MAP (R171). -/
def execReadMap (start count : Byte) (s : State) : Host.Outcome State Fault Refusal :=
  outOfReset s (transact [0x21, start, count])

/-- LEAVE (R184). -/
def execLeave (s : State) : Host.Outcome State Fault Refusal := outOfReset s (transact [0x30])

/-- JOIN (R185). -/
def execJoin (s : State) : Host.Outcome State Fault Refusal := outOfReset s (transact [0x31])

end Sys2Proof.Machine
end

