-- ==== Sys2Proof/Machine/Dispatch.lean ====
section
/-! DEFINITION. The dispatch: one arm per command, each a direct call of its meaning. -/

namespace Sys2Proof.Machine

/-- The effect of a command on everything but the queue. -/
def exec (i : Instr) (s : State) : Host.Outcome State Fault Refusal :=
  match i with
  | .reset => Sys2Proof.Machine.execReset s
  | .resetRelease => Sys2Proof.Machine.execResetRelease s
  | .configReadComplete bytes => Sys2Proof.Machine.execConfigReadComplete bytes s
  | .ageingTick => Sys2Proof.Machine.execAgeingTick s
  | .peerStale station => Sys2Proof.Machine.execPeerStale station s
  | .peerGone station => Sys2Proof.Machine.execPeerGone station s
  | .warmListenEnd => Sys2Proof.Machine.execWarmListenEnd s
  | .announcementTimerExpiry ccCs => Sys2Proof.Machine.execAnnouncementTimerExpiry ccCs s
  | .deferralBackoffEnd ccCs => Sys2Proof.Machine.execDeferralBackoffEnd ccCs s
  | .urgentBackoffEnd ccCs => Sys2Proof.Machine.execUrgentBackoffEnd ccCs s
  | .transmissionEnd ccCs => Sys2Proof.Machine.execTransmissionEnd ccCs s
  | .drainEnd record => Sys2Proof.Machine.execDrainEnd record s
  | .leavingComplete => Sys2Proof.Machine.execLeavingComplete s
  | .syncDetected => Sys2Proof.Machine.execSyncDetected s
  | .receptionEnd bytes => Sys2Proof.Machine.execReceptionEnd bytes s
  | .receptionOverrun => Sys2Proof.Machine.execReceptionOverrun s
  | .measSampleValid sample => Sys2Proof.Machine.execMeasSampleValid sample s
  | .dwellEnd => Sys2Proof.Machine.execDwellEnd s
  | .noiseRecovered tile => Sys2Proof.Machine.execNoiseRecovered tile s
  | .roomRequest record generation width => Sys2Proof.Machine.execRoomRequest record generation width s
  | .roomAnswer record generation answer => Sys2Proof.Machine.execRoomAnswer record generation answer s
  | .commit record generation run => Sys2Proof.Machine.execCommit record generation run s
  | .commitAnswer record generation answer => Sys2Proof.Machine.execCommitAnswer record generation answer s
  | .lendRequest borrower bg lender lg tile => Sys2Proof.Machine.execLendRequest borrower bg lender lg tile s
  | .lendAnswer record generation answer => Sys2Proof.Machine.execLendAnswer record generation answer s
  | .placementOutcome record generation outcome => Sys2Proof.Machine.execPlacementOutcome record generation outcome s
  | .retryExpiry record => Sys2Proof.Machine.execRetryExpiry record s
  | .dataGrowthExpiry => Sys2Proof.Machine.execDataGrowthExpiry s
  | .linkSelect => Sys2Proof.Machine.execLinkSelect s
  | .linkDeselect => Sys2Proof.Machine.execLinkDeselect s
  | .linkTimeout => Sys2Proof.Machine.execLinkTimeout s
  | .badCode code => Sys2Proof.Machine.execBadCode code s
  | .readStatus => Sys2Proof.Machine.execReadStatus s
  | .ackAttn causes => Sys2Proof.Machine.execAckAttn causes s
  | .setData floor ceiling => Sys2Proof.Machine.execSetData floor ceiling s
  | .openProgram slot width => Sys2Proof.Machine.execOpenProgram slot width s
  | .closeProgram slot => Sys2Proof.Machine.execCloseProgram slot s
  | .openCall slot => Sys2Proof.Machine.execOpenCall slot s
  | .closeCall slot => Sys2Proof.Machine.execCloseCall slot s
  | .ackCallLine slot => Sys2Proof.Machine.execAckCallLine slot s
  | .readGrant service => Sys2Proof.Machine.execReadGrant service s
  | .readMap start count => Sys2Proof.Machine.execReadMap start count s
  | .leave => Sys2Proof.Machine.execLeave s
  | .join => Sys2Proof.Machine.execJoin s
  | .callLineAssert line => Sys2Proof.Machine.execCallLineAssert line s
  | .callLineDeassert line => Sys2Proof.Machine.execCallLineDeassert line s
  | .entryCountAssembled bytes => Sys2Proof.Machine.execEntryCountAssembled bytes s
  | .responseByteClockedOut => Sys2Proof.Machine.execResponseByteClockedOut s

end Sys2Proof.Machine
end

