-- ==== Sys2Proof/Machine/Timers.lean ====
section
/-! DEFINITION. What happens when no command waits: the messages between the blocks arrive, and, when none is on its way, one
microsecond passes and the timers that run out raise their commands (assumption log 2). -/

namespace Sys2Proof.Machine

/-- A running time after one microsecond. -/
def elapse (t : Option Nat) : Option Nat := t.map (· - 1)

/-- The command of a running time that this microsecond ends. -/
def due (t : Option Nat) (c : Instr) : List Instr :=
  match t with
  | some n => if n ≤ 1 then [c] else []
  | none => []

/-- The deferral backoff of a WAITING frame (R39). -/
def FrameBuffer.backoffLeft : FrameBuffer → Option Nat
  | .waiting f => f.backoff
  | _ => none

/-- What remains of a transmission (R37). -/
def FrameBuffer.sendingLeft : FrameBuffer → Option Nat
  | .sending _ n => some n
  | _ => none

/-- A frame buffer after one microsecond. -/
def FrameBuffer.elapsed : FrameBuffer → FrameBuffer
  | .empty => .empty
  | .waiting f => .waiting { f with backoff := elapse f.backoff }
  | .sending f n => .sending f (n - 1)

/-- Whether the link measures the time since its last clock edge (R164). -/
def linkMeasures (s : State) : Bool := s.pins.linkSelected && s.link.state != .idle && !s.link.timedOut

/-- The expiries of this microsecond, in a fixed order; where the spec says that either of two may be taken first, this order
is one of the two. The end of a deferral backoff comes before the builds, so that it never finds the frame of a build that has
superseded its own (R45, assumption log 2). -/
def dueCommands (s : State) : List Instr :=
  due s.clock.ageing .ageingTick ++
  due s.chan.bufA.backoffLeft (.deferralBackoffEnd s.pins.ccCs) ++
  due s.chan.bufB.backoffLeft (.deferralBackoffEnd s.pins.ccCs) ++
  due s.chan.timer (.announcementTimerExpiry s.pins.ccCs) ++
  due s.chan.urgentBackoff (.urgentBackoffEnd s.pins.ccCs) ++
  due s.chan.bufA.sendingLeft (.transmissionEnd s.pins.ccCs) ++
  due s.chan.bufB.sendingLeft (.transmissionEnd s.pins.ccCs) ++
  due (s.scan.measuring.map (·.left)) .dwellEnd ++
  due s.growth.left .dataGrowthExpiry ++
  (List.range Config.recordCount).flatMap (fun r => due (s.claim r).retry (.retryExpiry r)) ++
  (if linkMeasures s && decide (Config.linkTimeout ≤ s.link.sinceEdge + 1) then [.linkTimeout] else [])

/-- One microsecond passes: every running time runs down, and the commands of those that run out wait in the queue. -/
def passMicrosecond (s : State) : State :=
  { s with
    clock := { s.clock with ageing := elapse s.clock.ageing }
    chan := { s.chan with
      timer := elapse s.chan.timer
      urgentBackoff := elapse s.chan.urgentBackoff
      bufA := s.chan.bufA.elapsed
      bufB := s.chan.bufB.elapsed }
    scan := { s.scan with measuring := s.scan.measuring.map (fun m => { m with left := m.left - 1 }) }
    growth := { s.growth with left := elapse s.growth.left }
    claims := s.claims.map (fun c => { c with retry := elapse c.retry })
    link := { s.link with sinceEdge := if linkMeasures s then s.link.sinceEdge + 1 else s.link.sinceEdge }
    pending := s.pending ++ dueCommands s }

/-- The messages on their way between the blocks arrive: they wait in the queue, in the order they were sent. -/
def deliver (s : State) : State := { s with pending := s.pending ++ s.outbox, outbox := [] }

/-- What the part does while no command waits. -/
def idle (s : State) : State := if s.outbox = [] then passMicrosecond s else deliver s

end Sys2Proof.Machine
end

