-- ==== Sys2Proof/Machine/Outputs.lean ====
section
/-! DEFINITION. The output pins, read from the state: the modulator (R37), the service link (R163), the configuration memory
port (R180) and the measurement port (R23). ATTN is `attnOutput` in Flags.lean. What a pin carries where the spec is silent is
absent here (assumption log 29). -/

namespace Sys2Proof.Machine

/-- The frame in transmission and the microseconds of it that are left (R37). -/
def FrameBuffer.onAir : FrameBuffer → Option (Frame × Nat)
  | .sending f n => some (f, n)
  | _ => none

/-- The frame on the air, if there is one. -/
def Transceiver.onAir (c : Transceiver) : Option (Frame × Nat) :=
  match c.bufA.onAir with
  | some x => some x
  | none => c.bufB.onAir

/-- CC_TX: the bit that drives the modulator in this microsecond, absent while the part does not transmit (R37). -/
def ccTx (s : State) : Option Bool :=
  match s.chan.onAir with
  | some (f, n) => if 0 < n then (airBits f.bytes)[airTime f.bytes - n]? else none
  | none => none

/-- LNK_SDO: the byte that the next eight clocks bring out (R163). -/
def lnkSdo (s : State) : Option Byte :=
  match s.link.state with
  | .idle => none
  | .code => some 0
  | .args => some 0
  | .response => s.link.response[s.link.index]?
  | .spent => some 0

/-- CFG_CS_N: low while the configuration memory is read (R178, R180). -/
def cfgCsN (s : State) : Bool := !s.loader.reading

/-- CFG_SDO: the bytes that the configuration read sends (R180). -/
def cfgSdo (s : State) : List Byte := if s.loader.reading then configReadCommand else []

/-- MEAS_TILE: the tile that the measurement in progress presents (R23). -/
def measTile (s : State) : Option Nat := s.scan.measuring.map (·.tile)

/-- MEAS_STROBE: raised at the start of a dwell (R23). -/
def measStrobe (s : State) : Bool :=
  match s.scan.measuring with
  | some m => decide (m.left = Config.dwell)
  | none => false

end Sys2Proof.Machine
end

