-- ==== Sys2Proof/Safety.lean ====
section
/-! DEFINITION. What the statements about the machine speak of: the laws that the spec gives each block's state, and the
frames, which say what an event leaves as it was. -/

namespace Sys2Proof.Machine

/-! ### Frames -/

/-- No block but the Placement Engine, with its spot checks and its messages, has changed. -/
structure OnlyPlacement (s t : State) : Prop where
  loader : t.loader = s.loader
  clock : t.clock = s.clock
  chan : t.chan = s.chan
  peers : t.peers = s.peers
  tiles : t.tiles = s.tiles
  levels : t.scan.tiles = s.scan.tiles
  sweep : t.scan.sweep = s.scan.sweep
  claims : t.claims = s.claims
  growth : t.growth = s.growth
  grants : t.grants = s.grants
  loans : t.loans = s.loans
  link : t.link = s.link
  demand : t.demand = s.demand
  lines : t.lines = s.lines
  attn : t.attn = s.attn
  pins : t.pins = s.pins
  pending : t.pending = s.pending

/-- What an event at the Claim Table leaves as it was: everything but the claim records, the grant records, the loan entries,
the attention latches, the urgent build it may request (R47), and the placement work it may request or cancel. -/
structure OnlyClaims (s t : State) : Prop where
  loader : t.loader = s.loader
  clock : t.clock = s.clock
  timer : t.chan.timer = s.chan.timer
  bufA : t.chan.bufA = s.chan.bufA
  bufB : t.chan.bufB = s.chan.bufB
  dropped : t.chan.dropped = s.chan.dropped
  reception : t.chan.reception = s.chan.reception
  peers : t.peers = s.peers
  tiles : t.tiles = s.tiles
  levels : t.scan.tiles = s.scan.tiles
  sweep : t.scan.sweep = s.scan.sweep
  growth : t.growth = s.growth
  link : t.link = s.link
  demand : t.demand = s.demand
  lines : t.lines = s.lines
  mask : t.attn.mask = s.attn.mask
  pins : t.pins = s.pins
  pending : t.pending = s.pending

/-- What an event at the Peer Table leaves as it was: everything but the peer records, the claimant lists, and what the loss
notices of its comparisons do (R16, R62). -/
structure OnlyPeers (s t : State) : Prop where
  loader : t.loader = s.loader
  clock : t.clock = s.clock
  timer : t.chan.timer = s.chan.timer
  bufA : t.chan.bufA = s.chan.bufA
  bufB : t.chan.bufB = s.chan.bufB
  dropped : t.chan.dropped = s.chan.dropped
  reception : t.chan.reception = s.chan.reception
  locked : t.tiles.map (·.locked) = s.tiles.map (·.locked)
  inWindow : t.tiles.map (·.inWindow) = s.tiles.map (·.inWindow)
  levels : t.scan.tiles = s.scan.tiles
  sweep : t.scan.sweep = s.scan.sweep
  growth : t.growth = s.growth
  link : t.link = s.link
  demand : t.demand = s.demand
  lines : t.lines = s.lines
  mask : t.attn.mask = s.attn.mask
  pins : t.pins = s.pins
  pending : t.pending = s.pending

/-! ### Words of the statements -/

/-- The link in RESPONSE, about to clock out `response`, whose first byte is the result code (R163). -/
def Link.replying (l : Link) (code : Byte) (args response : List Byte) : Link :=
  { l with
    state := .response, code := code, args := args, response := response, index := 0, sinceEdge := 0, lastOut := 0 }

/-- A record freed by an event that releases its run, if it has one, under a new generation (R75, R77). The fields that carry no
meaning in FREE are kept (log 9). -/
def ClaimRecord.ended (c : ClaimRecord) : ClaimRecord :=
  { c with
    generation := if c.run.isSome then c.generation + 1 else c.generation
    phase := .free
    run := none
    predecessor := none
    successor := none
    onLoan := none
    retry := none }

/-- What a sweep sample makes of a tile (R25 to R28): `f` is the new level. -/
def sweptNoise (on off : Nat) (x : TileNoise) (f : Nat) : TileNoise :=
  match x.state with
  | .quiet => if on ≤ (f + 4) / 8 then ⟨f, .noisy, 0⟩ else { x with level := f }
  | .noisy => if (f + 4) / 8 < off then ⟨f, .recovering, 1⟩ else { x with level := f }
  | .recovering =>
    if (f + 4) / 8 < off then
      if 4 ≤ x.recovery + 1 then ⟨f, .quiet, 0⟩ else ⟨f, .recovering, x.recovery + 1⟩
    else ⟨f, .noisy, 0⟩

/-- A grant record after an event that leaves the entries of its service as given (R95, R96): one change with the event's cause,
or none where no entry has changed. -/
def GrantRecord.after (g : GrantRecord) (entries : List (Option Run)) (cause : GrantCause) (stamp : Word16)
    (displacing : Option Nat) : GrantRecord :=
  if entries = g.entries then g else ⟨g.generation + 1, entries, some ⟨cause, stamp, displacing⟩⟩

/-- The loss notices of a frame (R16, R62): its entries in frame order, each compared on its tiles from the lowest upward with the
own record that holds the tile at that moment; each comparison it wins sends a notice, which is applied at once. -/
def lossNotices (station : Nat) (entries : List HeardRun) (s : State) : State :=
  entries.foldl (fun u h => (runTiles h.run).foldl (fun w n =>
    match ownRecord w n with
    | some r =>
      if beats ⟨h.cls, h.phase, station⟩ ((w.claim r).contender ((ownId w).getD 0)) then
        applyLoss r (w.claim r).generation n station w
      else w
    | none => w) u) s

/-- The loan entries after the record `c` of id `r` has lost its tile (R157, R158), where no entry below the top waits to be
popped: its entry, if it has one, is VOID, or popped if it is the top. -/
def voided (r : Nat) (c : ClaimRecord) (l : List LoanEntry) : List LoanEntry :=
  match c.onLoan with
  | some i =>
    match l[i]? with
    | some e =>
      if e.borrower = r ∧ e.borrowerGeneration = c.generation ∧ e.state ≠ .void then
        if i + 1 = l.length then l.dropLast else l.set i { e with state := .void }
      else l
    | none => l
  | none => l

/-- The entries that an unwinding pops, the top one first: those above the highest OUT one (R158). -/
def poppedEntries (l : List LoanEntry) : List LoanEntry := l.reverse.takeWhile (fun e => e.state != .out)

/-- The entries that an unwinding leaves: the highest OUT one and those below it (R158). -/
def remainingEntries (l : List LoanEntry) : List LoanEntry := (l.reverse.dropWhile (fun e => e.state != .out)).reverse

/-- What the pop of an entry makes of the claim records, and whether a tile has been released (R158, R159). A VOID entry does
nothing. The borrower of a RETURNED one, where it still holds the tile for it, becomes FREE; the lender's run widens by the tile where
the lender is HELD with the entry's generation, ends just below the tile and is narrower than 8, and otherwise the tile is
released. A borrower that no longer answers for the tile is left as it is (log 19). -/
def settledBy (p : List ClaimRecord × Bool) (e : LoanEntry) : List ClaimRecord × Bool :=
  let b := p.1.getD e.borrower ClaimRecord.reset
  if e.state = .returned ∧ (b.phase = .parked ∨ b.phase = .held ∨ b.phase = .moving ∨ b.phase = .draining) ∧
      b.generation = e.borrowerGeneration ∧ b.run = some ⟨e.tile, 1⟩ then
    match e.lender with
    | some l =>
      let c := p.1.getD l ClaimRecord.reset
      match c.run with
      | some x =>
        if c.cls = .data ∧ c.phase = .held ∧ c.generation = e.lenderGeneration ∧ x.first + x.width = e.tile ∧ x.width < 8 then
          ((p.1.set l { c with run := some ⟨x.first, x.width + 1⟩, width := x.width + 1 }).set e.borrower b.ended, p.2)
        else (p.1.set e.borrower b.ended, true)
      | none => (p.1.set e.borrower b.ended, true)
    | none => (p.1.set e.borrower b.ended, true)
  else p

/-- A record that is due for promotion at the next build (R83, R84). -/
def ClaimRecord.due (c : ClaimRecord) : Bool :=
  c.phase == .tentative && decide ((if c.cls = .voice then 2 else 3) ≤ c.listenCount)

/-- The first claimant of a tile that beats a HELD claim of a class with the own id (R18). -/
def firstWinner (s : State) (k : ServiceClass) (n : Nat) : Option Nat :=
  match (s.tile n).claimants with
  | e :: _ => if beats e.contender ⟨k, .held, (ownId s).getD 0⟩ then some e.station else none
  | [] => none

/-- What entry to FAULT leaves of a state (R54, R100, R139, R175, R186), in the fields that the cause does not touch. -/
def FaultEntered (s t : State) : Prop :=
  t.loader.part = .fault ∧ t.claims = s.claims.map (·.ended) ∧
    (∀ k, t.grants.of k = ⟨(s.grants.of k).generation + 1, List.replicate (slotCount k) none,
      some ⟨.left, s.clock.stamp, none⟩⟩) ∧
    t.engine = ⟨[], none, none⟩ ∧ t.loans = [] ∧ t.growth = ⟨none, 0⟩ ∧ t.lines = List.replicate 4 ⟨false, false⟩ ∧
    t.attn.latched = s.attn.latched ||| 0x41 ∧ t.chan.timer = none ∧ t.chan.bufA = .empty ∧ t.chan.bufB = .empty ∧
    t.chan.urgentBackoff = none ∧ t.chan.lfsr = s.chan.lfsr ∧ t.chan.allowance = s.chan.allowance ∧
    t.chan.dropped = s.chan.dropped ∧ t.scan.spots = [] ∧ t.scan.tiles = s.scan.tiles ∧ t.scan.sweep = s.scan.sweep ∧
    t.clock = s.clock ∧ t.peers = s.peers ∧ t.tiles = s.tiles ∧ t.link = s.link ∧ t.demand = s.demand ∧
    t.outbox = s.outbox ∧ t.pending = s.pending

/-! ### Laws of the blocks -/

/-- The form of one claimant list (R4): at most 3 entries, strongest first, of distinct stations, none of them `own`. -/
abbrev ClaimantListLaw (own : Option Nat) (l : List ClaimantEntry) : Prop :=
  l.length ≤ Config.claimantCapacity ∧
    l.Pairwise (fun a b => entryBeats a b = true ∧ a.station ≠ b.station) ∧
    ∀ e ∈ l, own ≠ some e.station

/-- The Occupancy Map (R1, R4): every claimant list has its form; in LOADING, where no frame is received, the lists are
empty. -/
abbrev ClaimantLaw (s : State) : Prop :=
  (∀ x ∈ s.tiles, ClaimantListLaw (ownId s) x.claimants) ∧
    (s.loader.part = .loading → s.chan.reception = none ∧ ∀ x ∈ s.tiles, x.claimants = [])

/-- One peer record (R55). -/
abbrev PeerRecordLaw (own : Option Nat) (x : PeerRecord) : Prop :=
  stationOk x.station = true ∧ own ≠ some x.station ∧ x.age < Config.goneAge ∧
    (x.state = .fresh ↔ x.age < Config.staleAge) ∧ x.runs.length ≤ Config.maxFrameEntries ∧
    ∀ h ∈ x.runs, runOk h.run = true

/-- The Peer Table (R55): at most 24 records of distinct stations, kept by ascending station id; none in LOADING. -/
abbrev PeerLaw (s : State) : Prop :=
  s.peers.length ≤ Config.peerCapacity ∧ s.peers.Pairwise (fun a b => a.station < b.station) ∧
    (∀ x ∈ s.peers, PeerRecordLaw (ownId s) x) ∧
    (s.loader.part = .loading → s.chan.reception = none ∧ s.peers = [])

/-- The three clauses of R72 for one entry on tile `t`: its station has a record, one of the record's runs covers the tile and
gives the entry its class and announced phase, and the effective phase follows from the record's state. -/
abbrev EntryAgrees (peers : List PeerRecord) (t : Nat) (e : ClaimantEntry) : Prop :=
  ∃ x ∈ peers, x.station = e.station ∧
    (∃ h ∈ x.runs, runHas h.run t = true ∧ h.cls = e.cls ∧ h.phase = e.announced) ∧
    e.effective = (if x.state = .stale then .tentative else e.announced)

/-- The map and the Peer Table agree (R72). -/
abbrev AgreementLaw (s : State) : Prop :=
  PeerLaw s ∧ ∀ t < s.tiles.length, ∀ e ∈ (s.tile t).claimants, EntryAgrees s.peers t e

/-- The own runs (R73, R76): 20 records; no run in FREE and SEEKING; every run 1 to 8 tiles within the band; no tile in the
runs of two records. -/
abbrev OwnRunsLaw (s : State) : Prop :=
  s.claims.length = Config.recordCount ∧
    (∀ c ∈ s.claims, (c.phase.holds = false → c.run = none) ∧ ∀ x ∈ c.run, runOk x = true) ∧
    ∀ q < Config.recordCount, ∀ r < q, ∀ t < Config.tileCount,
      ¬((s.claim q).ownsTile t = true ∧ (s.claim r).ownsTile t = true)

/-- One claim record (R73, R76, R80, R141, R142): a run in the phases that hold tiles alone, of the record's width; no retry timer and
no loan in TENTATIVE, which a commit enters; a DATA record never MOVING, DRAINING or PARKED, of width 1 while it grows, and without a
retry timer once HELD. -/
abbrev RecordLaw (c : ClaimRecord) : Prop :=
  (c.run.isSome = true ↔ c.phase.holds = true) ∧ (∀ x ∈ c.run, x.width = c.width) ∧
    (c.phase = .tentative → c.retry = none ∧ c.onLoan = none) ∧
    (c.cls = .data → (c.phase = .free ∨ c.phase = .seeking ∨ c.phase = .tentative ∨ c.phase = .held) ∧
      (c.phase = .seeking ∨ c.phase = .tentative → c.width = 1) ∧ (c.phase = .held → c.retry = none))

/-- The links of record `r` (R74, R80, R122, R126): a successor and its predecessor name each other, serve one program or call with
one width, and are SEEKING beside HELD or TENTATIVE beside MOVING. -/
abbrev LinkLaw (s : State) (r : Nat) : Prop :=
  (∀ p ∈ (s.claim r).predecessor, p < Config.recordCount ∧ (s.claim p).successor = some r ∧
    (s.claim r).cls ≠ .data ∧ (s.claim p).cls = (s.claim r).cls ∧ (s.claim p).slot = (s.claim r).slot ∧
    (s.claim p).width = (s.claim r).width ∧
    ((s.claim r).phase = .seeking ∧ (s.claim p).phase = .held ∨
      (s.claim r).phase = .tentative ∧ (s.claim p).phase = .moving)) ∧
  (∀ q ∈ (s.claim r).successor, q < Config.recordCount ∧ (s.claim q).predecessor = some r) ∧
  ((s.claim r).phase = .moving → (s.claim r).successor.isSome = true)

/-- The phases in which a record keeps its program, call or data slot: not FREE, DRAINING or PARKED (R78, R95). -/
def Phase.keepsSlot : Phase → Bool
  | .seeking => true
  | .tentative => true
  | .held => true
  | .moving => true
  | .free => false
  | .draining => false
  | .parked => false

/-- Whether two records keep one slot of one class. -/
def ClaimRecord.sharesSlot (c d : ClaimRecord) : Bool :=
  c.cls == d.cls && c.slot == d.slot && c.phase.keepsSlot && d.phase.keepsSlot

/-- Two records that keep one slot of one class are a predecessor and its successor; so at most one of them is HELD or MOVING
(R95). -/
abbrev SlotLaw (s : State) : Prop :=
  ∀ q < Config.recordCount, ∀ r < Config.recordCount, q ≠ r → (s.claim q).sharesSlot (s.claim r) = true →
    (s.claim q).successor = some r ∨ (s.claim q).predecessor = some r

/-- Record `r` as a borrower (R73, R155): its entry names it under its generation, its run is the entry's tile, and the entry is
RETURNED while the record is PARKED and OUT otherwise. -/
abbrev BorrowerLaw (s : State) (r : Nat) : Prop :=
  (∀ i ∈ (s.claim r).onLoan, (s.claim r).cls = .voice ∧ ∃ e ∈ s.loans[i]?, e.borrower = r ∧
    e.borrowerGeneration = (s.claim r).generation ∧ (s.claim r).run = some ⟨e.tile, 1⟩ ∧
    e.state = if (s.claim r).phase = .parked then .returned else .out) ∧
  ((s.claim r).phase = .parked → (s.claim r).onLoan.isSome = true)

/-- The Loan Stack (R149, R150): at most 4 entries, the top one OUT, and every entry that is not VOID named by its borrower. -/
abbrev LoanLaw (s : State) : Prop :=
  s.loans.length ≤ Config.loanCapacity ∧ (∀ e ∈ s.loans.getLast?, e.state = .out) ∧
    ∀ i < s.loans.length, ∀ e ∈ s.loans[i]?, e.state ≠ .void → (s.claim e.borrower).onLoan = some i

/-- The grant records (R95): an entry is present exactly for the record of its slot in HELD or MOVING, and is that record's run. -/
abbrev GrantLaw (s : State) : Prop :=
  s.grants.data.entries = grantEntries s.claims .data ∧ s.grants.video.entries = grantEntries s.claims .video ∧
    s.grants.voice.entries = grantEntries s.claims .voice

/-- The Claim Table, its grant records and the Loan Stack. -/
abbrev ClaimTableLaw (s : State) : Prop :=
  s.claims.length = Config.recordCount ∧ (∀ c ∈ s.claims, RecordLaw c) ∧ (∀ r < Config.recordCount, LinkLaw s r) ∧
    SlotLaw s ∧ (∀ r < Config.recordCount, BorrowerLaw s r) ∧ LoanLaw s ∧ GrantLaw s

/-- The held total is within HOLD_LIMIT (R79), which is not known before a configuration record is accepted. -/
abbrev HoldLaw (s : State) : Prop :=
  heldTotal s ≤ holdLimit s ∧ (s.loader.inReset = true ∨ s.loader.reading = true → s.loader.config = none)

/-- The records that the engine holds a request or a placement for. -/
def Engine.records (e : Engine) : List Nat :=
  e.queue.map (·.record) ++ e.active.toList.map (·.request.record) ++ e.suspended.toList.map (·.request.record)

/-- The Placement Engine (R101, R103): it is without an active placement only when it holds no work, no placement waits to enter
CHOOSE (log 4), and it holds at most one request or placement for a record. -/
abbrev EngineLaw (s : State) : Prop :=
  (s.engine.active = none → s.engine = Engine.reset) ∧ (∀ p ∈ s.engine.active, p.stage ≠ .entering) ∧
    s.engine.records.Nodup

/-- One tile of the scanner (R21). -/
abbrev TileNoiseLaw (x : TileNoise) : Prop :=
  x.level ≤ 504 ∧
    if x.state = .recovering then 1 ≤ x.recovery ∧ x.recovery < Config.recoverySamples else x.recovery = 0

/-- A measurement in progress (R21, R23, R24): of the tile at the sweep position, or of the oldest spot entry. -/
abbrev MeasurementLaw (sc : Scanner) (m : Measurement) : Prop :=
  m.tile < Config.tileCount ∧ (∀ v ∈ m.sample, v ≤ Config.maxSample) ∧ m.left ≤ Config.dwell ∧
    (m.serves = .sweep → m.tile = sc.sweep) ∧ (m.serves = .spot → sc.spots.head?.map (·.tile) = some m.tile)

/-- The Band Scanner (R21, R32). -/
abbrev ScannerLaw (s : State) : Prop :=
  s.scan.tiles.length = Config.tileCount ∧ (∀ x ∈ s.scan.tiles, TileNoiseLaw x) ∧
    s.scan.sweep < Config.tileCount ∧ s.scan.spots.length ≤ Config.spotCapacity ∧
    (s.scan.spots.map (·.tile)).Nodup ∧ (∀ e ∈ s.scan.spots, e.tile < Config.tileCount) ∧
    ∀ m ∈ s.scan.measuring, MeasurementLaw s.scan m

/-- What the part state governs (R178): the loader's own items, the timers that run (R41, R56, R139), the sweep (R22), and,
outside ACTIVE, the absence of runs, retry timers, placement work, spot checks, loans and urgent backoffs (R82, R95, R121,
R149). -/
abbrev PartLaw (s : State) : Prop :=
  ((s.loader.inReset = true → s.loader.part = .loading) ∧
    (s.loader.reading = true ↔ s.loader.inReset = false ∧ s.loader.part = .loading) ∧
    (s.loader.faultCause = .noFault ↔ s.loader.part ≠ .fault) ∧
    (s.loader.config = none ↔ s.loader.part = .loading ∨ s.loader.faultCause = .config) ∧
    s.loader.warmCount ≤ Config.warmTicks ∧
    (s.loader.part = .warmListen → s.loader.warmCount < Config.warmTicks) ∧
    s.loader.leavingCount ≤ Config.leavingFrames ∧
    (s.loader.part = .leaving → s.loader.leavingCount < Config.leavingFrames)) ∧
  ((s.clock.ageing.isSome = true ↔ s.loader.inReset = false) ∧
    (s.scan.measuring.isSome = true ↔ s.loader.part ≠ .loading) ∧
    (s.chan.timer.isSome = true ↔ s.loader.part = .active ∨ s.loader.part = .leaving) ∧
    (s.growth.left.isSome = true ↔ s.loader.part = .active) ∧ s.growth.pace ≤ 4) ∧
  (s.loader.part ≠ .active →
    (∀ c ∈ s.claims, c.phase.holds = false ∧ c.retry = none) ∧ s.engine = Engine.reset ∧ s.scan.spots = [] ∧
      s.loans = [] ∧ s.chan.urgentBackoff = none ∧ s.growth.pace = 0)

/-- The ranges of the configuration values in force (R181, R182). -/
abbrev ConfigValuesLaw (v : ConfigValues) : Prop :=
  stationOk v.ownId = true ∧ v.bandLow ≤ v.bandHigh ∧ v.bandHigh < Config.tileCount ∧
    (∀ g ∈ v.locks, g.1 ≤ g.2 ∧ g.2 < Config.tileCount) ∧ v.locks.length ≤ 4 ∧
    (1 ≤ v.holdLimit ∧ v.holdLimit ≤ 48) ∧ v.videoMax ≤ 4 ∧ v.voiceMax ≤ 4 ∧ v.dataMax ≤ 32 ∧
    (6 ≤ v.noiseOn ∧ v.noiseOn ≤ 48) ∧ (2 ≤ v.hysteresis ∧ v.hysteresis ≤ 12) ∧
    (1 ≤ v.noiseOn - v.hysteresis ∧ v.noiseOn - v.hysteresis ≤ 46) ∧ v.edgeLevel.length = 4 ∧
    v.mask &&& allCauses = v.mask

/-- The configuration values, the LFSR they seed, which is never 0 (R40), and the data demand they bound (R137). -/
abbrev ConfigLaw (s : State) : Prop :=
  (∀ v ∈ s.loader.config, ConfigValuesLaw v ∧ s.chan.lfsr ≠ 0) ∧
    (s.loader.part = .loading → s.loader.config = none) ∧
    s.demand.floor ≤ s.demand.ceiling ∧ s.demand.ceiling ≤ classMax s .data

/-- The cause sets (R168), the drop counter (R50), the link (R162, R163), the slots of the grant records, which a response lists
(R95, R170), and the call lines (R172). -/
abbrev InterfaceLaw (s : State) : Prop :=
  (s.grants.data.entries.length = slotCount .data ∧ s.grants.video.entries.length = slotCount .video ∧
    s.grants.voice.entries.length = slotCount .voice) ∧
  s.attn.latched &&& allCauses = s.attn.latched ∧ s.attn.mask &&& allCauses = s.attn.mask ∧
    s.chan.dropped ≤ Config.dropCounterMax ∧
    (s.pins.linkSelected = false → s.link.state = .idle) ∧
    (s.link.state = .response → s.link.index < s.link.response.length) ∧ s.link.response.length ≤ 241 ∧
    s.lines.length = 4 ∧ s.pins.calls.length = 4 ∧ ∀ v ∈ s.loader.config, v.mask &&& allCauses = v.mask

/-! ### What returns and closes do, as events -/

/-- What follows an unwinding that has left the claim records and loan entries of `v`, its data grant record still as it was (R160,
R147). Where no entry of the data grant has moved, nothing; otherwise the data grant makes one change with cause RETURNED, and a data
count above the ceiling is then trimmed to it as a separate event, with cause TRIMMED: the highest data tiles go, each record cut
takes one new generation, and the loan entries that name it under the old one lose their lender (R146, R154). A count exactly at the
ceiling trims nothing and keeps a growth record that seeks (log 26). -/
structure ReturnsGranted (v t : State) : Prop where
  unmoved : grantEntries v.claims .data = v.grants.data.entries →
    t.claims = v.claims ∧ t.loans = v.loans ∧ t.grants = v.grants ∧ t.chan = v.chan ∧ t.attn = v.attn
  within : grantEntries v.claims .data ≠ v.grants.data.entries → dataCount v ≤ v.demand.ceiling →
    t.claims = v.claims ∧ t.loans = v.loans ∧ t.chan = v.chan ∧
      t.grants = { v.grants with
        data := v.grants.data.after (grantEntries v.claims .data) .returned v.clock.stamp none } ∧
      t.attn = { v.attn with latched := v.attn.latched ||| 0x01 }
  above : grantEntries v.claims .data ≠ v.grants.data.entries → v.demand.ceiling < dataCount v → OwnRunsLaw v →
    dataCount t = v.demand.ceiling ∧ (∀ r, (v.claim r).isData = false → t.claim r = v.claim r) ∧
      (∀ r, (v.claim r).isData = true → t.claim r = v.claim r ∨
        (t.claim r).generation = (v.claim r).generation + 1 ∧ (t.claim r).runWidth < (v.claim r).runWidth) ∧
      (∃ h, ∀ r z n, (v.claim r).isData = true → (v.claim r).run = some z →
        ((∃ y, (t.claim r).run = some y ∧ runHas y n = true) ↔ runHas z n = true ∧ n < h)) ∧
      t.loans = v.loans.map (fun e =>
        if e.lender.any (fun l => (v.claim l).isData && decide (t.claim l ≠ v.claim l) &&
          decide ((v.claim l).generation = e.lenderGeneration)) then { e with lender := none } else e) ∧
      t.grants = { v.grants with
        data := (v.grants.data.after (grantEntries v.claims .data) .returned v.clock.stamp none).after
          (grantEntries t.claims .data) .trimmed v.clock.stamp none } ∧
      t.attn = { v.attn with latched := v.attn.latched ||| 0x01 } ∧
      t.chan = if v.loader.part = .active then v.chan.takeUrgent else v.chan

/-- A record that the close of call `n` takes: not FREE, and not PARKED (R93, R94). -/
def ClaimRecord.closes (c : ClaimRecord) (n : Nat) : Bool :=
  c.cls == .voice && c.slot == n && c.phase != .free && c.phase != .parked

/-- Whether record `q` holds a loan that its call's close returns: the entry its `on_loan` names is OUT and names the record under
its generation (R155). -/
def holdsLoan (s : State) (q : Nat) : Bool :=
  match (s.claim q).onLoan with
  | some i =>
    match s.loans[i]? with
    | some e => e.borrower == q && e.borrowerGeneration == (s.claim q).generation && e.state == .out
    | none => false
  | none => false

/-- The close of call `n` at the Claim Table and the Loan Stack (R94, R155, R158 to R160). A closed slot is left as it is. Of an open
one, every record without a loan is ended; the entries of the others are RETURNED together; the stack unwinds; a borrower that the
unwinding has not popped is PARKED; the voice grant changes with cause CLOSED where an entry of it has changed; and the data grant and the
trim follow. The placements of the records taken are cancelled (R104). -/
def CallClosed (n : Nat) (s t : State) : Prop :=
  (slotOpen s .voice n = false →
    t.claims = s.claims ∧ t.loans = s.loans ∧ t.grants = s.grants ∧ t.chan = s.chan ∧ t.attn = s.attn) ∧
  (slotOpen s .voice n = true →
    let freed := s.claims.mapIdx (fun q c => if c.closes n && !holdsLoan s q then c.ended else c)
    let marked := s.loans.mapIdx (fun i e =>
      if (s.claim e.borrower).closes n && holdsLoan s e.borrower && (s.claim e.borrower).onLoan == some i then
        { e with state := .returned }
      else e)
    let released := (List.range 20).any (fun q => (s.claim q).closes n && !holdsLoan s q && (s.claim q).run.isSome)
    let settled := (poppedEntries marked).foldl settledBy (freed, released)
    let claims := settled.1.mapIdx (fun q c =>
      if (s.claim q).closes n && holdsLoan s q && c.phase != .free then
        { c with phase := .parked, listenCount := 0, drainCount := 0, predecessor := none, successor := none, retry := none }
      else c)
    slotOpen t .voice n = false ∧ (∀ q < 20, (s.claim q).closes n = true → q ∉ t.engine.records) ∧
    ReturnsGranted { s with
      claims := claims
      loans := remainingEntries marked
      chan := if settled.2 = true ∧ s.loader.part = .active then s.chan.takeUrgent else s.chan
      grants := { s.grants with
        voice := s.grants.voice.after (grantEntries claims .voice) .closed s.clock.stamp none }
      attn := if grantEntries claims .voice = s.grants.voice.entries then s.attn
        else { s.attn with latched := s.attn.latched ||| 0x01 } } t)

end Sys2Proof.Machine
end

