-- ==== Sys2Proof/Certificates/Slice0/Obligations.lean ====
section
/-! DEFINITION. The statements about the CS-120, in the order of OBLIGATIONS.json. A statement about a command names a next
state and says what it holds, its frame with it; RESET_N is released in every one that does not say otherwise. -/

open Sys2Proof Sys2Proof.Machine

/-! ### The step -/

/-- A step takes the command at the front of the queue and runs it with the queue's rest. -/
def Obligations.StepRunsFrontCommand : Prop :=
  ∀ (c : Instr) (rest : List Instr) (s : State),
    step { s with pending := c :: rest } = exec c { s with pending := rest }

/-- The model's choice (assumption log 2), not a rule of the spec: on an empty queue the messages between the blocks arrive in
the order they were sent; with none on its way, every running timer runs down by one microsecond and the commands of those
that run out wait in the queue, in a fixed order: the ageing tick, the ends of the deferral backoffs, the announcement timer, the urgent
backoff, the ends of the transmissions, the dwell, the growth timer, the retry timers by record, and the link once it has seen no
clock for 30,000 µs. -/
def Obligations.EmptyQueueDeliversOrPassesTime : Prop :=
  ∀ s : State, s.pending = [] →
    (s.outbox ≠ [] → step s = .next { s with pending := s.outbox, outbox := [] }) ∧
    (s.outbox = [] →
    let ends (left : Option Nat) (c : Instr) : List Instr := if left = some 0 ∨ left = some 1 then [c] else []
    let backoff (b : FrameBuffer) : Option Nat := match b with
      | .waiting f => f.backoff
      | .empty => none
      | .sending _ _ => none
    let onAir (b : FrameBuffer) : Option Nat := match b with
      | .sending _ n => some n
      | .empty => none
      | .waiting _ => none
    let later (b : FrameBuffer) : FrameBuffer := match b with
      | .empty => .empty
      | .waiting f => .waiting { f with backoff := f.backoff.map (· - 1) }
      | .sending f n => .sending f (n - 1)
    let measures := s.pins.linkSelected = true ∧ s.link.state ≠ .idle ∧ s.link.timedOut = false
    step s = .next { s with
      clock := { s.clock with ageing := s.clock.ageing.map (· - 1) }
      chan := { s.chan with
        timer := s.chan.timer.map (· - 1)
        urgentBackoff := s.chan.urgentBackoff.map (· - 1)
        bufA := later s.chan.bufA
        bufB := later s.chan.bufB }
      scan := { s.scan with measuring := s.scan.measuring.map (fun m => { m with left := m.left - 1 }) }
      growth := { s.growth with left := s.growth.left.map (· - 1) }
      claims := s.claims.map (fun c => { c with retry := c.retry.map (· - 1) })
      link := { s.link with sinceEdge := if measures then s.link.sinceEdge + 1 else s.link.sinceEdge }
      pending := ends s.clock.ageing .ageingTick ++
        ends (backoff s.chan.bufA) (.deferralBackoffEnd s.pins.ccCs) ++
        ends (backoff s.chan.bufB) (.deferralBackoffEnd s.pins.ccCs) ++
        ends s.chan.timer (.announcementTimerExpiry s.pins.ccCs) ++
        ends s.chan.urgentBackoff (.urgentBackoffEnd s.pins.ccCs) ++
        ends (onAir s.chan.bufA) (.transmissionEnd s.pins.ccCs) ++
        ends (onAir s.chan.bufB) (.transmissionEnd s.pins.ccCs) ++
        ends (s.scan.measuring.map (·.left)) .dwellEnd ++
        ends s.growth.left .dataGrowthExpiry ++
        (List.range 20).flatMap (fun r => ends (s.claim r).retry (.retryExpiry r)) ++
        (if measures ∧ 30000 ≤ s.link.sinceEdge + 1 then [.linkTimeout] else []) })

/-- The model's reading of the rows' conditions (assumption log 3), with R178 for the time that RESET_N is held: a command that
finds nothing to act on changes nothing. -/
def Obligations.CommandWithNothingToActOnChangesNothing : Prop :=
  ∀ s : State,
    (s.loader.inReset = true → ∀ c, c ≠ .reset → c ≠ .resetRelease → c ≠ .linkSelect → c ≠ .linkDeselect →
      (∀ n, c ≠ .callLineAssert n ∧ c ≠ .callLineDeassert n) → exec c s = .next s) ∧
    (s.loader.reading = false → ∀ bs, exec (.configReadComplete bs) s = .next s) ∧
    (s.clock.ageing = none → exec .ageingTick s = .next s) ∧
    (s.chan.timer = none → ∀ b, exec (.announcementTimerExpiry b) s = .next s) ∧
    (s.chan.urgentBackoff = none ∨ s.loader.part ≠ .active → ∀ b, exec (.urgentBackoffEnd b) s = .next s) ∧
    (s.chan.bufA = .empty → s.chan.bufB = .empty → ∀ b,
      exec (.deferralBackoffEnd b) s = .next s ∧ exec (.transmissionEnd b) s = .next s) ∧
    (s.loader.part = .loading ∨ s.chan.reception ≠ none → exec .syncDetected s = .next s) ∧
    (s.chan.reception = none → exec .receptionOverrun s = .next s ∧
      ∀ bs, exec (.receptionEnd bs) s = .next s ∧ exec (.entryCountAssembled bs) s = .next s) ∧
    (s.scan.measuring = none → exec .dwellEnd s = .next s ∧ ∀ v, exec (.measSampleValid v) s = .next s) ∧
    (s.growth.left = none → exec .dataGrowthExpiry s = .next s) ∧
    (s.loader.part ≠ .leaving ∨ s.loader.leavingCount < 3 → exec .leavingComplete s = .next s) ∧
    (∀ r, s.loader.part ≠ .active ∨ (s.claim r).retry = none → exec (.retryExpiry r) s = .next s) ∧
    (∀ r, (s.claim r).phase ≠ .draining ∨ (s.claim r).drainCount < 2 → exec (.drainEnd r) s = .next s) ∧
    (∀ p, (∀ x, peer s p = some x → x.age < 30) → exec (.peerGone p) s = .next s) ∧
    (EngineLaw s →
      (s.loader.part ≠ .warmListen ∨ s.loader.warmCount < 30 → exec .warmListenEnd s = .next s) ∧
      (∀ p, (∀ x, peer s p = some x → x.age < 8 ∨ x.state = .stale) → exec (.peerStale p) s = .next s) ∧
      ∀ n, (s.noise n).state ≠ .recovering ∨ (s.noise n).recovery < 4 → exec (.noiseRecovered n) s = .next s) ∧
    (s.link.state ≠ .response → s.link.state ≠ .spent → exec .responseByteClockedOut s = .next s) ∧
    (s.link.state = .idle →
      exec .readStatus s = .next s ∧ exec .leave s = .next s ∧ exec .join s = .next s ∧
      ∀ a b, exec (.badCode a) s = .next s ∧ exec (.ackAttn a) s = .next s ∧ exec (.setData a b) s = .next s ∧
        exec (.openProgram a b) s = .next s ∧ exec (.closeProgram a) s = .next s ∧ exec (.openCall a) s = .next s ∧
        exec (.closeCall a) s = .next s ∧ exec (.ackCallLine a) s = .next s ∧ exec (.readGrant a) s = .next s ∧
        exec (.readMap a b) s = .next s)

/-! ### Reset, configuration and part states -/

/-- R178 and the reset rules of every block: what RESET leaves, and the output pins it rests. The levels of the input pins and the
commands waiting outside are not the part's (log 1); the link is IDLE while RESET_N is held, whatever LNK_CS_N (log 15). -/
def Obligations.ResetLeavesResetValues : Prop :=
  ∀ s : State, ∃ t, exec .reset s = .next t ∧
    t.loader = ⟨true, false, .loading, .noFault, 0, 0, none⟩ ∧ t.clock.stamp = 0 ∧
    t.chan = ⟨none, 0, .empty, .empty, .available, none, 0, none⟩ ∧ t.peers = [] ∧
    t.tiles = List.replicate 120 ⟨false, false, []⟩ ∧
    t.scan = ⟨List.replicate 120 ⟨0, .quiet, 0⟩, 0, [], none⟩ ∧
    t.claims = List.replicate 20 ⟨0, .data, 0, 1, .free, none, 0, 0, .new, none, none, none, 0, none⟩ ∧
    t.growth = ⟨none, 0⟩ ∧
    t.grants = ⟨⟨0, List.replicate 5 none, none⟩, ⟨0, List.replicate 4 none, none⟩, ⟨0, List.replicate 4 none, none⟩⟩ ∧
    t.engine = ⟨[], none, none⟩ ∧ t.loans = [] ∧ t.link.state = .idle ∧ t.demand = ⟨0, 0⟩ ∧
    t.lines = List.replicate 4 ⟨false, false⟩ ∧ t.attn = ⟨0, 0⟩ ∧ attnOutput t = false ∧
    ccTx t = none ∧ cfgCsN t = true ∧ measStrobe t = false ∧ t.outbox = [] ∧ t.pins = s.pins ∧ t.pending = s.pending

/-- R178, R56, R162 and R180: the release of RESET_N starts the ageing tick timer and the configuration read, which asserts CFG_CS_N
and sends 0x03, 0x00, 0x00; a link that is selected waits in SPENT. Nothing else changes, and outside reset nothing changes
(log 3). -/
def Obligations.ReleaseOfResetStartsTheRead : Prop :=
  ∀ s : State,
    (s.loader.inReset = true → exec .resetRelease s = .next { s with
      loader := { s.loader with inReset := false, reading := true }
      clock := { s.clock with ageing := some 100000 }
      link := { s.link with state := if s.pins.linkSelected then .spent else .idle } }) ∧
    (s.loader.inReset = false → exec .resetRelease s = .next s) ∧
    (s.loader.reading = true → cfgCsN s = false ∧ cfgSdo s = [0x03, 0x00, 0x00])

/-- R181 and R182, with R2, R22, R40, R177 and R183: a record that passes the checks is accepted, its values are clamped and
handed over, the sweep starts, and the part enters WARM_LISTEN with its LFSR seeded. -/
def Obligations.AcceptedRecordEntersWarmListen : Prop :=
  ∀ (bs : List Byte) (s : State), s.loader.inReset = false → s.loader.reading = true → s.loader.part = .loading →
    byteAt bs 0 = 0xC5 → crc16 (bs.take 30) = BitVec.ofNat 16 (value16 (byteAt bs 30) (byteAt bs 31)) →
    value16 (byteAt bs 1) (byteAt bs 2) ≠ 0 → value16 (byteAt bs 1) (byteAt bs 2) ≠ 65535 →
    (byteAt bs 3).toNat ≤ (byteAt bs 4).toNat → (byteAt bs 4).toNat ≤ 119 →
    ∃ t v, exec (.configReadComplete bs) s = .next t ∧
      t.loader = { s.loader with reading := false, part := .warmListen, warmCount := 0, config := some v } ∧
      v.ownId = value16 (byteAt bs 1) (byteAt bs 2) ∧
      v.bandLow = (byteAt bs 3).toNat ∧ v.bandHigh = (byteAt bs 4).toNat ∧
      v.holdLimit = max 1 (min 48 (byteAt bs 13).toNat) ∧ v.videoMax = min 4 (byteAt bs 14).toNat ∧
      v.voiceMax = min 4 (byteAt bs 15).toNat ∧ v.dataMax = min 32 (byteAt bs 16).toNat ∧
      v.noiseOn = max 6 (min 48 (byteAt bs 17).toNat) ∧
      v.hysteresis = min (v.noiseOn - 1) (max 2 (min 12 (byteAt bs 18).toNat)) ∧
      v.edgeLevel = (List.range 4).map (fun n => (byteAt bs 19).getLsbD n) ∧
      (∀ n < s.tiles.length, (t.tile n).claimants = (s.tile n).claimants ∧
        ((t.tile n).inWindow = true ↔ v.bandLow ≤ n ∧ n ≤ v.bandHigh) ∧
        ((t.tile n).locked = true ↔ ∃ k ∈ [5, 7, 9, 11],
          (byteAt bs k).toNat ≤ n ∧ n ≤ (byteAt bs (k + 1)).toNat ∧ n ≤ 119)) ∧
      t.tiles.length = s.tiles.length ∧
      t.attn = { s.attn with mask := byteAt bs 20 &&& 0x7F } ∧
      t.chan = { s.chan with lfsr := BitVec.ofNat 16 v.ownId } ∧ t.scan = s.scan.start ∧
      t.clock = s.clock ∧ t.peers = s.peers ∧ t.claims = s.claims ∧ t.growth = s.growth ∧ t.grants = s.grants ∧
      t.engine = s.engine ∧ t.loans = s.loans ∧ t.link = s.link ∧ t.demand = s.demand ∧ t.lines = s.lines ∧
      t.pins = s.pins ∧ t.outbox = s.outbox ∧ t.pending = s.pending

/-- R181 and R186: a record that fails a check sends the part to FAULT with cause CONFIG; every cause is unmasked (R177), no
value is handed over, and the sweep starts. Freed records keep what means nothing in FREE (log 9). -/
def Obligations.RefusedRecordEntersFault : Prop :=
  ∀ (bs : List Byte) (s : State), s.loader.inReset = false → s.loader.reading = true → s.loader.part = .loading →
    (byteAt bs 0 ≠ 0xC5 ∨ crc16 (bs.take 30) ≠ BitVec.ofNat 16 (value16 (byteAt bs 30) (byteAt bs 31)) ∨
      value16 (byteAt bs 1) (byteAt bs 2) = 0 ∨ value16 (byteAt bs 1) (byteAt bs 2) = 65535 ∨
      (byteAt bs 4).toNat < (byteAt bs 3).toNat ∨ 119 < (byteAt bs 4).toNat) →
    ∃ t, exec (.configReadComplete bs) s = .next t ∧ FaultEntered s t ∧
      t.loader = { s.loader with reading := false, part := .fault, faultCause := .config } ∧
      t.attn.mask = 0x7F ∧ t.chan.reception = s.chan.reception ∧ t.pins = s.pins ∧
      t.scan.measuring = some ⟨s.scan.sweep, .sweep, none, 250⟩

/-- R183, R52, R139 and R174: with thirty ticks counted, WARM_LISTEN_END takes the part to ACTIVE. The announcement timer
starts with a drawn period, the growth timer with 100 ms, the records that seek are kept and, the engine being empty as it is
outside ACTIVE (R101, R121), queued (R99: the engine holds each, or has sent its outcome), and each EDGE_LEVEL line found asserted with its latch CLEAR sets its latch and opens its call, or latches
UNMET where the maximum or the records refuse it. -/
def Obligations.WarmListenEndEntersActive : Prop :=
  ∀ s : State, s.loader.inReset = false → s.loader.part = .warmListen → 30 ≤ s.loader.warmCount →
    ∃ t, exec .warmListenEnd s = .next t ∧ t.loader = { s.loader with part := .active } ∧
      t.chan = { s.chan with
        lfsr := lfsrNext s.chan.lfsr
        timer := some ((88 + (lfsrNext s.chan.lfsr).toNat % 25) * 1000)
        allowance := .available } ∧
      t.growth = ⟨some 100000, 0⟩ ∧ (∀ r, (s.claim r).phase ≠ .free → t.claim r = s.claim r) ∧
      (∀ n < 4, n < s.lines.length → t.line n =
        if isEdgeLevel s n ∧ callLevel s n ∧ (s.line n).latch = false then ⟨true, false⟩ else s.line n) ∧
      (s.engine = Engine.reset → ∀ r < 20, (s.claim r).phase = .seeking → r ∈ t.engine.records ∨
        ∃ o, .placementOutcome r (s.claim r).generation o ∈ t.outbox) ∧
      (∀ n < 4, isEdgeLevel s n = true → callLevel s n = true → (s.line n).latch = false → slotOpen t .voice n = true ∨
        (classMax s .voice ≤ openCount t .voice ∨ freeRecord t = none) ∧ t.attn.latched &&& 0x08 = 0x08) ∧
      (∀ r, (s.claim r).phase = .free → t.claim r = s.claim r ∨ ∃ n < 4, isEdgeLevel s n = true ∧ callLevel s n = true ∧
        (s.line n).latch = false ∧ slotOpen s .voice n = false ∧ t.claim r =
          ⟨(s.claim r).generation + 1, .voice, n, 1, .seeking, none, 0, 0, .new, none, none, none, 0, none⟩) ∧
      t.clock = s.clock ∧ t.peers = s.peers ∧ t.tiles = s.tiles ∧ t.scan.tiles = s.scan.tiles ∧
      t.scan.sweep = s.scan.sweep ∧ t.grants = s.grants ∧ t.loans = s.loans ∧ t.link = s.link ∧ t.demand = s.demand ∧
      t.attn.mask = s.attn.mask ∧ t.pins = s.pins ∧ t.pending = s.pending

/-- R184, R53 and R185: with three LEAVING frames counted, LEAVING_COMPLETE takes the part to QUIET: the announcement timer
stops and a WAITING frame is discarded. -/
def Obligations.LeavingCompleteEntersQuiet : Prop :=
  ∀ s : State, s.loader.inReset = false → s.loader.part = .leaving → 3 ≤ s.loader.leavingCount →
    exec .leavingComplete s = .next { s with
      loader := { s.loader with part := .quiet }
      chan := { s.chan with timer := none, bufA := s.chan.bufA.unwaited, bufB := s.chan.bufB.unwaited } }

/-- R184, with R53, R34, R100, R121, R139 and R175: LEAVE taken in WARM_LISTEN or ACTIVE. Freed records keep what means nothing in
FREE (log 9). -/
def Obligations.LeaveFreesEverything : Prop :=
  ∀ s : State, s.loader.inReset = false → s.link.state = .code →
    s.loader.part = .warmListen ∨ s.loader.part = .active →
    ∃ t, exec .leave s = .next t ∧ t.link = s.link.replying 0x30 [] [0xA0] ∧
      t.loader = { s.loader with part := .leaving, leavingCount := 0 } ∧ t.claims = s.claims.map (·.ended) ∧
      (∀ k, t.grants.of k = ⟨(s.grants.of k).generation + 1, List.replicate (slotCount k) none,
        some ⟨.left, s.clock.stamp, none⟩⟩) ∧
      t.attn = { s.attn with latched := s.attn.latched ||| 0x01 } ∧ t.engine = ⟨[], none, none⟩ ∧ t.loans = [] ∧
      t.growth = ⟨none, 0⟩ ∧ t.lines = List.replicate 4 ⟨false, false⟩ ∧ t.scan = s.scan.empty ∧
      t.chan = { s.chan with
        bufA := .empty
        bufB := .empty
        urgentBackoff := none
        lfsr := if s.loader.part = .active then s.chan.lfsr else lfsrNext s.chan.lfsr
        timer := if s.loader.part = .active then s.chan.timer
          else some ((88 + (lfsrNext s.chan.lfsr).toNat % 25) * 1000) } ∧
      t.clock = s.clock ∧ t.peers = s.peers ∧ t.tiles = s.tiles ∧ t.demand = s.demand ∧ t.pins = s.pins ∧
      t.outbox = s.outbox ∧ t.pending = s.pending

/-- R185 and R183: JOIN taken in QUIET enters WARM_LISTEN with the count 0 and the LFSR seeded with the own id; everything else
is kept. -/
def Obligations.JoinEntersWarmListen : Prop :=
  ∀ (s : State) (own : Nat), s.loader.inReset = false → s.link.state = .code → s.loader.part = .quiet →
    ownId s = some own →
    exec .join s = .next { s with
      loader := { s.loader with part := .warmListen, warmCount := 0 }
      chan := { s.chan with lfsr := BitVec.ofNat 16 own }
      link := s.link.replying 0x31 [] [0xA0] }

/-! ### Peer Table and Occupancy Map -/

/-- R56 and R64 to R66, with R183: a tick advances the stamp; every peer record is one tick older, STALE from age 8 on, deleted
at age 30; in WARM_LISTEN the tick is counted, and at the thirtieth the part is in ACTIVE. -/
def Obligations.AgeingTickAgesEveryPeer : Prop :=
  ∀ s : State, s.loader.inReset = false → s.clock.ageing.isSome = true → PeerLaw s →
    ∃ t, exec .ageingTick s = .next t ∧ t.clock = ⟨some 100000, s.clock.stamp + 1⟩ ∧
      t.peers = (s.peers.filter (fun x => decide (x.age + 1 < 30))).map (fun x =>
        { x with age := x.age + 1, state := if 8 ≤ x.age + 1 then .stale else .fresh }) ∧
      (s.loader.part ≠ .warmListen →
        OnlyPeers { s with clock := ⟨some 100000, s.clock.stamp + 1⟩ } t) ∧
      (s.loader.part = .warmListen → s.loader.warmCount + 1 < 30 →
        OnlyPeers { s with
          clock := ⟨some 100000, s.clock.stamp + 1⟩
          loader := { s.loader with warmCount := s.loader.warmCount + 1 } } t) ∧
      (s.loader.part = .warmListen → s.loader.warmCount + 1 = 30 →
        t.loader = { s.loader with warmCount := 30, part := .active } ∧ t.growth = ⟨some 100000, 0⟩ ∧
        t.chan.timer.isSome = true ∧ t.chan.bufA = s.chan.bufA ∧ t.chan.bufB = s.chan.bufB ∧
        t.chan.dropped = s.chan.dropped ∧ t.chan.reception = s.chan.reception ∧
        t.tiles.map (·.locked) = s.tiles.map (·.locked) ∧ t.tiles.map (·.inWindow) = s.tiles.map (·.inWindow) ∧
        t.scan.tiles = s.scan.tiles ∧ t.scan.sweep = s.scan.sweep ∧ t.link = s.link ∧ t.demand = s.demand ∧
        t.attn.mask = s.attn.mask ∧ t.pins = s.pins ∧ t.pending = s.pending)

/-- R65 and R8: a FRESH record whose age has reached 8 becomes STALE, and its entries on every tile of the runs it announced HELD
are effective TENTATIVE; every list keeps its entries, in a new order at most, and the other records and the lists of the other
tiles are as they were. -/
def Obligations.PeerStaleWeakensHeldEntries : Prop :=
  ∀ (p : Nat) (x : PeerRecord) (s : State), s.loader.inReset = false → peer s p = some x → x.state = .fresh →
    8 ≤ x.age →
    ∃ t, exec (.peerStale p) s = .next t ∧ OnlyPeers s t ∧ peer t p = some { x with state := .stale } ∧
      (∀ q, q ≠ p → peer t q = peer s q) ∧
      (∀ n ∈ heldTiles x, (∀ e ∈ (t.tile n).claimants, e.station = p → e.announced = .held →
        e.effective = .tentative) ∧ (t.tile n).claimants.length ≤ (s.tile n).claimants.length) ∧
      (∀ n, n ∉ heldTiles x → t.tile n = s.tile n) ∧
      (ClaimantLaw s → ∀ n ∈ heldTiles x, (t.tile n).claimants.Perm ((s.tile n).claimants.map (fun e =>
        if e.station = p ∧ e.announced = .held then { e with effective := .tentative } else e)))

/-- R66: at age 30 the peer's entries are removed over every run it last announced, and its record is deleted; nothing is sent
or latched, and nothing else changes. -/
def Obligations.PeerGoneDeletesRecordAndEntries : Prop :=
  ∀ (p : Nat) (x : PeerRecord) (s : State), s.loader.inReset = false → peer s p = some x → 30 ≤ x.age →
    ∃ t, exec (.peerGone p) s = .next t ∧ t = { s with tiles := t.tiles, peers := t.peers } ∧
      t.peers = s.peers.filter (fun y => decide (y.station ≠ p)) ∧ t.tiles.length = s.tiles.length ∧
      ∀ n, (t.tile n).locked = (s.tile n).locked ∧ (t.tile n).inWindow = (s.tile n).inWindow ∧
        (t.tile n).claimants = if x.runs.any (fun h => runHas h.run n) then
          (s.tile n).claimants.filter (fun e => decide (e.station ≠ p)) else (s.tile n).claimants

/-- R63: a valid frame with LEAVING set deletes its station's record and every entry of it at once, sending no loss notice and
latching nothing; from a station without a record it has no effect. -/
def Obligations.LeavingFrameDeletesItsPeer : Prop :=
  ∀ (bs got : List Byte) (f : ReceivedFrame) (s : State), s.loader.inReset = false → s.chan.reception = some got →
    parseFrame (got ++ bs) = some f → f.leaving = true → ownId s ≠ some f.station → EngineLaw s → AgreementLaw s →
    ∃ t, exec (.receptionEnd bs) s = .next t ∧
      t = { s with
        tiles := t.tiles
        peers := t.peers
        chan := { s.chan with reception := none }
        pins := { s.pins with ccCs := false } } ∧
      t.peers = s.peers.filter (fun y => decide (y.station ≠ f.station)) ∧ t.tiles.length = s.tiles.length ∧
      ∀ n, (t.tile n).locked = (s.tile n).locked ∧ (t.tile n).inWindow = (s.tile n).inWindow ∧
        (t.tile n).claimants = (s.tile n).claimants.filter (fun e => decide (e.station ≠ f.station))

/-- R58, R60 and R61, with R5, R16 and R62: a valid frame without LEAVING is applied: its station's record is FRESH at age 0 with
the frame's runs in frame order, made if it was absent, and, where the table was full, in the place of the STALE record of the
greatest age, and among several of the highest station id, whose entries are removed; on the
tiles its runs cover, every entry of the station has its announced phase, and where others hold fewer than 3 places there is
one; on every other tile it has none. Of two of its runs on one tile the stronger one's claim is kept. The entries of the other
stations are kept in their order on every tile, but for the weakest of three, which falls off where the station's claim beats one
of them and is refused where it beats none (R5). What happens to the own records is what the loss notices of its comparisons do, one after
another, each comparison reading the Claim Table after the notice before it (log 25). -/
def Obligations.FrameReplacesItsPeersClaims : Prop :=
  ∀ (bs got : List Byte) (f : ReceivedFrame) (s : State), s.loader.inReset = false → s.chan.reception = some got →
    parseFrame (got ++ bs) = some f → f.leaving = false → ownId s ≠ some f.station → AgreementLaw s →
    (peer s f.station).isSome = true ∨ s.peers.length < 24 ∨ (∃ x ∈ s.peers, x.state = .stale) →
    ∃ t, exec (.receptionEnd bs) s = .next t ∧
      OnlyPeers { s with chan := { s.chan with reception := none }, pins := { s.pins with ccCs := false } } t ∧
      peer t f.station = some ⟨f.station, .fresh, 0, f.entries⟩ ∧
      t.peers.length = (if (peer s f.station).isSome then s.peers.length else min 24 (s.peers.length + 1)) ∧
      (∀ x ∈ s.peers, x.station ≠ f.station → x.state = .fresh → x ∈ t.peers) ∧
      (peer s f.station = none → 24 ≤ s.peers.length → ∃ z ∈ s.peers, z.state = .stale ∧
        (∀ x ∈ s.peers, x.state = .stale → x.age < z.age ∨ x.age = z.age ∧ x.station ≤ z.station) ∧
        peer t z.station = none ∧ (∀ x ∈ s.peers, x.station ≠ z.station → x ∈ t.peers) ∧
        ∀ n < s.tiles.length, ∀ e ∈ (t.tile n).claimants, e.station ≠ z.station) ∧
      (∀ n < s.tiles.length, ∀ e ∈ (t.tile n).claimants, e.station = f.station →
        e.effective = e.announced ∧
          ∃ h ∈ f.entries, runHas h.run n = true ∧ h.cls = e.cls ∧ h.phase = e.announced) ∧
      (∀ n < s.tiles.length, f.entries.any (fun h => runHas h.run n) = true →
        ((s.tile n).claimants.filter (fun e => decide (e.station ≠ f.station))).length < 3 →
        (t.tile n).claimants.any (fun e => e.station == f.station) = true) ∧
      (∀ n < s.tiles.length, ∀ e ∈ (t.tile n).claimants, e.station = f.station → ∀ h ∈ f.entries,
        runHas h.run n = true → beats ⟨h.cls, h.phase, f.station⟩ e.contender = false) ∧
      (∀ n < s.tiles.length,
        let covers := f.entries.filter (fun h => runHas h.run n)
        let kept := (s.tile n).claimants.filter (fun e => decide (e.station ≠ f.station) && (peer t e.station).isSome)
        let strikes := ∃ h ∈ covers, ∃ e ∈ kept, beats ⟨h.cls, h.phase, f.station⟩ e.contender = true
        (covers = [] → (t.tile n).claimants = kept) ∧
        (kept.length < 3 → (t.tile n).claimants.filter (fun e => decide (e.station ≠ f.station)) = kept) ∧
        (covers ≠ [] → kept.length = 3 → strikes →
          (t.tile n).claimants.filter (fun e => decide (e.station ≠ f.station)) = kept.dropLast ∧
          (t.tile n).claimants.any (fun e => e.station == f.station) = true) ∧
        (kept.length = 3 → ¬strikes → (t.tile n).claimants = kept)) ∧
      t = settle (lossNotices f.station f.entries { s with
        chan := { s.chan with reception := none }
        pins := { s.pins with ccCs := false }
        peers := t.peers
        tiles := t.tiles })

/-- R59: a frame without LEAVING from a station that has no record, while the table is full of FRESH records, is dropped:
PEERS_FULL is latched and nothing else changes. -/
def Obligations.FullTableDropsNewPeer : Prop :=
  ∀ (bs got : List Byte) (f : ReceivedFrame) (s : State), s.loader.inReset = false → s.chan.reception = some got →
    parseFrame (got ++ bs) = some f → f.leaving = false → ownId s ≠ some f.station → peer s f.station = none →
    s.peers.length = 24 → (∀ x ∈ s.peers, x.state = .fresh) → EngineLaw s →
    exec (.receptionEnd bs) s = .next { s with
      chan := { s.chan with reception := none }
      pins := { s.pins with ccCs := false }
      attn := { s.attn with latched := s.attn.latched ||| 0x20 } }

/-- R51 and R186: a valid frame with the own id sends the part to FAULT with cause DUPLICATE_ID, and in FAULT it is discarded;
it is not counted as dropped and does not reach the Peer Table. Freed records keep what means nothing in FREE (log 9). -/
def Obligations.DuplicateIdEntersFault : Prop :=
  ∀ (bs got : List Byte) (f : ReceivedFrame) (s : State), s.loader.inReset = false → s.chan.reception = some got →
    parseFrame (got ++ bs) = some f → ownId s = some f.station →
    (s.loader.part ≠ .fault → ∃ t, exec (.receptionEnd bs) s = .next t ∧ FaultEntered s t ∧
      t.loader = { s.loader with part := .fault, faultCause := .duplicateId } ∧ t.attn.mask = s.attn.mask ∧
      t.chan.reception = none ∧ t.pins = { s.pins with ccCs := false }) ∧
    (s.loader.part = .fault → EngineLaw s → exec (.receptionEnd bs) s = .next { s with
      chan := { s.chan with reception := none }
      pins := { s.pins with ccCs := false } })

/-! ### Coordination Transceiver -/

/-- R50, with R49: a received frame that fails any check is dropped: the drop counter rises by 1, saturating, and the frame has no
other effect. The checks are those of R50 over the bytes of a reception that its carrier energy ended; an entry count above
20 ends the reception when byte 4 is assembled, and an overrun ends it while the carrier stays BUSY. -/
def Obligations.InvalidFrameIsDropped : Prop :=
  ∀ (bs got : List Byte) (s : State), s.loader.inReset = false → s.chan.reception = some got →
    let fr := got ++ bs
    let n := (byteAt fr 4).toNat
    ((fr.length < 7 + 2 * n ∨ fr.length < 5 ∨ 20 < n ∨
        crc16 (fr.take (5 + 2 * n)) ≠ BitVec.ofNat 16 (value16 (byteAt fr (5 + 2 * n)) (byteAt fr (6 + 2 * n))) ∨
        byteAt fr 0 ≠ 0xA1 ∨ value16 (byteAt fr 1) (byteAt fr 2) = 0 ∨
        value16 (byteAt fr 1) (byteAt fr 2) = 65535 ∨ 1 < (byteAt fr 3).toNat ∨
        ∃ k < n, 119 < (byteAt fr (5 + 2 * k)).toNat + (byteAt fr (6 + 2 * k)).toNat % 8 ∨
          (byteAt fr (6 + 2 * k)).toNat / 8 % 4 = 0 ∨ 64 ≤ (byteAt fr (6 + 2 * k)).toNat) →
      exec (.receptionEnd bs) s = .next { s with
        chan := { s.chan with reception := none, dropped := min 65535 (s.chan.dropped + 1) }
        pins := { s.pins with ccCs := false } }) ∧
    (5 ≤ fr.length → 20 < n → exec (.entryCountAssembled bs) s = .next { s with
      chan := { s.chan with reception := none, dropped := min 65535 (s.chan.dropped + 1) } }) ∧
    exec .receptionOverrun s = .next { s with
      chan := { s.chan with reception := none, dropped := min 65535 (s.chan.dropped + 1) }
      pins := { s.pins with ccCs := true } }

/-- R49 and R38: outside LOADING, with no transmission of the part's own and no reception, a sync word begins a reception; an
entry count of at most 20 lets it go on. -/
def Obligations.SyncWordBeginsReception : Prop :=
  ∀ s : State, s.loader.inReset = false →
    (s.loader.part ≠ .loading → s.chan.isSending = false → s.chan.reception = none →
      exec .syncDetected s = .next { s with
        chan := { s.chan with reception := some [] }
        pins := { s.pins with ccCs := true } }) ∧
    (s.chan.isSending = true → exec .syncDetected s = .next s) ∧
    ∀ bs got : List Byte, s.chan.reception = some got → 5 ≤ (got ++ bs).length → (byteAt (got ++ bs) 4).toNat ≤ 20 →
      exec (.entryCountAssembled bs) s = .next { s with chan := { s.chan with reception := some (got ++ bs) } }

/-- R41 to R44: in LEAVING each expiry of the announcement timer draws the next period and builds a frame with the own id,
LEAVING set and no entries; it goes on the air on an idle channel, defers on a busy one, and waits in the other buffer behind a
transmission. That it takes buffer A where neither buffer is SENDING is the model's choice (log 13). -/
def Obligations.LeavingFrameIsBuilt : Prop :=
  ∀ (b : Bool) (own : Nat) (s : State), s.loader.inReset = false → s.loader.part = .leaving →
    s.chan.timer.isSome = true → ownId s = some own →
    let x := lfsrNext s.chan.lfsr
    let f : Frame := ⟨withCrc [0xA1, byteOf (own / 256), byteOf (own % 256), 1, 0], 0, none, []⟩
    let c := { s.chan with
      lfsr := x
      timer := some ((88 + x.toNat % 25) * 1000)
      urgentBackoff := none
      allowance := Allowance.available }
    ∃ t, exec (.announcementTimerExpiry b) s = .next t ∧
      OnlyPlacement { s with chan := t.chan, pins := { s.pins with ccCs := b } } t ∧
      (s.chan.isSending = false → b = false → s.chan.reception = none →
        t.chan = { c with bufA := .sending f 88, bufB := s.chan.bufB.unwaited }) ∧
      (s.chan.isSending = false → b = true ∨ s.chan.reception.isSome = true →
        t.chan = { c with
          lfsr := lfsrNext x
          bufA := .waiting { f with deferrals := 1, backoff := some (((lfsrNext x).toNat % 8 + 1) * 500) }
          bufB := s.chan.bufB.unwaited }) ∧
      (∀ g m, s.chan.bufA = .sending g m → t.chan = { c with bufB := .waiting f }) ∧
      (∀ g m, s.chan.bufB = .sending g m → (∀ g' m', s.chan.bufA ≠ .sending g' m') →
        t.chan = { c with bufA := .waiting f })

/-- R43, with R42, R45, R47 and R48: a build in ACTIVE, at an expiry of the announcement timer or at the end of an urgent
backoff, gives the build notice, and then composes a frame with one entry for each record that holds a run, ascending, in its
class and phase (PARKED as DATA HELD); the frame makes its first send attempt unless a transmission is on. A timer build ends
any urgent backoff and restores the allowance. That the frame takes buffer A where neither buffer is SENDING is the model's
choice (log 13). The build notice (R84, R85, R127, R144): with no record due it changes nothing; a sole due record that some
tile's first claimant beats is handled as lost; otherwise it is HELD, a primary VIDEO or VOICE record granted as PLACED, a
successor in its predecessor's place as NOISE_MOVE, and a DATA record merged into its neighbour as GROWN, or PLACED beside none
(a merged record is FREE and keeps what means nothing there, log 9; the record it joins takes the width of its run, log 17). -/
def Obligations.ActiveFrameCarriesEveryRun : Prop :=
  ∀ (b : Bool) (own : Nat) (s a : State) (c : Instr), s.loader.inReset = false → s.loader.part = .active →
    ownId s = some own →
    (c = .announcementTimerExpiry b ∧ s.chan.timer.isSome = true ∧
        a = { s with
          chan := { s.chan with
            lfsr := lfsrNext s.chan.lfsr
            timer := some ((88 + (lfsrNext s.chan.lfsr).toNat % 25) * 1000) }
          pins := { s.pins with ccCs := b } } ∨
      c = .urgentBackoffEnd b ∧ s.chan.urgentBackoff.isSome = true ∧
        a = { s with chan := { s.chan with urgentBackoff := none }, pins := { s.pins with ccCs := b } }) →
    let x := (buildNotice a).chan.lfsr
    ∃ t f, exec c s = .next t ∧ OnlyPlacement { buildNotice a with chan := t.chan } t ∧
      f.deferrals = 0 ∧ f.backoff = none ∧
      f.carried.map (·.record) = (List.range 20).filter (fun r => (t.claim r).phase.holds && (t.claim r).run.isSome) ∧
      (∀ i ∈ f.carried, i.generation = (t.claim i.record).generation ∧
        i.phase = if (t.claim i.record).phase = .tentative then .tentative else .held) ∧
      f.bytes = withCrc (frameBytes own false (f.carried.map (fun i =>
        ⟨(t.claim i.record).run.getD ⟨0, 1⟩,
          if (t.claim i.record).phase = .parked then .data else (t.claim i.record).cls, i.phase⟩))) ∧
      (s.chan.isSending = false → b = false → s.chan.reception = none →
        t.chan.bufA = .sending f (32 + 8 * f.bytes.length) ∧ t.chan.bufB = s.chan.bufB.unwaited ∧ t.chan.lfsr = x) ∧
      (s.chan.isSending = false → b = true ∨ s.chan.reception.isSome = true →
        t.chan.bufA = .waiting { f with
          deferrals := 1
          backoff := some (((lfsrNext x).toNat % 8 + 1) * 500) } ∧
        t.chan.bufB = s.chan.bufB.unwaited ∧ t.chan.lfsr = lfsrNext x) ∧
      (∀ g m, s.chan.bufA = .sending g m →
        t.chan.bufA = .sending g m ∧ t.chan.bufB = .waiting f ∧ t.chan.lfsr = x) ∧
      (∀ g m, s.chan.bufB = .sending g m → (∀ g' m', s.chan.bufA ≠ .sending g' m') →
        t.chan.bufA = .waiting f ∧ t.chan.bufB = .sending g m ∧ t.chan.lfsr = x) ∧
      t.chan.timer = a.chan.timer ∧
      (c = .announcementTimerExpiry b → t.chan.urgentBackoff = none ∧ t.chan.allowance = .available) ∧
      ((∀ r < 20, (s.claim r).due = false) →
        t.claims = s.claims ∧ t.grants = s.grants ∧ t.attn = s.attn ∧ t.loans = s.loans ∧ x = a.chan.lfsr) ∧
      ∀ r < 20, ∀ y, (s.claim r).due = true → (∀ q < 20, q ≠ r → (s.claim q).due = false) →
        (s.claim r).run = some y →
        let held := { s.claim r with phase := .held, listenCount := 0, tentativeLosses := 0, predecessor := none }
        (∀ n p, runHas y n = true → firstWinner s (s.claim r).cls n = some p →
          (∀ m, m < n → runHas y m = true → firstWinner s (s.claim r).cls m = none) →
          let l := applyLoss r (s.claim r).generation n p a
          t.claims = l.claims ∧ t.grants = l.grants ∧ t.attn = l.attn ∧ t.loans = l.loans) ∧
        ((∀ n, runHas y n = true → firstWinner s (s.claim r).cls n = none) →
          t.loans = s.loans ∧ x = a.chan.lfsr ∧
          ((s.claim r).predecessor = none → (s.claim r).cls ≠ .data →
            t.claims = s.claims.set r held ∧
            t.grants = s.grants.put (s.claim r).cls ((s.grants.of (s.claim r).cls).after
              (grantEntries t.claims (s.claim r).cls) .placed s.clock.stamp none)) ∧
          (∀ p, (s.claim r).predecessor = some p → p ≠ r →
            t.claims = (s.claims.set r held).set p
              { s.claim p with phase := .draining, drainCount := 0, successor := none } ∧
            t.grants = s.grants.put (s.claim r).cls ((s.grants.of (s.claim r).cls).after
              (grantEntries t.claims (s.claim r).cls) .noiseMove s.clock.stamp none)) ∧
          ((s.claim r).predecessor = none → (s.claim r).cls = .data → y.width = 1 → OwnRunsLaw s →
            let free := { held with listenCount := 0, tentativeLosses := 0 }.ended
            let joins := fun (z : Run) (q : Nat) => (s.claim q).cls = .data ∧ (s.claim q).phase = .held ∧
              (s.claim q).run = some z ∧ z.width < 8
            (∀ q z, joins z q → z.first + z.width = y.first →
              t.claims = (s.claims.set q { s.claim q with
                run := some ⟨z.first, z.width + 1⟩, width := z.width + 1 }).set r free ∧
              t.grants = { s.grants with
                data := s.grants.data.after (grantEntries t.claims .data) .grown s.clock.stamp none }) ∧
            ((∀ q < 20, ∀ z ∈ (s.claim q).run, joins z q → z.first + z.width ≠ y.first) →
              (∀ q z, joins z q → z.first = y.first + 1 →
                t.claims = (s.claims.set q { s.claim q with
                  run := some ⟨y.first, z.width + 1⟩, width := z.width + 1 }).set r free ∧
                t.grants = { s.grants with
                  data := s.grants.data.after (grantEntries t.claims .data) .grown s.clock.stamp none }) ∧
              ((∀ q < 20, ∀ z ∈ (s.claim q).run, joins z q → z.first ≠ y.first + 1) →
                t.claims = s.claims.set r held ∧
                t.grants = { s.grants with
                  data := s.grants.data.after (grantEntries t.claims .data) .placed s.clock.stamp none }))))

/-- R45: the end of a deferral backoff makes the frame's next send attempt: on an idle channel its transmission begins; on a busy
one it defers again, with a backoff of 1 to 8 slots, up to its sixth deferral, after which it is skipped. R37: while a frame is in
transmission CC_TX carries its bits, 16 of preamble, the sync word 0xB38E and the bytes, most significant bit first; otherwise it
is not driven. -/
def Obligations.DeferralEndMakesAnAttempt : Prop :=
  ∀ s : State, s.loader.inReset = false →
    (∀ (b : Bool) (f : Frame) (n : Nat), f.backoff = some n →
      let x := lfsrNext s.chan.lfsr
      let g : Frame := { f with deferrals := f.deferrals + 1, backoff := some ((x.toNat % 8 + 1) * 500) }
      let busy := b = true ∨ s.chan.reception.isSome = true
      ∃ t, exec (.deferralBackoffEnd b) s = .next t ∧
        (s.chan.bufA = .waiting f → s.chan.bufB = .empty →
          t = { s with chan := t.chan, pins := { s.pins with ccCs := b } } ∧
          (¬busy → t.chan = { s.chan with bufA := .sending { f with backoff := none } (32 + 8 * f.bytes.length) }) ∧
          (busy → f.deferrals < 6 → t.chan = { s.chan with bufA := .waiting g, lfsr := x }) ∧
          (busy → 6 ≤ f.deferrals → t.chan = { s.chan with bufA := .empty })) ∧
        (s.chan.bufA = .empty → s.chan.bufB = .waiting f →
          t = { s with chan := t.chan, pins := { s.pins with ccCs := b } } ∧
          (¬busy → t.chan = { s.chan with bufB := .sending { f with backoff := none } (32 + 8 * f.bytes.length) }) ∧
          (busy → f.deferrals < 6 → t.chan = { s.chan with bufB := .waiting g, lfsr := x }) ∧
          (busy → 6 ≤ f.deferrals → t.chan = { s.chan with bufB := .empty }))) ∧
    (∀ (f : Frame) (k m : Nat), s.chan.bufA = .sending f m ∨ (s.chan.bufA = .empty ∧ s.chan.bufB = .sending f m) →
      k + m = 32 + 8 * f.bytes.length → 0 < m →
      ccTx s = some (if k < 16 then decide (k % 2 = 0)
        else if k < 32 then (0xB38E : Word16).getLsbD (31 - k)
        else (f.bytes.getD ((k - 32) / 8) 0).getLsbD (7 - k % 8))) ∧
    (s.chan.isSending = false → ccTx s = none)

/-- R46, R83 and R184: the end of a transmission empties its buffer and gives the sent notice. Of a frame built in ACTIVE, each
TENTATIVE record that an item names with its generation, as TENTATIVE, has its listen count raised by 1, saturating at 3, and each
DRAINING one that an item names as HELD its drain count, which at 2 frees it with an urgent build requested (R86, for records
with no loan; a freed record keeps what means nothing in FREE, log 9); no other record changes. Of a LEAVING frame, the leaving
count rises, and at 3 the part enters QUIET. -/
def Obligations.SentFrameIsCounted : Prop :=
  ∀ (b : Bool) (f : Frame) (c : Transceiver) (s : State), s.loader.inReset = false →
    s.chan.endSending = some (f, c) →
    ((byteAt f.bytes 3).getLsbD 0 = false → (f.carried.map (·.record)).Nodup →
      (∀ i ∈ f.carried, (s.claim i.record).phase = .draining →
        (s.claim i.record).onLoan = none ∧ (s.claim i.record).run.isSome = true) →
      let drains := fun r => (s.claim r).phase = .draining ∧ ⟨r, (s.claim r).generation, .held⟩ ∈ f.carried
      let drained := fun r => { s.claim r with drainCount := min 2 ((s.claim r).drainCount + 1) }
      let frees := f.carried.any (fun i => (s.claim i.record).phase == .draining &&
        i == ⟨i.record, (s.claim i.record).generation, .held⟩ && decide (1 ≤ (s.claim i.record).drainCount))
      ∃ t, exec (.transmissionEnd b) s = .next t ∧
        t = { s with
          claims := t.claims
          chan := (if frees = true ∧ s.loader.part = .active then c.takeUrgent else c).attempt
            (b || s.chan.reception.isSome)
          pins := { s.pins with ccCs := b } } ∧
        ∀ r, t.claim r =
          if (s.claim r).phase = .tentative ∧ ⟨r, (s.claim r).generation, .tentative⟩ ∈ f.carried then
            { s.claim r with listenCount := min 3 ((s.claim r).listenCount + 1) }
          else if drains r then (if 2 ≤ (drained r).drainCount then (drained r).ended else drained r)
          else s.claim r) ∧
    ((byteAt f.bytes 3).getLsbD 0 = true → s.loader.part = .leaving →
      (s.loader.leavingCount + 1 < 3 → exec (.transmissionEnd b) s = .next { s with
        loader := { s.loader with leavingCount := s.loader.leavingCount + 1 }
        chan := c.attempt (b || s.chan.reception.isSome)
        pins := { s.pins with ccCs := b } }) ∧
      (s.loader.leavingCount + 1 = 3 → ∃ t, exec (.transmissionEnd b) s = .next t ∧
        t = { s with
          loader := { s.loader with leavingCount := 3, part := .quiet }
          chan := t.chan
          pins := { s.pins with ccCs := b } } ∧ t.chan.timer = none))

/-- R86: a DRAINING record whose drain count has reached 2 releases its run and becomes FREE, with an urgent build requested; its
loan entry, if it has one, becomes VOID, and where that entry is not the top nothing else changes. The top entry is popped with
those below it that are not OUT, their tiles going home or being released (R157 to R160); where the entry below is OUT, that is all. The
freed record keeps what means nothing in FREE (log 9), a lender takes the width of its run (log 17), a return exactly to the ceiling
trims nothing (log 26), and a borrower that no longer answers for its tile stays as it is (log 19). -/
def Obligations.DrainEndFreesTheRecord : Prop :=
  ∀ (r : Nat) (s : State), s.loader.inReset = false → r < s.claims.length → (s.claim r).phase = .draining →
    (s.claim r).run.isSome = true → 2 ≤ (s.claim r).drainCount →
    let c := s.chan.takeUrgent
    ∃ t, exec (.drainEnd r) s = .next t ∧ OnlyClaims s t ∧ t.claim r = (s.claim r).ended ∧
      ((s.claim r).onLoan = none → t = { s with
        claims := s.claims.set r (s.claim r).ended
        chan := if s.loader.part = .active then c else s.chan }) ∧
      (∀ i e, (s.claim r).onLoan = some i → s.loans[i]? = some e → e.borrower = r →
        e.borrowerGeneration = (s.claim r).generation → e.state ≠ .void → i + 1 < s.loans.length →
        t = { s with
          claims := s.claims.set r (s.claim r).ended
          chan := if s.loader.part = .active then c else s.chan
          loans := s.loans.set i { e with state := .void } }) ∧
      (∀ i e, (s.claim r).onLoan = some i → s.loans[i]? = some e → e.borrower = r →
        e.borrowerGeneration = (s.claim r).generation → e.state ≠ .void → i + 1 = s.loans.length →
        let marked := s.loans.set i { e with state := .void }
        let settled := (poppedEntries marked).foldl settledBy (s.claims.set r (s.claim r).ended, true)
        ReturnsGranted { s with
          claims := settled.1
          chan := if s.loader.part = .active then c else s.chan
          loans := remainingEntries marked } t ∧
        ((∀ y ∈ s.loans.dropLast.getLast?, y.state = .out) →
          s.grants.data.entries = grantEntries (s.claims.set r (s.claim r).ended) .data → t = { s with
            claims := s.claims.set r (s.claim r).ended
            chan := if s.loader.part = .active then c else s.chan
            loans := s.loans.dropLast }))

/-! ### Band Scanner -/

/-- R23: the first sample qualified in a dwell is taken, clamped to 63; a later one in the same dwell is ignored. MEAS_TILE presents the
tile of the measurement in progress, and MEAS_STROBE is high at the start of its dwell alone (log 29: while the dwell has its
whole 250 µs left); without a measurement there is neither. -/
def Obligations.FirstSampleOfADwellIsTaken : Prop :=
  (∀ s : State, s.scan.measuring = none → measTile s = none ∧ measStrobe s = false) ∧
  (∀ (m : Measurement) (s : State), s.scan.measuring = some m →
    measTile s = some m.tile ∧ (measStrobe s = true ↔ m.left = 250)) ∧
  ∀ (v : Byte) (m : Measurement) (s : State), s.loader.inReset = false → s.scan.measuring = some m →
    (m.sample = none → exec (.measSampleValid v) s = .next { s with
      scan := { s.scan with measuring := some { m with sample := some (min 63 v.toNat) } } }) ∧
    (m.sample ≠ none → exec (.measSampleValid v) s = .next s)

/-- R25 to R28, with R24: the end of a sweep dwell. A sample moves the tile's level to F − floor(F / 8) + sample and then drives
its noise state; a MISSING one does neither. The sweep position advances, wrapping from 119 to 0, and with an empty spot queue
the next measurement is the sweep's. Other blocks change only by the notices of R29 and R30. A tile that enters NOISY in the run of
an own record latches NOISE for a HELD or MOVING one and sends its noise notice (R91): a record in TENTATIVE seeks again, and the
predecessor of a successor is HELD again, with the migration withdrawn where its run is all QUIET (R130); a HELD DATA record is
trimmed; and a HELD video or voice record without successor or timer starts a migration, or is held degraded where no successor
can be taken (R123, R124). For any other record nothing changes. In ACTIVE the record that seeks again and the successor that is taken
have their placement requested (stated where the engine obeys its law, with its queue in the order of rank, R102: it holds the request, or
has sent its outcome). A tile that enters QUIET from RECOVERING in the run of a HELD video or voice record (R30, R92, R133): where every
tile of the run is QUIET, a successor that seeks is FREE, its placement cancelled, and without a successor a running retry timer stops.
A sample that does neither, or on a tile in no own run, changes no record, grant, latch or urgent build. The kept run gives a trimmed record its width (log 17), and a
freed record keeps what means nothing in FREE (log 9). -/
def Obligations.SweepDwellFiltersAndDrives : Prop :=
  ∀ (m : Measurement) (s : State), s.loader.inReset = false → s.scan.measuring = some m → m.serves = .sweep →
    m.tile < s.scan.tiles.length →
    let x := s.noise m.tile
    let y := match m.sample with
      | some v => sweptNoise (noiseOn s) (noiseOff s) x (x.level - x.level / 8 + v)
      | none => x
    let p := if s.scan.sweep + 1 < 120 then s.scan.sweep + 1 else 0
    ∃ t, exec .dwellEnd s = .next t ∧
      OnlyClaims { s with scan := { s.scan with tiles := s.scan.tiles.set m.tile y, sweep := p } } t ∧
      (s.scan.spots = [] → t.scan.measuring = some ⟨p, .sweep, none, 250⟩) ∧
      (m.sample = none → t.claims = s.claims ∧ t.attn = s.attn ∧ t.grants = s.grants ∧ t.chan = s.chan) ∧
      (¬(x.state ≠ .noisy ∧ y.state = .noisy) ∧ ¬(x.state = .recovering ∧ y.state = .quiet) ∨ ownRecord s m.tile = none →
        t.claims = s.claims ∧ t.attn = s.attn ∧ t.grants = s.grants ∧ t.chan = s.chan ∧ t.loans = s.loans ∧
        (EngineLaw s → t.engine = s.engine ∧ t.outbox = s.outbox)) ∧
      (∀ r v, x.state = .recovering → y.state = .quiet → ownRecord s m.tile = some r → (s.claim r).run = some v →
        let served := (s.claim r).phase = .held ∧ (s.claim r).cls ≠ .data
        let clean := ∀ n ∈ runTiles v, n = m.tile ∨ (s.noise n).state = .quiet
        t.grants = s.grants ∧ t.attn = s.attn ∧ t.chan = s.chan ∧ t.loans = s.loans ∧
        (¬served ∨ ¬clean → t.claims = s.claims) ∧
        (served → clean → (s.claim r).successor = none → t.claims = s.claims.set r { s.claim r with retry := none }) ∧
        ∀ q, served → clean → (s.claim r).successor = some q → q ≠ r → (s.claim q).run = none →
          t.claims = (s.claims.set r { s.claim r with successor := none }).set q (s.claim q).ended ∧
            q ∉ t.engine.records) ∧
      let asks (q : Nat) (g : BitVec 4) := s.loader.part = .active → EngineLaw s →
        s.engine.queue.Pairwise (fun a b => rank b.cls ≤ rank a.cls) →
        q ∈ t.engine.records ∨ ∃ o, .placementOutcome q g o ∈ t.outbox
      ∀ r z, m.sample.isSome = true → x.state ≠ .noisy → y.state = .noisy → ownRecord s m.tile = some r →
        (s.claim r).run = some z →
        let c := s.claim r
        (c.phase = .held ∨ c.phase = .moving → t.attn.latched &&& 0x04 = 0x04) ∧
        (c.phase = .tentative → c.predecessor = none →
          t.claims = s.claims.set r { c with generation := c.generation + 1, phase := .seeking, run := none } ∧
          asks r (c.generation + 1) ∧ t.attn = s.attn ∧ t.grants = s.grants ∧
          t.chan = if s.loader.part = .active then s.chan.takeUrgent else s.chan) ∧
        (∀ p v, c.phase = .tentative → c.predecessor = some p → p ≠ r → (s.claim p).successor = some r →
          (s.claim p).run = some v →
          let clean := ∀ n ∈ runTiles v, n ≠ m.tile ∧ (s.noise n).state = .quiet
          (clean → t.claims = (s.claims.set r c.ended).set p { s.claim p with phase := .held, successor := none } ∧
            r ∉ t.engine.records) ∧
          (¬clean → t.claims = (s.claims.set r { c with generation := c.generation + 1, phase := .seeking, run := none }).set p
            { s.claim p with phase := .held } ∧ asks r (c.generation + 1)) ∧
          t.attn = s.attn ∧ t.grants = s.grants ∧
          t.chan = if s.loader.part = .active then s.chan.takeUrgent else s.chan) ∧
        (c.phase = .held → c.cls = .data → (∀ q, q ≠ r → t.claim q = s.claim q) ∧
          (t.claim r).generation = c.generation + 1 ∧
          (z.width = 1 → (t.claim r).phase = .free ∧ (t.claim r).run = none) ∧
          (1 < z.width → z.first + z.width - 1 - m.tile ≤ m.tile - z.first →
            (t.claim r).phase = .held ∧ (t.claim r).run = some ⟨z.first, m.tile - z.first⟩) ∧
          (1 < z.width → m.tile - z.first < z.first + z.width - 1 - m.tile →
            (t.claim r).phase = .held ∧ (t.claim r).run = some ⟨m.tile + 1, z.first + z.width - 1 - m.tile⟩) ∧
          t.grants = { s.grants with
            data := s.grants.data.after (grantEntries t.claims .data) .trimmed s.clock.stamp none }) ∧
        (c.phase = .held → c.cls ≠ .data → c.successor = none → c.retry = none → t.grants = s.grants ∧ t.chan = s.chan ∧
          (takable c.cls (some r) s = none → t.claims = s.claims.set r { c with retry := some 2000000 } ∧
            t.attn = { s.attn with latched := s.attn.latched ||| 0x0C }) ∧
          ∀ q, takable c.cls (some r) s = some q → t.claims = (s.claims.set q ⟨(s.claim q).generation + 1, c.cls, c.slot,
            c.width, .seeking, none, 0, 0, .migrate, some r, none, none, 0, none⟩).set r { c with successor := some q } ∧
            asks q ((s.claim q).generation + 1) ∧ t.attn = { s.attn with latched := s.attn.latched ||| 0x04 }) ∧
        ((c.phase = .held ∧ c.cls ≠ .data ∧ (c.successor ≠ none ∨ c.retry ≠ none)) ∨ c.phase = .moving ∨
            c.phase = .draining ∨ c.phase = .parked →
          t.claims = s.claims ∧ t.grants = s.grants ∧ t.chan = s.chan)

/-- R25, R33 and R34, with R24: the end of a spot dwell. A sample updates the level alone, never the noise state or the recovery
count; the oldest entry leaves the queue, the sweep position is held, and no other block but the Placement Engine changes. A
measurement whose entry has been withdrawn updates the level, and no result is sent. The result reaches the placement (R113):
CLEAR takes its tile out of those pending; the last one brings the re-check of COMMIT (R116), where the limit of a DATA request
is tested first (log 12), and then the room request or the commit (R117, R118); HIGH or MISSING excludes the tile, withdraws
the other checks, and the placement chooses again, or ends with its attempts at 3 (R108). The next measurement begins on the
queue as the result leaves it, before the placement chooses again (log 11). -/
def Obligations.SpotDwellUpdatesTheLevelAlone : Prop :=
  ∀ (m : Measurement) (s : State), s.loader.inReset = false → s.scan.measuring = some m →
    m.tile < s.scan.tiles.length → EngineLaw s →
    let x := s.noise m.tile
    let y := match m.sample with
      | some v => { x with level := x.level - x.level / 8 + v }
      | none => x
    let u := { s with scan := { s.scan with tiles := s.scan.tiles.set m.tile y } }
    (m.serves = .spot → ∃ t, exec .dwellEnd s = .next t ∧ OnlyPlacement u t ∧
      (∀ e, s.scan.spots = [e] → t.scan.measuring = some ⟨s.scan.sweep, .sweep, none, 250⟩) ∧
      (∀ e rest p, s.scan.spots = e :: rest → s.engine.active = some p →
        p.request.tag ≠ e.tag ∨ p.stage ≠ .confirm ∨ e.tile ∉ p.pendingSpots →
        t.engine = s.engine ∧ t.scan.spots = rest) ∧
      (∀ e rest p v w ws, s.scan.spots = e :: rest → s.engine.active = some p → p.request.tag = e.tag →
        p.stage = .confirm → m.sample = some v → v < noiseOn s → e.tile ∈ p.pendingSpots →
        p.pendingSpots.filter (fun n => decide (n ≠ e.tile)) = w :: ws →
        t.engine = { s.engine with active := some { p with pendingSpots := w :: ws } } ∧ t.scan.spots = rest) ∧
      (∀ e rest p, s.scan.spots = e :: rest → s.engine.active = some p → p.request.tag = e.tag →
        p.stage = .confirm → e.tile ∈ p.pendingSpots →
        ((∀ v, m.sample = some v → noiseOn s ≤ v) →
          let a := { u with scan := Scanner.start { u.scan with
            spots := rest.filter (fun x => decide (x.tag ≠ p.request.tag)) } }
          let q := { p with excluded := p.excluded ++ [e.tile], chosen := none, pendingSpots := [] }
          (p.attempts < 3 → t = settle (enterChoose (2 - p.attempts) { q with attempts := p.attempts + 1 } a)) ∧
          (3 ≤ p.attempts → t = settle { a with
            engine := { s.engine with active := none }
            outbox := s.outbox ++ [.placementOutcome p.request.record p.request.generation .noRoom] })) ∧
        (∀ v x, m.sample = some v → v < noiseOn s → p.chosen = some x →
          p.pendingSpots.filter (fun n => decide (n ≠ e.tile)) = [] →
          let a := { u with scan := Scanner.start { u.scan with spots := rest } }
          let q := { p with pendingSpots := [] }
          let primary := p.request.predecessor = none
          let full := p.request.cls = .data ∧ holdLimit s < heldTotal s + p.request.width
          let stale := (∃ n ∈ runTiles x, eligible s p.request.cls n = false) ∨
            (p.request.cls = .voice ∧ primary ∧ heldTotal s = holdLimit s)
          (full → t = settle { a with
            engine := { s.engine with active := none }
            outbox := s.outbox ++ [.placementOutcome p.request.record p.request.generation .limit] }) ∧
          (¬full → stale → p.attempts < 3 →
            t = settle (enterChoose (2 - p.attempts) { q with attempts := p.attempts + 1 } a)) ∧
          (¬full → stale → 3 ≤ p.attempts → t = settle { a with
            engine := { s.engine with active := none }
            outbox := s.outbox ++ [.placementOutcome p.request.record p.request.generation .noRoom] }) ∧
          (¬full → ¬stale → p.request.cls = .video ∧ primary → t = { a with
            engine := { s.engine with active := some { q with stage := .commit, room := some .requested } }
            outbox := s.outbox ++ [.roomRequest p.request.record p.request.generation p.request.width] }) ∧
          (¬full → ¬stale → ¬(p.request.cls = .video ∧ primary) → t = { a with
            engine := { s.engine with active := some { q with stage := .commit, room := none } }
            outbox := s.outbox ++ [.commit p.request.record p.request.generation x] })))) ∧
    (m.serves = .withdrawnSpot → exec .dwellEnd s = .next { u with scan := u.scan.start })

/-- R28: a RECOVERING tile whose recovery count has reached 4 enters QUIET with its count 0, its level as it is; other blocks
change only by the quiet notice of R30, for an own HELD video or voice record (R92, R133): where every tile of its run is QUIET, a
successor that seeks is FREE, its placement cancelled, and without a successor a running retry timer stops; otherwise no record
changes. The freed successor keeps what means nothing in FREE (log 9). -/
def Obligations.RecoveredTileIsQuiet : Prop :=
  ∀ (n : Nat) (s : State), s.loader.inReset = false → n < s.scan.tiles.length → (s.noise n).state = .recovering →
    4 ≤ (s.noise n).recovery →
    ∃ t, exec (.noiseRecovered n) s = .next t ∧
      OnlyClaims { s with scan := { s.scan with tiles := s.scan.tiles.set n ⟨(s.noise n).level, .quiet, 0⟩ } } t ∧
      t.grants = s.grants ∧ t.attn = s.attn ∧ t.chan = s.chan ∧ t.loans = s.loans ∧
      (ownRecord s n = none → t.claims = s.claims) ∧
      ∀ r v, ownRecord s n = some r → (s.claim r).run = some v →
        let served := (s.claim r).phase = .held ∧ (s.claim r).cls ≠ .data
        let clean := ∀ m ∈ runTiles v, m = n ∨ (s.noise m).state = .quiet
        (¬served ∨ ¬clean → t.claims = s.claims) ∧
        (served → clean → (s.claim r).successor = none → t.claims = s.claims.set r { s.claim r with retry := none }) ∧
        ∀ q, served → clean → (s.claim r).successor = some q → q ≠ r → (s.claim q).run = none →
          t.claims = (s.claims.set r { s.claim r with successor := none }).set q (s.claim q).ended ∧
            q ∉ t.engine.records

/-! ### Placement Engine, Claim Table and Loan Stack -/

/-- R117: a room request is answered RECORD for a record that is not SEEKING with the generation named, DONE where the held total
leaves room or own data can be trimmed by the whole excess, and SHORT otherwise; it trims the full excess or nothing, and no
record but DATA ones is cut. The tiles cut are the highest data tiles (R146): those below some tile are kept, the others go. The
engine is as it was, unless it still held work for a data record (R142, R104). -/
def Obligations.RoomRequestTrimsTheExcessOrNothing : Prop :=
  ∀ (r w : Nat) (g : BitVec 4) (s : State), s.loader.inReset = false →
    let a := arrive (.roomRequest r g w) s
    let excess := heldTotal s + w - holdLimit s
    ((s.claim r).phase ≠ .seeking ∨ (s.claim r).generation ≠ g →
      exec (.roomRequest r g w) s = .next (send (.roomAnswer r g .record) a)) ∧
    ((s.claim r).phase = .seeking → (s.claim r).generation = g →
      (heldTotal s + w ≤ holdLimit s → exec (.roomRequest r g w) s = .next (send (.roomAnswer r g .done) a)) ∧
      (dataCount s < excess → exec (.roomRequest r g w) s = .next (send (.roomAnswer r g .short) a)) ∧
      (0 < excess → excess ≤ dataCount s → OwnRunsLaw s →
        ∃ t, exec (.roomRequest r g w) s = .next t ∧ OnlyClaims s t ∧
          dataCount t + excess = dataCount s ∧
          ((∀ c ∈ s.claims, c.isData = true → c.predecessor = none) → heldTotal t + w = holdLimit s) ∧
          (∀ q, (s.claim q).isData = false → t.claim q = s.claim q) ∧
          (∀ q, (s.claim q).isData = true → t.claim q = s.claim q ∨
            (t.claim q).generation = (s.claim q).generation + 1 ∧ (t.claim q).runWidth < (s.claim q).runWidth) ∧
          (∃ h, ∀ q z n, (s.claim q).isData = true → (s.claim q).run = some z →
            ((∃ y, (t.claim q).run = some y ∧ runHas y n = true) ↔ runHas z n = true ∧ n < h)) ∧
          t.grants = { s.grants with
            data := s.grants.data.after (grantEntries t.claims .data) .trimmed s.clock.stamp none } ∧
          (.roomAnswer r g .done) ∈ t.outbox ∧
          ((∀ q ∈ s.engine.records, (s.claim q).isData = false) → t.engine = s.engine ∧
            t.outbox = (s.outbox.erase (.roomRequest r g w)) ++ [.roomAnswer r g .done])))

/-- R110, R117, R118 and R120: what the active placement does with the answer it waits for. An answer for another record or
generation is ignored, and so is one in another stage, a room answer while the room field is not REQUESTED, and a commit answer
for a VIDEO primary while it is not DONE. -/
def Obligations.AnswersReachTheWaitingPlacement : Prop :=
  ∀ (r : Nat) (g : BitVec 4) (p : Placement) (s : State), s.loader.inReset = false → s.engine.active = some p →
    p.request.record = r → p.request.generation = g →
    (p.stage = .commit → p.room = some .requested →
      (∀ x, p.chosen = some x → exec (.roomAnswer r g .done) s = .next { s with
        engine := { s.engine with active := some { p with room := some .done } }
        outbox := (s.outbox.erase (.roomAnswer r g .done)) ++ [.commit r g x] }) ∧
      exec (.roomAnswer r g .short) s = .next (settle { s with
        engine := { s.engine with active := none }
        outbox := (s.outbox.erase (.roomAnswer r g .short)) ++ [.placementOutcome r g .limit] }) ∧
      exec (.roomAnswer r g .record) s = .next (settle { s with
        engine := { s.engine with active := none }
        outbox := s.outbox.erase (.roomAnswer r g .record) })) ∧
    (p.stage = .commit → (p.request.cls = .video → p.request.predecessor = none → p.room = some .done) →
      (∀ a, a = .taken ∨ a = .record ∨ a = .predecessor → exec (.commitAnswer r g a) s = .next (settle { s with
        engine := { s.engine with active := none }
        outbox := s.outbox.erase (.commitAnswer r g a) })) ∧
      (p.attempts = 3 → exec (.commitAnswer r g .overlap) s = .next (settle { s with
        engine := { s.engine with active := none }
        outbox := (s.outbox.erase (.commitAnswer r g .overlap)) ++ [.placementOutcome r g .noRoom] })) ∧
      (p.attempts < 3 → exec (.commitAnswer r g .overlap) s = .next (settle
        (enterChoose (2 - p.attempts) { p with attempts := p.attempts + 1 } (arrive (.commitAnswer r g .overlap) s)))) ∧
      (p.request.cls = .data → exec (.commitAnswer r g .limit) s = .next (settle { s with
        engine := { s.engine with active := none }
        outbox := (s.outbox.erase (.commitAnswer r g .limit)) ++ [.placementOutcome r g .limit] })) ∧
      (p.request.cls ≠ .data → p.attempts < 3 → exec (.commitAnswer r g .limit) s = .next (settle
        (enterChoose (2 - p.attempts) { p with attempts := p.attempts + 1 } (arrive (.commitAnswer r g .limit) s)))) ∧
      (p.request.cls ≠ .data → p.attempts = 3 → exec (.commitAnswer r g .limit) s = .next (settle { s with
        engine := { s.engine with active := none }
        outbox := (s.outbox.erase (.commitAnswer r g .limit)) ++ [.placementOutcome r g .noRoom] }))) ∧
    (p.stage ≠ .commit ∨ p.room ≠ some .requested →
      ∀ a, exec (.roomAnswer r g a) s = .next (arrive (.roomAnswer r g a) s)) ∧
    (p.stage ≠ .commit ∨ (p.request.cls = .video ∧ p.request.predecessor = none ∧ p.room ≠ some .done) →
      ∀ a, exec (.commitAnswer r g a) s = .next (arrive (.commitAnswer r g a) s)) ∧
    (p.stage ≠ .choose → ∀ a, exec (.lendAnswer r g a) s = .next (arrive (.lendAnswer r g a) s)) ∧
    (p.stage = .choose →
      exec (.lendAnswer r g .taken) s = .next (settle { s with
        engine := { s.engine with active := none }
        outbox := s.outbox.erase (.lendAnswer r g .taken) }) ∧
      (p.attempts = 3 → exec (.lendAnswer r g .refused) s = .next (settle { s with
        engine := { s.engine with active := none }
        outbox := (s.outbox.erase (.lendAnswer r g .refused)) ++ [.placementOutcome r g .noRoom] })) ∧
      (p.attempts < 3 → exec (.lendAnswer r g .refused) s = .next (settle
        (enterChoose (2 - p.attempts) { p with attempts := p.attempts + 1 } (arrive (.lendAnswer r g .refused) s))))) ∧
    ∀ (q : Nat) (h : BitVec 4), q ≠ r ∨ h ≠ g →
      (∀ a, exec (.roomAnswer q h a) s = .next (arrive (.roomAnswer q h a) s)) ∧
      (∀ a, exec (.commitAnswer q h a) s = .next (arrive (.commitAnswer q h a) s)) ∧
      (∀ a, exec (.lendAnswer q h a) s = .next (arrive (.lendAnswer q h a) s))

/-- R80: a commit is answered with the first condition that fails, in the order given, and refused it changes no record; taken, the
record is TENTATIVE with the run, a predecessor MOVING, and an urgent build is requested. A peer's claim that beats the TENTATIVE
record on a tile of the run, come after the re-check, sends the loss notice (R17, R120; at once, log 30): a primary seeks again
(R88), and a successor is freed and its predecessor HELD again (R129). Outside ACTIVE, where no record holds a
run, the answer is RECORD, which is the model's reading (log 6); so is the width that the record takes from its run (log 17). A
record that met no stronger claim, committed to a run with a tile that has left QUIET receives its noise notice at once (R31, R120, R91, R130), the model's
reading too (log 23): it seeks again, and its predecessor is HELD again, the migration withdrawn where its run is all QUIET. -/
def Obligations.CommitIsTakenOrRefused : Prop :=
  ∀ (r : Nat) (g : BitVec 4) (x : Run) (s : State), s.loader.inReset = false →
    let a := arrive (.commit r g x) s
    (s.loader.part ≠ .active → exec (.commit r g x) s = .next (send (.commitAnswer r g .record) a)) ∧
    (s.loader.part = .active →
    let known := (s.claim r).phase = .seeking ∧ (s.claim r).generation = g
    let free := ∀ n ∈ runTiles x, isOwn s n = false
    let fits := (s.claim r).predecessor = none → heldTotal s + x.width ≤ holdLimit s
    let paired := ∀ p, (s.claim r).predecessor = some p → (s.claim p).phase = .held
    let c := { s.claim r with phase := .tentative, run := some x, width := x.width, listenCount := 0, retry := none }
    (¬known → exec (.commit r g x) s = .next (send (.commitAnswer r g .record) a)) ∧
    (known → ¬free → exec (.commit r g x) s = .next (send (.commitAnswer r g .overlap) a)) ∧
    (known → free → ¬fits → exec (.commit r g x) s = .next (send (.commitAnswer r g .limit) a)) ∧
    (known → free → fits → ¬paired → exec (.commit r g x) s = .next (send (.commitAnswer r g .predecessor) a)) ∧
    (known → free → fits → paired →
      let quiet := ∀ n ∈ runTiles x, (s.noise n).state = .quiet
      let unbeaten := ∀ n ∈ runTiles x, ∀ e ∈ (s.tile n).claimants.head?,
        beats e.contender ⟨(s.claim r).cls, .tentative, (ownId s).getD 0⟩ = false
      let again := { c with generation := g + 1, phase := .seeking, run := none }
      let chan := s.chan.takeUrgent
      let unmet : Attention := { s.attn with latched := s.attn.latched ||| 0x08 }
      (unbeaten → quiet → exec (.commit r g x) s = .next { s with
        claims := match (s.claim r).predecessor with
          | some p => (s.claims.set r c).set p { s.claim p with phase := .moving }
          | none => s.claims.set r c
        chan := s.chan.takeUrgent
        outbox := (s.outbox.erase (.commit r g x)) ++ [.commitAnswer r g .taken] }) ∧
      (¬unbeaten → r < s.claims.length → ∃ t, exec (.commit r g x) s = .next t ∧ (.commitAnswer r g .taken) ∈ t.outbox ∧
        ((s.claim r).predecessor = none → (s.claim r).tentativeLosses < 3 → EngineLaw s →
          t = settle (requestPlacement r { s with
            claims := s.claims.set r { again with tentativeLosses := (s.claim r).tentativeLosses + 1 }
            chan := chan
            outbox := (s.outbox.erase (.commit r g x)) ++ [.commitAnswer r g .taken] })) ∧
        ((s.claim r).predecessor = none → (s.claim r).tentativeLosses < 3 →
          OnlyPlacement { s with
            claims := s.claims.set r { again with tentativeLosses := (s.claim r).tentativeLosses + 1 }
            chan := chan } t) ∧
        ((s.claim r).predecessor = none → 3 ≤ (s.claim r).tentativeLosses →
          t = { s with
            claims := s.claims.set r { again with tentativeLosses := 4, retry := some 2000000 }
            chan := chan
            attn := unmet
            outbox := (s.outbox.erase (.commit r g x)) ++ [.commitAnswer r g .taken] }) ∧
        ∀ p, (s.claim r).predecessor = some p → p ≠ r →
          let noisy := anyNoisy s p = true
          OnlyPlacement { s with claims := t.claims, chan := chan, attn := t.attn } t ∧ r ∉ t.engine.records ∧
          t.attn = (if noisy then unmet else s.attn) ∧
          t.claims = (s.claims.set r c.ended).set p { s.claim p with
            phase := .held
            successor := none
            retry := if noisy then some 2000000 else (s.claim p).retry }) ∧
      (unbeaten → ¬quiet → r < s.claims.length → ∃ t, exec (.commit r g x) s = .next t ∧
        (.commitAnswer r g .taken) ∈ t.outbox ∧ OnlyPlacement { s with claims := t.claims, chan := chan } t ∧
        ((s.claim r).predecessor = none → t.claims = s.claims.set r again) ∧
        ∀ p v, (s.claim r).predecessor = some p → p ≠ r → (s.claim p).successor = some r → (s.claim p).run = some v →
          let clean := ∀ n ∈ runTiles v, (s.noise n).state = .quiet
          (clean → t.claims = (s.claims.set r c.ended).set p { s.claim p with successor := none } ∧
            r ∉ t.engine.records) ∧
          (¬clean → t.claims = s.claims.set r again))))

/-- R151 and R152: a lend request is REFUSED, with nothing changed, unless all five conditions hold; TAKEN, the lender's last
tile passes to the borrower, which is HELD on it, an entry is pushed, the data and voice grants change with causes LOANED and
PLACED, and an urgent build is requested. Each of the two records takes the width of its run (log 17). -/
def Obligations.LendPassesTheLastTile : Prop :=
  ∀ (b l n : Nat) (bg lg : BitVec 4) (s : State), s.loader.inReset = false →
    let a := arrive (.lendRequest b bg l lg n) s
    let may := s.loader.part = .active ∧ s.loans.length < 4 ∧
      ((s.claim b).cls = .voice ∧ (s.claim b).phase = .seeking ∧ (s.claim b).generation = bg ∧
        (s.claim b).predecessor = none) ∧
      ((s.claim l).cls = .data ∧ (s.claim l).phase = .held ∧ (s.claim l).generation = lg) ∧
      ∃ x, (s.claim l).run = some x ∧ 2 ≤ x.width ∧ x.first + x.width = n + 1
    (¬may → exec (.lendRequest b bg l lg n) s = .next (send (.lendAnswer b bg .refused) a)) ∧
    (may → ∀ x, (s.claim l).run = some x →
      let cl := { s.claim l with run := some ⟨x.first, x.width - 1⟩, width := x.width - 1 }
      let cb := { s.claim b with
        phase := .held
        run := some ⟨n, 1⟩
        width := 1
        listenCount := 0
        tentativeLosses := 0
        retry := none
        onLoan := some s.loans.length }
      ∃ t, exec (.lendRequest b bg l lg n) s = .next t ∧
        t = { s with
          claims := (s.claims.set l cl).set b cb
          loans := s.loans ++ [⟨some l, lg, b, bg, n, .out⟩]
          chan := s.chan.takeUrgent
          grants := t.grants
          attn := t.attn
          outbox := (s.outbox.erase (.lendRequest b bg l lg n)) ++ [.lendAnswer b bg .taken] } ∧
        t.grants = { s.grants with
          data := s.grants.data.after (grantEntries t.claims .data) .loaned s.clock.stamp none
          voice := s.grants.voice.after (grantEntries t.claims .voice) .placed s.clock.stamp none } ∧
        t.attn = if t.grants = s.grants then s.attn else { s.attn with latched := s.attn.latched ||| 0x01 })

/-- R81, with R126 for a successor: the outcome of a placement, for a record that is SEEKING with the generation named, in ACTIVE.
NEW and RELOCATE records wait on their retry timer and UNMET is latched; a GROW record is FREE, with UNMET latched below the
floor; a successor is FREE and its predecessor held degraded. Any other outcome is ignored; so is one outside ACTIVE, where no
placement is made (log 18). A freed record keeps what means nothing in FREE (log 9). -/
def Obligations.OutcomeWithoutRoom : Prop :=
  ∀ (r : Nat) (g : BitVec 4) (o : PlacementEnd) (s : State), s.loader.inReset = false →
    let a := arrive (.placementOutcome r g o) s
    let unmet : Attention := { s.attn with latched := s.attn.latched ||| 0x08 }
    (s.loader.part ≠ .active ∨ (s.claim r).phase ≠ .seeking ∨ (s.claim r).generation ≠ g →
      exec (.placementOutcome r g o) s = .next a) ∧
    (s.loader.part = .active → (s.claim r).phase = .seeking → (s.claim r).generation = g → (s.claim r).run = none →
      ((s.claim r).predecessor = none → (s.claim r).seekReason ≠ .grow →
        exec (.placementOutcome r g o) s = .next { a with
          claims := s.claims.set r { s.claim r with retry := some 2000000 }
          attn := unmet }) ∧
      ((s.claim r).predecessor = none → (s.claim r).seekReason = .grow →
        exec (.placementOutcome r g o) s = .next { a with
          claims := s.claims.set r (s.claim r).ended
          attn := if dataCount s < s.demand.floor then unmet else s.attn }) ∧
      (∀ p, (s.claim r).predecessor = some p → p ≠ r → p < s.claims.length →
        exec (.placementOutcome r g o) s = .next { a with
          claims := (s.claims.set r (s.claim r).ended).set p
            { s.claim p with successor := none, retry := some 2000000 }
          attn := unmet }))

/-- R82 and R125: a retry timer that expires in ACTIVE. A SEEKING record is requeued with its tentative losses 0; a HELD record
with a NOISY tile and no successor starts a migration, the placement of its successor being requested (R123; stated where the engine
obeys its law, with its queue in the order of rank: it holds the request, or has sent its outcome), or is held degraded again where no
successor can be taken; with no NOISY tile the timer only stops. -/
def Obligations.RetryExpiryTriesAgain : Prop :=
  ∀ (r : Nat) (s : State), s.loader.inReset = false → s.loader.part = .active → r < s.claims.length →
    (s.claim r).retry.isSome = true →
    let u := { s with claims := s.claims.set r { s.claim r with retry := none } }
    ((s.claim r).phase = .seeking →
      exec (.retryExpiry r) s = .next (settle (requestPlacement r
        { s with claims := s.claims.set r { s.claim r with retry := none, tentativeLosses := 0 } }))) ∧
    ((s.claim r).phase = .held → anyNoisy s r = false ∨ (s.claim r).successor ≠ none → EngineLaw s →
      exec (.retryExpiry r) s = .next u) ∧
    ((s.claim r).phase = .held → anyNoisy s r = true → (s.claim r).successor = none →
      (takable (s.claim r).cls (some r) s = none → EngineLaw s → exec (.retryExpiry r) s = .next { s with
        claims := s.claims.set r { s.claim r with retry := some 2000000 }
        attn := { s.attn with latched := s.attn.latched ||| 0x08 } }) ∧
      (∀ q, takable (s.claim r).cls (some r) s = some q → ∃ t, exec (.retryExpiry r) s = .next t ∧
        OnlyPlacement { s with claims := t.claims } t ∧
        t.claims = (s.claims.set q ⟨(s.claim q).generation + 1, (s.claim r).cls, (s.claim r).slot, (s.claim r).width,
          .seeking, none, 0, 0, .migrate, some r, none, none, 0, none⟩).set r
            { s.claim r with retry := none, successor := some q } ∧
        (EngineLaw s → s.engine.queue.Pairwise (fun a b => rank b.cls ≤ rank a.cls) → q ∈ t.engine.records ∨
          ∃ o, .placementOutcome q ((s.claim q).generation + 1) o ∈ t.outbox)))

/-- R139 to R142: an expiry of the data growth timer. At or above the ceiling the pace count becomes 0; below it the count rises,
saturating at 4, and growth is due below the floor or at 4. Growth that is due takes a record, with the lowest free data slot,
unless a hold applies, and in ACTIVE the placement of that record is requested (stated where the engine obeys its law, with its queue in
the order of rank: it holds the request, or has sent its outcome); held by hold 2, 3 or 4 alone below the floor, it latches UNMET. That hold 1 alone latches nothing there is
the model's reading (log 10). -/
def Obligations.GrowthExpiryComparesDemand : Prop :=
  ∀ s : State, s.loader.inReset = false → s.growth.left.isSome = true →
    let pace := min 4 (s.growth.pace + 1)
    let due := dataCount s < s.demand.ceiling ∧ (dataCount s < s.demand.floor ∨ pace = 4)
    let seeks := s.claims.any (fun c => c.cls == .data && (c.phase == .seeking || c.phase == .tentative))
    let barred := heldTotal s = holdLimit s ∨ 5 ≤ dataRecords s ∨ freeRecord s = none
    ∃ t, exec .dataGrowthExpiry s = .next t ∧
      (s.demand.ceiling ≤ dataCount s → OnlyPlacement { s with growth := ⟨some 100000, 0⟩ } t) ∧
      (dataCount s < s.demand.ceiling → ¬due → OnlyPlacement { s with growth := ⟨some 100000, pace⟩ } t) ∧
      (due → seeks = true → OnlyPlacement { s with growth := ⟨some 100000, pace⟩ } t) ∧
      (due → seeks = false → barred → OnlyPlacement { s with
        growth := ⟨some 100000, pace⟩
        attn := if dataCount s < s.demand.floor then { s.attn with latched := s.attn.latched ||| 0x08 } else s.attn } t) ∧
      (due → seeks = false → ¬barred → ∃ r slot, freeRecord s = some r ∧ slot < 5 ∧
        (∀ c ∈ s.claims, c.cls = .data → c.phase ≠ .free → c.slot ≠ slot) ∧
        (∀ m < slot, ∃ c ∈ s.claims, c.cls = .data ∧ c.phase ≠ .free ∧ c.slot = m) ∧
        OnlyPlacement { s with
          growth := ⟨some 100000, 0⟩
          claims := s.claims.set r ⟨(s.claim r).generation + 1, .data, slot, 1, .seeking, none, 0, 0, .grow, none, none,
            none, 0, none⟩ } t ∧
        (s.loader.part = .active → EngineLaw s → s.engine.queue.Pairwise (fun a b => rank b.cls ≤ rank a.cls) →
          r ∈ t.engine.records ∨ ∃ o, .placementOutcome r ((s.claim r).generation + 1) o ∈ t.outbox))

/-- R87 to R90, with R75, R77, R96, R129, R131, R132, R145 and R157: a loss notice that names its record's generation and a tile of
its run. A HELD video or voice record releases its run, loses its grant entry and relocates, and a successor it seeks for is
freed; a primary in TENTATIVE seeks again, and at its fourth loss waits on its retry timer; a TENTATIVE successor is freed and
its predecessor is HELD again, held degraded where a tile of its run is NOISY; a MOVING record is freed, and its successor takes
over as a relocating primary; a DRAINING or PARKED record is freed; a HELD data record keeps the wider part of its run, the lower
of two equal ones. Each releases tiles, so an urgent build is requested (R77), and in ACTIVE the relocating record and the primary
that seeks again have their placement requested (R87, R88: the engine holds it, or has sent its outcome). A loan entry of the
record is VOID, and popped if it is the top (with no entry below that waits to be popped). A
freed record keeps what means nothing in FREE (log 9); a trimmed one takes the width of its run (log 17). That
the relocation request joins the engine before the successor's placement is cancelled is the model's choice (log 33). -/
def Obligations.LossNoticeByPhaseAndClass : Prop :=
  ∀ (r n w : Nat) (x : Run) (s : State), r < s.claims.length → (s.claim r).run = some x → runHas x n = true →
    let c := s.claim r
    let t := applyLoss r c.generation n w s
    let lost : Attention := { s.attn with latched := s.attn.latched ||| 0x02 }
    let unmet : Attention := { s.attn with latched := s.attn.latched ||| 0x08 }
    let calm := ∀ i ∈ c.onLoan, i + 1 = s.loans.length → (∀ e ∈ s.loans.dropLast.getLast?, e.state = .out) ∧
      s.grants.data.entries = grantEntries s.claims .data
    let urgent := if s.loader.part = .active then s.chan.takeUrgent else s.chan
    let asks := s.loader.part = .active → r ∈ t.engine.records ∨ ∃ o, .placementOutcome r (c.generation + 1) o ∈ t.outbox
    (c.phase = .held → c.cls ≠ .data → calm → (∀ q ∈ c.successor, q ≠ r ∧ (s.claim q).run = none ∧
        (s.claim q).cls = c.cls) →
      let next := { c with
        generation := c.generation + 1
        phase := .seeking
        run := none
        seekReason := .relocate
        successor := none
        onLoan := none
        retry := none }
      let asked := requestPlacement r { s with claims := s.claims.set r next }
      let left := match c.successor with
        | some q => cancel q asked
        | none => asked
      t.claim r = next ∧ t.chan = urgent ∧ asks ∧ t.engine = left.engine ∧ t.scan = left.scan ∧ t.outbox = left.outbox ∧
      (∀ q, q ≠ r → t.claim q = if c.successor = some q then (s.claim q).ended else s.claim q) ∧ OnlyClaims s t ∧
      t.loans = voided r c s.loans ∧ t.attn.latched &&& 0x02 = 0x02 ∧
      t.grants.of c.cls = (s.grants.of c.cls).after (grantEntries t.claims c.cls) .lost s.clock.stamp (some w) ∧
      ∀ k, k ≠ c.cls → t.grants.of k = s.grants.of k) ∧
    (c.phase = .moving → calm → (∀ q ∈ c.successor, q ≠ r) →
      t.claim r = c.ended ∧
      (∀ q, q ≠ r → t.claim q =
        if c.successor = some q ∧ q < s.claims.length then
          { s.claim q with predecessor := none, seekReason := .relocate }
        else s.claim q) ∧
      OnlyClaims s t ∧ t.chan = urgent ∧ t.engine = s.engine ∧ t.scan = s.scan ∧ t.outbox = s.outbox ∧
      t.loans = voided r c s.loans ∧ t.attn.latched &&& 0x02 = 0x02 ∧
      t.grants.of c.cls = (s.grants.of c.cls).after (grantEntries t.claims c.cls) .lost s.clock.stamp (some w) ∧
      ∀ k, k ≠ c.cls → t.grants.of k = s.grants.of k) ∧
    (c.phase = .draining ∨ c.phase = .parked → calm → t = { s with
      claims := s.claims.set r c.ended
      chan := urgent
      loans := voided r c s.loans }) ∧
    (∀ p, c.phase = .tentative → c.predecessor = some p → p ≠ r →
      t.claim r = c.ended ∧
      (∀ q, q ≠ r → t.claim q = if q = p ∧ p < s.claims.length then { s.claim p with
        phase := .held
        successor := none
        retry := if anyNoisy s p then some 2000000 else (s.claim p).retry } else s.claim q) ∧
      OnlyClaims s t ∧ t.chan = urgent ∧ t.engine = (cancel r s).engine ∧ t.scan = (cancel r s).scan ∧
      t.outbox = (cancel r s).outbox ∧ t.loans = s.loans ∧ t.grants = s.grants ∧
      t.attn = if anyNoisy s p then unmet else s.attn) ∧
    (c.phase = .tentative → c.predecessor = none →
      let next := { c with
        generation := c.generation + 1
        phase := .seeking
        run := none
        tentativeLosses := min 4 (c.tentativeLosses + 1)
        retry := if c.tentativeLosses + 1 < 4 then c.retry else some 2000000 }
      let sought := { s with claims := s.claims.set r next, chan := urgent }
      t = (if c.tentativeLosses + 1 < 4 then requestPlacement r sought else { sought with attn := unmet }) ∧
      (c.tentativeLosses + 1 < 4 → asks) ∧
      t.claim r = next ∧ (∀ q, q ≠ r → t.claim q = s.claim q) ∧ OnlyClaims s t ∧ t.loans = s.loans ∧ t.grants = s.grants ∧
      t.attn = if c.tentativeLosses + 1 < 4 then s.attn else unmet) ∧
    (c.phase = .held → c.cls = .data →
      (∀ q, q ≠ r → t.claim q = s.claim q) ∧ OnlyClaims s t ∧ t.chan = urgent ∧ t.engine = s.engine ∧ t.scan = s.scan ∧
      t.outbox = s.outbox ∧ (t.grants = s.grants → t.attn = lost) ∧ t.attn.latched &&& 0x02 = 0x02 ∧ (t.claim r).generation = c.generation + 1 ∧
      t.grants = { s.grants with
        data := s.grants.data.after (grantEntries t.claims .data) .lost s.clock.stamp (some w) } ∧
      (x.width = 1 → t.claim r = c.ended) ∧
      (1 < x.width → x.first + x.width - 1 - n ≤ n - x.first →
        t.claim r = { c with
          generation := c.generation + 1, run := some ⟨x.first, n - x.first⟩, width := n - x.first }) ∧
      (1 < x.width → n - x.first < x.first + x.width - 1 - n →
        t.claim r = { c with
          generation := c.generation + 1
          run := some ⟨n + 1, x.first + x.width - 1 - n⟩
          width := x.first + x.width - 1 - n }) ∧
      t.loans = s.loans.map (fun e =>
        if e.lender = some r ∧ e.lenderGeneration = c.generation then { e with lender := none } else e))

/-- R105 to R107, with R13, R14, R109 to R111 and R143: CHOOSE. A tile is eligible where the five conditions hold; a candidate (other than
for growth) is a run of eligible tiles that are not excluded; for growth (R143) it is a single such tile, beside a HELD DATA record
narrower than 8 where there is one, and elsewhere only while fewer than 4 DATA records are HELD; its cost is its levels, 16 for each claimed tile and 4 for each
crowded neighbour. The winning run is a candidate of least cost, the lowest for VIDEO and DATA and the highest for VOICE. A VOICE
primary is lent to at the limit, or where there is no candidate without a claimant, by the widest HELD data record of the lowest
slot; where no loan is possible the limit ends the placement, and otherwise the winning run, if there is one, is confirmed. -/
def Obligations.WinningRunIsCheapest : Prop :=
  ∀ (p : Placement) (s : State),
    let k := p.request.cls
    let width := p.request.width
    let own := (ownId s).getD 0
    let cost := fun a => runCost s ⟨a, width⟩
    let crowded := fun n => (s.tile n).claimants ≠ [] ∨ isOwn s n = true ∨ (s.tile n).locked = true
    (∀ n, eligible s k n = true ↔ (s.tile n).inWindow = true ∧ (s.tile n).locked = false ∧ (s.noise n).state = .quiet ∧
      isOwn s n = false ∧ ∀ e ∈ (s.tile n).claimants.head?,
        rank e.cls < rank k ∨ e.cls = k ∧ e.effective = .tentative ∧ own < e.station) ∧
    (p.request.reason ≠ .grow → ∀ a, a ∈ candidates p s ↔ a + width ≤ 120 ∧
      ∀ n, runHas ⟨a, width⟩ n = true → eligible s k n = true ∧ n ∉ p.excluded) ∧
    (p.request.reason = .grow → width = 1 →
      let open' := fun n => n < 120 ∧ eligible s k n = true ∧ n ∉ p.excluded
      let beside := fun n => ∃ c ∈ s.claims, c.cls = .data ∧ c.phase = .held ∧ ∃ z, c.run = some z ∧ z.width < 8 ∧
        (n + 1 = z.first ∨ n = z.first + z.width)
      ∀ n, n ∈ candidates p s ↔ open' n ∧ (beside n ∨ (∀ m, open' m → ¬beside m) ∧
        (s.claims.filter (fun c => c.cls == .data && c.phase == .held)).length < 4)) ∧
    (∀ a, cost a = ((List.range' a width).map (fun n => ((s.noise n).level + 4) / 8)).sum +
      16 * (List.range' a width).countP (fun n => !(s.tile n).claimants.isEmpty) +
      4 * ((if 0 < a ∧ a ≤ 120 ∧ crowded (a - 1) then 1 else 0) +
        (if a + width < 120 ∧ crowded (a + width) then 1 else 0))) ∧
    (winningRun p s = none → candidates p s = []) ∧
    (∀ x, winningRun p s = some x → x.width = width ∧ x.first ∈ candidates p s ∧
      ∀ a ∈ candidates p s, cost x.first ≤ cost a ∧
        (cost a = cost x.first → if k = .voice then a ≤ x.first else x.first ≤ a)) ∧
    let best := winningRun p s
    let limited := heldTotal s = holdLimit s
    let claimed := ∀ x ∈ best, ∃ n ∈ runTiles x, (s.tile n).claimants ≠ []
    let lends := fun q => (s.claim q).cls = .data ∧ (s.claim q).phase = .held ∧ 2 ≤ (s.claim q).runWidth
    (k = .voice → p.request.predecessor = none →
      (¬limited → ¬claimed → ∀ x, best = some x → choose p s = .confirm x) ∧
      (limited ∨ claimed → s.loans.length < 4 → (∃ q < 20, lends q) → ∃ l < 20, ∃ g n x,
        choose p s = .lend l g n ∧ lends l ∧ (s.claim l).generation = g ∧ (s.claim l).run = some x ∧
        x.first + x.width = n + 1 ∧ ∀ q < 20, lends q → (s.claim q).runWidth < (s.claim l).runWidth ∨
          (s.claim q).runWidth = (s.claim l).runWidth ∧ (s.claim l).slot ≤ (s.claim q).slot) ∧
      (4 ≤ s.loans.length ∨ (∀ q < 20, ¬lends q) →
        (limited → choose p s = .limit) ∧
        (¬limited → ∀ x, best = some x → choose p s = .confirm x) ∧
        (¬limited → best = none → choose p s = .noRoom))) ∧
    (k ≠ .voice ∨ p.request.predecessor ≠ none →
      (best = none → choose p s = .noRoom) ∧
      ∀ x, best = some x → choose p s =
        if k = .data ∧ holdLimit s < heldTotal s + width then .limit else .confirm x)

/-- R10: precedence is decided by class rank, then by effective phase, then by lower station id, and so it is a strict total order
on claims of distinct stations. -/
def Obligations.PrecedenceIsAStrictTotalOrder : Prop :=
  (∀ a b : Contender, beats a b = true ↔
    rank b.cls < rank a.cls ∨
      a.cls = b.cls ∧ (a.phase = .held ∧ b.phase = .tentative ∨ a.phase = b.phase ∧ a.station < b.station)) ∧
  (∀ a b : Contender, beats a b = true → beats b a = false) ∧
  (∀ a b c : Contender, beats a b = true → beats b c = true → beats a c = true) ∧
  ∀ a b : Contender, a.station ≠ b.station → beats a b = true ∨ beats b a = true

/-! ### Service Interface -/

/-- R162 to R164: the assertion of LNK_CS_N enters CODE, its release enters IDLE from any state, and a byte clocked out in
RESPONSE is the next of the buffer, SPENT following the last; in CODE, ARGS and SPENT LNK_SDO carries 0x00. In SPENT the bytes of
a request are ignored, and their clocks restart the time without a clock; in RESPONSE they clock the response out. A selected link
that has seen no clock for 30 ms is SPENT and LINK is latched, once for each transaction (R164). During reset, and while already
asserted, an assertion moves the pin alone (log 15). -/
def Obligations.LinkTransactionRuns : Prop :=
  ∀ s : State,
    (s.loader.inReset = false → s.pins.linkSelected = false → exec .linkSelect s = .next { s with
      pins := { s.pins with linkSelected := true }
      link := ⟨.code, 0, [], [], 0, 0, false, 0⟩ }) ∧
    (s.loader.inReset = true ∨ s.pins.linkSelected = true →
      exec .linkSelect s = .next { s with pins := { s.pins with linkSelected := true } }) ∧
    exec .linkDeselect s = .next { s with
      pins := { s.pins with linkSelected := false }
      link := ⟨.idle, 0, [], [], 0, 0, false, 0⟩ } ∧
    (∀ v, s.loader.inReset = false → s.link.state = .response → s.link.response[s.link.index]? = some v →
      lnkSdo s = some v ∧ exec .responseByteClockedOut s = .next { s with link := { s.link with
        lastOut := v
        index := s.link.index + 1
        sinceEdge := 0
        state := if s.link.index + 1 < s.link.response.length then .response else .spent } }) ∧
    (s.link.state = .code ∨ s.link.state = .args ∨ s.link.state = .spent → lnkSdo s = some 0) ∧
    (∀ c bs, s.loader.inReset = false → requestBytes c = some bs →
      (s.link.state = .spent → exec c s = .next { s with link := { s.link with lastOut := 0, sinceEdge := 0 } }) ∧
      (s.link.state = .response → exec c s = .next { s with link := bs.foldl Link.clockByte s.link })) ∧
    (s.loader.inReset = false → s.link.state = .spent →
      exec .responseByteClockedOut s = .next { s with link := { s.link with lastOut := 0, sinceEdge := 0 } }) ∧
    (s.loader.inReset = false → s.pins.linkSelected = true → s.link.state ≠ .idle →
      (s.link.timedOut = false → exec .linkTimeout s = .next { s with
        link := { s.link with state := .spent, timedOut := true }
        attn := { s.attn with latched := s.attn.latched ||| 0x10 } }) ∧
      (s.link.timedOut = true → exec .linkTimeout s = .next s))

/-- R165 and R166: a code in no row of the table gives BAD_CODE; a request that its part state does not serve gives NOT_READY, an
argument out of range BAD_ARG, a slot in the wrong state SLOT_STATE, and a class at its maximum LIMIT. A refused request has no
effect but its response. -/
def Obligations.RefusedRequestHasNoEffect : Prop :=
  ∀ s : State, s.loader.inReset = false → s.link.state = .code →
    let reply := fun (code : Byte) (args : List Byte) (result : Byte) =>
      (Host.Outcome.next { s with link := s.link.replying code args [result] } : Host.Outcome State Fault Refusal)
    let unserved := s.loader.part = .loading ∨ s.loader.part = .fault
    (∀ c, requestCodes.contains c = false → exec (.badCode c) s = reply c [] 0xE1) ∧
    (unserved →
      (∀ f c, exec (.setData f c) s = reply 0x10 [f, c] 0xE2) ∧
      (∀ n w, exec (.openProgram n w) s = reply 0x11 [n, w] 0xE2) ∧
      (∀ n, exec (.closeProgram n) s = reply 0x12 [n] 0xE2) ∧ (∀ n, exec (.openCall n) s = reply 0x13 [n] 0xE2) ∧
      (∀ n, exec (.closeCall n) s = reply 0x14 [n] 0xE2) ∧ ∀ n, exec (.ackCallLine n) s = reply 0x15 [n] 0xE2) ∧
    (s.loader.part ≠ .warmListen → s.loader.part ≠ .active → exec .leave s = reply 0x30 [] 0xE2) ∧
    (s.loader.part ≠ .quiet → exec .join s = reply 0x31 [] 0xE2) ∧
    (∀ c, c.getLsbD 7 = true → exec (.ackAttn c) s = reply 0x02 [c] 0xE3) ∧
    (∀ k, 2 < k.toNat → exec (.readGrant k) s = reply 0x20 [k] 0xE3) ∧
    (∀ a n, 119 < a.toNat ∨ n = 0 ∨ 120 < n.toNat → exec (.readMap a n) s = reply 0x21 [a, n] 0xE3) ∧
    (¬unserved →
      (∀ n w, 3 < n.toNat ∨ w = 0 ∨ 8 < w.toNat → exec (.openProgram n w) s = reply 0x11 [n, w] 0xE3) ∧
      (∀ n, 3 < n.toNat → exec (.closeProgram n) s = reply 0x12 [n] 0xE3 ∧
        exec (.openCall n) s = reply 0x13 [n] 0xE3 ∧ exec (.closeCall n) s = reply 0x14 [n] 0xE3 ∧
        exec (.ackCallLine n) s = reply 0x15 [n] 0xE3) ∧
      ∀ n w, n.toNat ≤ 3 → 1 ≤ w.toNat → w.toNat ≤ 8 →
        (slotOpen s .video n.toNat = true → exec (.openProgram n w) s = reply 0x11 [n, w] 0xE4) ∧
        (slotOpen s .video n.toNat = false → exec (.closeProgram n) s = reply 0x12 [n] 0xE4) ∧
        (slotOpen s .voice n.toNat = true → exec (.openCall n) s = reply 0x13 [n] 0xE4) ∧
        ((s.line n.toNat).latch = false → exec (.ackCallLine n) s = reply 0x15 [n] 0xE4) ∧
        (slotOpen s .video n.toNat = false → classMax s .video ≤ openCount s .video ∨ freeRecord s = none →
          exec (.openProgram n w) s = reply 0x11 [n, w] 0xE5) ∧
        (slotOpen s .voice n.toNat = false → classMax s .voice ≤ openCount s .voice ∨ freeRecord s = none →
          exec (.openCall n) s = reply 0x13 [n] 0xE5))

/-- R169 to R171, with R20, R26, R70, R79, R97 and R121: the reads answer OK and their bytes from one snapshot, and change
nothing but the link. The codes are those of the tables: part state and fault cause, last-change cause, service, noise state, class and
effective phase, and four flags as the bits 3..0 of a nibble. -/
def Obligations.ReadsAnswerFromASnapshot : Prop :=
  ∀ s : State, s.loader.inReset = false → s.link.state = .code →
    exec .readStatus s = .next { s with link := s.link.replying 0x01 [] (0xA0 ::
      [partByte s.loader.part, faultByte s.loader.faultCause, s.attn.latched, s.attn.mask,
        byteOf (nibble (s.lines.map (·.latch)) + 16 * nibble s.pins.calls),
        byteOf (nibble (s.lines.map (·.ack)) +
          if s.engine.active.isSome || s.engine.suspended.isSome || !s.engine.queue.isEmpty then 16 else 0),
        byteOf s.peers.length, byteOf (heldTotal s), byteOf (s.chan.dropped / 256), byteOf (s.chan.dropped % 256),
        byteOf (s.clock.stamp.toNat / 256), byteOf (s.clock.stamp.toNat % 256)]) } ∧
    (∀ (n : Byte) (k : ServiceClass), serviceByte k = n →
      exec (.readGrant n) s = .next { s with link := s.link.replying 0x20 [n] (0xA0 :: n ::
        (s.grants.of k).generation :: (match (s.grants.of k).last with
          | some x => [causeByte x.cause, byteOf (x.stamp.toNat / 256), byteOf (x.stamp.toNat % 256),
              byteOf (x.displacing.getD 0 / 256), byteOf (x.displacing.getD 0 % 256)]
          | none => [0, 0, 0, 0, 0]) ++
        (s.grants.of k).entries.flatMap (fun e => match e with
          | some x => [byteOf x.first, byteOf x.width]
          | none => [0xFF, 0])) }) ∧
    ∀ a n : Byte, a.toNat ≤ 119 → 1 ≤ n.toNat → n.toNat ≤ 120 →
      exec (.readMap a n) s = .next { s with link := s.link.replying 0x21 [a, n] (0xA0 ::
        (List.range n.toNat).flatMap (fun i =>
          let t := (a.toNat + i) % 120
          [byteOf (((s.noise t).level + 4) / 8 + 64 * noiseBits (s.noise t).state),
            byteOf ((if (s.tile t).locked then 1 else 0) + (if (s.tile t).inWindow then 2 else 0) +
              (if isOwn s t then 4 else 0) + 8 * (s.tile t).claimants.length +
              match (s.tile t).claimants with
              | e :: _ => 32 * rank e.cls + 128 * phaseBit e.effective
              | [] => 0)])) } ∧
    [PartState.loading, .warmListen, .active, .leaving, .quiet, .fault].map partByte = [0, 1, 2, 3, 4, 5] ∧
    [FaultCause.noFault, .config, .duplicateId].map faultByte = [0, 1, 2] ∧
    [GrantCause.placed, .lost, .noiseMove, .trimmed, .grown, .loaned, .returned, .closed, .left].map causeByte =
      [1, 2, 3, 4, 5, 6, 7, 8, 9] ∧
    [ServiceClass.data, .video, .voice].map serviceByte = [0, 1, 2] ∧ [ServiceClass.data, .video, .voice].map rank = [1, 2, 3] ∧
    [NoiseState.quiet, .noisy, .recovering].map noiseBits = [0, 1, 2] ∧
    [ClaimPhase.tentative, .held].map phaseBit = [0, 1] ∧
    ∀ a b c d : Bool, nibble [a, b, c, d] = a.toNat + 2 * b.toNat + 4 * c.toNat + 8 * d.toNat

/-- R176 and R177: ACK_ATTN clears every cause named in its set and leaves the others; ATTN is asserted exactly while a latched cause is
unmasked, before and after. -/
def Obligations.AckAttnClearsNamedCauses : Prop :=
  ∀ (c : Byte) (s : State), s.loader.inReset = false → s.link.state = .code → c.getLsbD 7 = false →
    ∃ t, exec (.ackAttn c) s = .next t ∧
      t = { s with link := s.link.replying 0x02 [c] [0xA0], attn := { s.attn with latched := t.attn.latched } } ∧
      (∀ n, t.attn.latched.getLsbD n = (s.attn.latched.getLsbD n && !c.getLsbD n)) ∧
      (attnOutput s = true ↔ ∃ n, s.attn.latched.getLsbD n = true ∧ s.attn.mask.getLsbD n = true) ∧
      (attnOutput t = true ↔
        ∃ n, s.attn.latched.getLsbD n = true ∧ c.getLsbD n = false ∧ s.attn.mask.getLsbD n = true)

/-- R137 and R147: SET_DATA replaces the demand with the clamped pair. Outside ACTIVE nothing else changes. In ACTIVE a data
count above the new ceiling is trimmed to it, the highest data tiles first (R146: those below some tile are kept, the others go), no
record but DATA ones is changed, and a seeking growth record that the ceiling has caught up with is FREE. -/
def Obligations.SetDataReplacesTheDemand : Prop :=
  ∀ (f c : Byte) (s : State), s.loader.inReset = false → s.link.state = .code → s.loader.part ≠ .loading →
    s.loader.part ≠ .fault → EngineLaw s →
    let ceiling := min c.toNat (classMax s .data)
    let u := { s with
      demand := ⟨min f.toNat ceiling, ceiling⟩
      link := s.link.replying 0x10 [f, c] [0xA0] }
    (s.loader.part ≠ .active → exec (.setData f c) s = .next u) ∧
    (s.loader.part = .active → OwnRunsLaw s →
      ∃ t, exec (.setData f c) s = .next t ∧ OnlyClaims u t ∧ dataCount t = min (dataCount s) ceiling ∧
        (∀ r, (s.claim r).cls ≠ .data → t.claim r = s.claim r) ∧ t.grants.video = s.grants.video ∧
        t.grants.voice = s.grants.voice ∧
        (∃ h, ∀ r z n, (s.claim r).isData = true → (s.claim r).run = some z →
          ((∃ y, (t.claim r).run = some y ∧ runHas y n = true) ↔ runHas z n = true ∧ n < h)) ∧
        (dataCount s < ceiling → t.claims = s.claims ∧ t.engine = s.engine ∧ t.grants = s.grants) ∧
        (ceiling ≤ dataCount s → ∀ r, s.claims.findIdx? (fun c => c.cls == .data && c.phase == .seeking) = some r →
          (t.claim r).phase = .free ∧ (t.claim r).generation = (s.claim r).generation))

/-- R78, R74, R98 and R167: an open that passes every check takes the lowest-numbered FREE record into SEEKING for its slot, and in
ACTIVE its placement is requested and the engine works (R102, R103); outside ACTIVE the record stays with no request. Only a
refused open leaves the records. -/
def Obligations.OpenTakesARecord : Prop :=
  ∀ (n w : Byte) (r : Nat) (s : State), s.loader.inReset = false → s.link.state = .code → s.loader.part ≠ .loading →
    s.loader.part ≠ .fault → n.toNat ≤ 3 → 1 ≤ w.toNat → w.toNat ≤ 8 → freeRecord s = some r →
    let taken := fun (k : ServiceClass) (width : Nat) => s.claims.set r
      ⟨(s.claim r).generation + 1, k, n.toNat, width, .seeking, none, 0, 0, .new, none, none, none, 0, none⟩
    let opened := fun (k : ServiceClass) (width : Nat) (bytes : List Byte) =>
      { s with claims := taken k width, link := bytes.foldl Link.clockByte s.link }
    (slotOpen s .video n.toNat = false → openCount s .video < classMax s .video →
      (s.loader.part = .active → exec (.openProgram n w) s = .next { settle (requestPlacement r
        (opened .video w.toNat [0x11, n, w])) with link := s.link.replying 0x11 [n, w] [0xA0] }) ∧
      (s.loader.part ≠ .active → EngineLaw s → exec (.openProgram n w) s = .next { s with
        claims := taken .video w.toNat, link := s.link.replying 0x11 [n, w] [0xA0] }) ∧
      ∃ t, exec (.openProgram n w) s = .next t ∧
        OnlyPlacement { s with claims := taken .video w.toNat, link := s.link.replying 0x11 [n, w] [0xA0] } t) ∧
    (slotOpen s .voice n.toNat = false → openCount s .voice < classMax s .voice →
      (s.loader.part = .active → exec (.openCall n) s = .next { settle (requestPlacement r
        (opened .voice 1 [0x13, n])) with link := s.link.replying 0x13 [n] [0xA0] }) ∧
      (s.loader.part ≠ .active → EngineLaw s → exec (.openCall n) s = .next { s with
        claims := taken .voice 1, link := s.link.replying 0x13 [n] [0xA0] }) ∧
      ∃ t, exec (.openCall n) s = .next t ∧
        OnlyPlacement { s with claims := taken .voice 1, link := s.link.replying 0x13 [n] [0xA0] } t)

/-- R93 and R134, with R96: a close of an open program ends every VIDEO record of its slot, releasing the runs with an urgent build
requested (R77) and cancelling what the engine holds for them (R104); no other record changes. The video grant changes with cause CLOSED where an entry changes, and not otherwise. Freed records keep what means
nothing in FREE (log 9). -/
def Obligations.CloseProgramEndsItsRecords : Prop :=
  ∀ (n : Byte) (s : State), s.loader.inReset = false → s.link.state = .code → s.loader.part ≠ .loading →
    s.loader.part ≠ .fault → n.toNat ≤ 3 → slotOpen s .video n.toNat = true → s.claims.length = 20 →
    ∃ t, exec (.closeProgram n) s = .next t ∧
      OnlyClaims { s with link := s.link.replying 0x12 [n] [0xA0] } t ∧
      (∀ r < 20, t.claim r = if (s.claim r).cls = .video ∧ (s.claim r).slot = n.toNat ∧ (s.claim r).phase ≠ .free ∧
        (s.claim r).phase ≠ .parked then (s.claim r).ended else s.claim r) ∧
      (∀ r < 20, (s.claim r).cls = .video → (s.claim r).slot = n.toNat → (s.claim r).phase ≠ .free →
        (s.claim r).phase ≠ .parked → r ∉ t.engine.records ∧ ((s.claim r).run.isSome = true →
          t.chan = if s.loader.part = .active then s.chan.takeUrgent else s.chan)) ∧
      ((∀ r < 20, (s.claim r).cls = .video → (s.claim r).slot = n.toNat → (s.claim r).phase ≠ .free →
        (s.claim r).phase ≠ .parked → (s.claim r).run = none) → t.chan = s.chan) ∧
      slotOpen t .video n.toNat = false ∧ t.loans = s.loans ∧ t.grants.data = s.grants.data ∧
      t.grants.voice = s.grants.voice ∧
      t.grants.video = s.grants.video.after (grantEntries t.claims .video) .closed s.clock.stamp none

/-- R94, R155, R158 and R159, with R167: a close of a call ends it and clears its line's latch and acknowledgement, for a closed
slot too (log 22). A record of the call with no loan is FREE, keeping what means nothing in FREE (log 9), whatever loans other calls
hold. A borrower, HELD, MOVING or DRAINING, whose entry is the top of the stack and can go home gives its tile back to the lender,
whose record takes the width of its run (log 17), and is FREE; one whose entry is the top and cannot go home releases the tile and is
FREE (R159), an urgent build being requested; one whose entry is not the top is PARKED on it. So where the calls of the entries above
and below are open; `CallClosed` gives every close, with the unwinding of any number of entries, the one change of the data grant
that the returned tiles make, and the trim of a data count that they bring above the ceiling (R158 to R160, R147); a return exactly to
the ceiling trims nothing (log 26), and a borrower that no longer answers for its tile stays as it is (log 19). -/
def Obligations.CloseCallReturnsOrParks : Prop :=
  ∀ (n : Byte) (s : State), s.loader.inReset = false → s.link.state = .code → s.loader.part ≠ .loading →
    s.loader.part ≠ .fault → n.toNat ≤ 3 → s.claims.length = 20 →
    ∃ t, exec (.closeCall n) s = .next t ∧
      OnlyClaims { s with
        link := s.link.replying 0x14 [n] [0xA0]
        lines := s.lines.set n.toNat ⟨false, false⟩ } t ∧ t.claims.length = 20 ∧
      CallClosed n.toNat { s with
        link := s.link.replying 0x14 [n] [0xA0]
        lines := s.lines.set n.toNat ⟨false, false⟩ } t ∧
      (slotOpen s .voice n.toNat = false → t.claims = s.claims ∧ t.grants = s.grants ∧ t.loans = s.loans) ∧
      (slotOpen s .voice n.toNat = true → slotOpen t .voice n.toNat = false) ∧
      (slotOpen s .voice n.toNat = true → t.grants.video = s.grants.video ∧
        t.grants.voice = s.grants.voice.after (grantEntries t.claims .voice) .closed s.clock.stamp none) ∧
      (slotOpen s .voice n.toNat = true → dataCount s ≤ s.demand.ceiling →
        let closes (q : Nat) := (s.claim q).cls = .voice ∧ (s.claim q).slot = n.toNat ∧ (s.claim q).phase ≠ .free ∧
          (s.claim q).phase ≠ .parked
        let after (q : Nat) := if closes q then (s.claim q).ended else s.claim q
        let regranted := s.grants.data.after (grantEntries t.claims .data) .returned s.clock.stamp none
        let urgent := if s.loader.part = .active then s.chan.takeUrgent else s.chan
        (s.loans = [] ∨ (∀ q < 20, closes q → (s.claim q).onLoan = none) ∧ (∀ y ∈ s.loans.getLast?, y.state = .out) →
          t.loans = s.loans ∧ t.grants.data = regranted ∧ (∀ q < 20, t.claim q = after q) ∧
          (∀ q < 20, closes q → (s.claim q).run.isSome = true → t.chan = urgent) ∧
          ((∀ q < 20, closes q → (s.claim q).run = none) → t.chan = s.chan)) ∧
        (∀ b i e, b < 20 → closes b → (s.claim b).phase = .held ∨ (s.claim b).phase = .moving ∨ (s.claim b).phase = .draining →
          (s.claim b).onLoan = some i → (∀ q < 20, q ≠ b → closes q → (s.claim q).onLoan = none) →
          s.loans[i]? = some e → e.borrower = b → e.borrowerGeneration = (s.claim b).generation → e.state = .out →
          (s.claim b).run = some ⟨e.tile, 1⟩ →
          let home (l : Nat) (x : Run) := e.lender = some l ∧ (s.claim l).cls = .data ∧ (s.claim l).phase = .held ∧
            (s.claim l).generation = e.lenderGeneration ∧ (s.claim l).run = some x ∧ x.first + x.width = e.tile ∧ x.width < 8
          (i + 1 < s.loans.length → (∀ y ∈ s.loans.getLast?, y.state = .out) →
            t.grants.data = regranted ∧ t.claim b = { s.claim b with
              phase := .parked, listenCount := 0, drainCount := 0, predecessor := none, successor := none, retry := none } ∧
            (∀ q < 20, q ≠ b → t.claim q = after q) ∧ t.loans = s.loans.set i { e with state := .returned }) ∧
          (i + 1 = s.loans.length → (∀ y ∈ s.loans.dropLast.getLast?, y.state = .out) →
            (∀ l x, l < 20 → home l x → dataCount s < s.demand.ceiling → OwnRunsLaw s →
              t.loans = s.loans.dropLast ∧ t.grants.data = regranted ∧
              t.claim l = { s.claim l with run := some ⟨x.first, x.width + 1⟩, width := x.width + 1 } ∧
              ∀ q < 20, q ≠ l → t.claim q = after q) ∧
            ((∀ l x, ¬home l x) →
              t.loans = s.loans.dropLast ∧ t.grants.data = regranted ∧ t.chan = urgent ∧ ∀ q < 20, t.claim q = after q))))

/-- R173 and R174: ACK_CALL_LINE with the latch SET. On an EDGE line it clears the latch and the call stays open; on an EDGE_LEVEL
line that is asserted it sets the acknowledgement; on one that is deasserted it closes the call, if it is open, with the effect of
R94, and clears both. -/
def Obligations.AckCallLineBySensitivity : Prop :=
  ∀ (n : Byte) (s : State), s.loader.inReset = false → s.link.state = .code → s.loader.part ≠ .loading →
    s.loader.part ≠ .fault → n.toNat ≤ 3 → (s.line n.toNat).latch = true → EngineLaw s →
    let u := { s with link := s.link.replying 0x15 [n] [0xA0] }
    (isEdgeLevel s n.toNat = false → exec (.ackCallLine n) s = .next { u with
      lines := s.lines.set n.toNat { s.line n.toNat with latch := false } }) ∧
    (isEdgeLevel s n.toNat = true → callLevel s n.toNat = true → exec (.ackCallLine n) s = .next { u with
      lines := s.lines.set n.toNat ⟨true, true⟩ }) ∧
    (isEdgeLevel s n.toNat = true → callLevel s n.toNat = false →
      (slotOpen s .voice n.toNat = false → exec (.ackCallLine n) s = .next { u with
        lines := s.lines.set n.toNat ⟨false, false⟩ }) ∧
      ∃ t, exec (.ackCallLine n) s = .next t ∧ OnlyClaims { u with lines := s.lines.set n.toNat ⟨false, false⟩ } t ∧
        (s.claims.length = 20 → slotOpen t .voice n.toNat = false ∧
          CallClosed n.toNat { u with lines := s.lines.set n.toNat ⟨false, false⟩ } t))

/-- R172 and R174: in LOADING, in FAULT and while RESET_N is held the line's level alone moves, as it does where it is no edge.
Elsewhere an assertion edge on a line with its latch CLEAR sets the latch and opens the call, UNMET being latched
where the maximum or the records refuse it, and in ACTIVE the placement of its record is requested (R78: the engine holds it, or has
sent its outcome); one that finds the latch SET is lost. A deassertion closes the call of an
EDGE_LEVEL line that has been acknowledged, with the effect of R94, and otherwise moves the level alone. -/
def Obligations.CallLineEdgesOpenAndClose : Prop :=
  ∀ (n : Nat) (s : State), n < 4 →
    let up := { s with pins := { s.pins with calls := s.pins.calls.set n true } }
    let down := { s with pins := { s.pins with calls := s.pins.calls.set n false } }
    let edge := { up with lines := s.lines.set n ⟨true, false⟩ }
    let opened (r : Nat) := s.claims.set r
      ⟨(s.claim r).generation + 1, .voice, n, 1, .seeking, none, 0, 0, .new, none, none, none, 0, none⟩
    let unwatched := s.loader.inReset = true ∨ s.loader.part = .loading ∨ s.loader.part = .fault
    (unwatched ∨ callLevel s n = true → exec (.callLineAssert n) s = .next up) ∧
    (unwatched ∨ callLevel s n = false → exec (.callLineDeassert n) s = .next down) ∧
    (¬unwatched → EngineLaw s →
    (callLevel s n = false → (s.line n).latch = true → exec (.callLineAssert n) s = .next up) ∧
    (callLevel s n = false → (s.line n).latch = false →
      (slotOpen s .voice n = true → exec (.callLineAssert n) s = .next edge) ∧
      (slotOpen s .voice n = false → classMax s .voice ≤ openCount s .voice ∨ freeRecord s = none →
        exec (.callLineAssert n) s = .next { edge with
          attn := { s.attn with latched := s.attn.latched ||| 0x08 } }) ∧
      (∀ r, slotOpen s .voice n = false → openCount s .voice < classMax s .voice → freeRecord s = some r →
        ∃ t, exec (.callLineAssert n) s = .next t ∧ OnlyPlacement { edge with claims := opened r } t ∧
          t = (if s.loader.part = .active then settle (requestPlacement r { edge with claims := opened r })
            else { edge with claims := opened r }) ∧
          (s.loader.part = .active → r ∈ t.engine.records ∨
            ∃ o, .placementOutcome r ((s.claim r).generation + 1) o ∈ t.outbox))) ∧
    (callLevel s n = true →
      (isEdgeLevel s n = false ∨ (s.line n).latch = false ∨ (s.line n).ack = false →
        exec (.callLineDeassert n) s = .next down) ∧
      (isEdgeLevel s n = true → (s.line n).latch = true → (s.line n).ack = true →
        ∃ t, exec (.callLineDeassert n) s = .next t ∧ OnlyClaims { down with lines := s.lines.set n ⟨false, false⟩ } t ∧
          (s.claims.length = 20 → slotOpen t .voice n = false ∧
            CallClosed n { down with lines := s.lines.set n ⟨false, false⟩ } t) ∧
          (slotOpen s .voice n = false → t = { down with lines := s.lines.set n ⟨false, false⟩ }))))

/-! ### Laws that every step keeps -/

/-- Every law below holds right after reset. -/
def Obligations.LawsHoldAtReset : Prop :=
  ClaimantLaw State.reset ∧ AgreementLaw State.reset ∧ PeerLaw State.reset ∧ OwnRunsLaw State.reset ∧
    EngineLaw State.reset ∧ ScannerLaw State.reset ∧ PartLaw State.reset ∧ ConfigLaw State.reset ∧
    InterfaceLaw State.reset ∧ ClaimTableLaw State.reset ∧ HoldLaw State.reset

/-- R4: every step leaves every claimant list with at most 3 entries, in precedence order, of distinct stations, and none of the
own id. -/
def Obligations.StepKeepsClaimantLists : Prop :=
  ∀ s t : State, ClaimantLaw s → step s = .next t → ClaimantLaw t

/-- R55: every step leaves the Peer Table with at most 24 records of distinct stations, none of the own id, FRESH exactly below
age 8, and none of age 30. -/
def Obligations.StepKeepsPeerTable : Prop :=
  ∀ s t : State, PeerLaw s → step s = .next t → PeerLaw t

/-- R72: every step keeps the map in agreement with the Peer Table. -/
def Obligations.StepKeepsMapAgreement : Prop :=
  ∀ s t : State, AgreementLaw s → step s = .next t → AgreementLaw t

/-- R76: no step on a well-formed command brings a tile into the runs of two own records, gives a FREE or SEEKING record a run, or
makes a run that leaves the band. -/
def Obligations.StepKeepsOwnRunsApart : Prop :=
  ∀ s t : State, OwnRunsLaw s → (∀ c, s.pending.head? = some c → wellFormed c = true) → step s = .next t → OwnRunsLaw t

/-- R103 and R102: after every step the engine is without an active placement only when it holds no work, and it holds at most
one request or placement for a record. And how it works: a request joins the queue by class and arrival, replaces a queued one of
its record, and suspends a non-voice placement in CONFIRM for a VOICE one (R102, R114; log 31 for a new generation of the active
placement's record); CHOOSE ends the placement, sends its lend request, or enters CONFIRM with a spot check for each tile, unless a
queued VOICE request suspends it (R110, R112, R114); and an engine without an active placement starts the head of the queue where a
VOICE request waits or nothing is suspended, and else resumes the suspended placement as a re-entry (R103, R115, R108). -/
def Obligations.StepKeepsEngineBusy : Prop :=
  let off := fun (sc : Scanner) (g : SpotTag) => { sc with
    spots := sc.spots.filter (fun e => decide (e.tag ≠ g))
    measuring := if sc.spots.head?.any (fun e => e.tag == g) then
        sc.measuring.map (fun m => { m with serves := if m.serves = .spot then .withdrawnSpot else m.serves })
      else sc.measuring }
  (∀ s t : State, EngineLaw s → step s = .next t → EngineLaw t) ∧
  (∀ (r : Nat) (s : State), EngineLaw s → s.loader.part = .active →
    let c := s.claim r
    let q : Request := ⟨r, c.generation, c.cls, c.width, c.seekReason, c.predecessor⟩
    let e := s.engine
    let before := fun (h : Request) => decide (rank c.cls ≤ rank h.cls)
    let joined := e.queue.takeWhile before ++ q :: e.queue.dropWhile before
    (e.active = none → settle (requestPlacement r s) = settle { s with engine := ⟨[q], none, none⟩ }) ∧
    ∀ p, e.active = some p →
      let suspends := c.cls = .voice ∧ p.request.cls ≠ .voice ∧ p.stage = .confirm
      (r ∉ e.records → ¬suspends → requestPlacement r s = { s with engine := { e with queue := joined } }) ∧
      (r ∉ e.records → suspends → settle (requestPlacement r s) = settle { s with
        engine := ⟨joined, none, some ⟨p.request, p.attempts, p.excluded⟩⟩
        scan := off s.scan p.request.tag }) ∧
      (¬suspends → (∃ h ∈ e.queue, h.record = r) → requestPlacement r s = { s with
        engine := { e with queue := e.queue.map (fun h => if h.record = r then q else h) } }) ∧
      (p.request.record = r → p.request.generation = c.generation → requestPlacement r s = s) ∧
      (p.request.record = r → p.request.generation ≠ c.generation → settle (requestPlacement r s) = settle { s with
        engine := { e with queue := joined, active := none }
        scan := if p.stage = .confirm then off s.scan p.request.tag else s.scan }) ∧
      (∀ u, e.suspended = some u → u.request.record = r → u.request.generation = c.generation → requestPlacement r s = s) ∧
      ∀ u, e.suspended = some u → u.request.record = r → u.request.generation ≠ c.generation → ¬suspends →
        requestPlacement r s = { s with engine := { e with queue := joined, suspended := none } }) ∧
  (∀ (more : Nat) (p : Placement) (s : State),
    let q := p.request
    let e := s.engine
    let voice := ∃ h ∈ e.queue, h.cls = .voice
    (choose p s = .noRoom → enterChoose more p s = { s with
      engine := { e with active := none }, outbox := s.outbox ++ [.placementOutcome q.record q.generation .noRoom] }) ∧
    (choose p s = .limit → enterChoose more p s = { s with
      engine := { e with active := none }, outbox := s.outbox ++ [.placementOutcome q.record q.generation .limit] }) ∧
    (∀ l g n, choose p s = .lend l g n → enterChoose more p s = { s with
      engine := { e with active := some { p with stage := .choose, chosen := none, pendingSpots := [], room := none } }
      outbox := s.outbox ++ [.lendRequest q.record q.generation l g n] }) ∧
    ∀ x, choose p s = .confirm x →
      (q.cls ≠ .voice → voice → enterChoose more p s = { s with
        engine := { e with active := none, suspended := some ⟨q, p.attempts, p.excluded⟩ }
        scan := off s.scan q.tag }) ∧
      (q.cls = .voice ∨ ¬voice → s.scan.spots = [] → x.width ≤ 8 → enterChoose more p s = { s with
        engine := { e with active := some { p with
          stage := .confirm, chosen := some x, pendingSpots := runTiles x, room := none } }
        scan := { s.scan with spots := (runTiles x).map (fun n => ⟨n, q.tag⟩) } })) ∧
  ∀ s : State,
    let e := s.engine
    let voice := ∃ h ∈ e.queue, h.cls = .voice
    let starts := fun (q : Request) (attempts : Nat) (excluded : List Nat) (rest : List Request) (u : Option Suspended) =>
      settle (enterChoose (3 - attempts) ⟨q, .choose, attempts, excluded, none, [], none⟩
        { s with engine := ⟨rest, none, u⟩ })
    (∀ p, e.active = some p → p.stage ≠ .entering → settle s = s) ∧
    (e.active = none →
      (e.queue = [] → e.suspended = none → settle s = s) ∧
      (∀ q rest, e.queue = q :: rest → voice ∨ e.suspended = none → settle s = starts q 0 [] rest e.suspended) ∧
      ∀ u, e.suspended = some u → ¬voice →
        (u.attempts < 3 → settle s = starts u.request (u.attempts + 1) u.excluded e.queue none) ∧
        (3 ≤ u.attempts → settle s = settle { s with
          engine := ⟨e.queue, none, none⟩
          outbox := s.outbox ++ [.placementOutcome u.request.record u.request.generation .noRoom] }))

/-- R21, R25, R28 and R32: every step keeps the levels within 0 to 504, the recovery counts within 0 to 3 and 0 outside
RECOVERING, the sweep position within the band, and the spot queue at 8 entries of distinct tiles, the oldest in measurement. -/
def Obligations.StepKeepsScanner : Prop :=
  ∀ s t : State, ScannerLaw s → step s = .next t → ScannerLaw t

/-- R178 and the chapters' part-state rules: every step keeps what the part state governs, so outside ACTIVE no record holds a
run, and no placement, spot check, loan, retry timer or urgent backoff exists. -/
def Obligations.StepKeepsPartState : Prop :=
  ∀ s t : State, PartLaw s → step s = .next t → PartLaw t

/-- R40, R137 and R182: every step keeps the configuration values in their ranges, the LFSR non-zero once seeded, and the demand
within the data ceiling maximum. R50, R162, R163 and R168: every step keeps bit 7 of the cause sets clear, the drop counter within
16 bits, the link IDLE while it is released, the next byte of a response within its buffer, which holds at most 241 bytes, and
the grant records at the slots of their services (R95). -/
def Obligations.StepKeepsConfiguration : Prop :=
  (∀ s t : State, ConfigLaw s → step s = .next t → ConfigLaw t) ∧
    ∀ s t : State, InterfaceLaw s → step s = .next t → InterfaceLaw t

/-- R95, R150 and R79, with R73, R74, R76, R122 and R149: every step on a well-formed command, a commit naming a run of its record's
width, keeps the claim records and their links in their form, the grant records at the runs of the HELD and MOVING records, and
the Loan Stack with its top entry OUT and every OUT entry's borrower on the entry's tile. It keeps the held total within HOLD_LIMIT
where no DRAINING record holds a borrowed tile; the return or parking of such a tile (R155, R159) adds one that R79 left out
(log 28). -/
def Obligations.StepKeepsClaimTable : Prop :=
  ∀ s t : State, ClaimTableLaw s → (∀ c, s.pending.head? = some c → wellFormed c = true) →
    (∀ r g x, s.pending.head? = some (.commit r g x) → x.width = (s.claim r).width) → step s = .next t →
    ClaimTableLaw t ∧
      (HoldLaw s → (∀ c ∈ s.claims, c.phase = .draining → c.onLoan = none) → HoldLaw t)

/-- R44 and R50: a receiver that validates the bytes of a frame, laid out with its CRC, finds its station, its LEAVING flag and its
entries again, for every station id, flag and list of at most 20 runs that the layout admits. -/
def Obligations.FrameLayoutRoundTrip : Prop :=
  ∀ (station : Nat) (leaving : Bool) (entries : List HeardRun), 0 < station → station < 65535 → entries.length ≤ 20 →
    (∀ h ∈ entries, 1 ≤ h.run.width ∧ h.run.width ≤ 8 ∧ h.run.first + h.run.width ≤ 120) →
    parseFrame (withCrc (frameBytes station leaving entries)) = some ⟨station, leaving, entries⟩
end

