-- ==== Sys2Proof/Laws/Frames.lean ====
section
/-! SUPPORT. What the shared operations leave as it was: one frame lemma for each. -/

namespace Sys2Proof.Machine

/-! ### The frames compose -/

theorem OnlyPlacement.refl (s : State) : OnlyPlacement s s := by constructor <;> rfl

theorem OnlyPlacement.trans {s t u : State} (h : OnlyPlacement s t) (k : OnlyPlacement t u) : OnlyPlacement s u := by
  obtain ⟨⟩ := h; obtain ⟨⟩ := k; constructor <;> simp only [*]

theorem OnlyClaims.refl (s : State) : OnlyClaims s s := by constructor <;> rfl

theorem OnlyClaims.trans {s t u : State} (h : OnlyClaims s t) (k : OnlyClaims t u) : OnlyClaims s u := by
  obtain ⟨⟩ := h; obtain ⟨⟩ := k; constructor <;> simp only [*]

theorem OnlyPeers.refl (s : State) : OnlyPeers s s := by constructor <;> rfl

theorem OnlyPeers.trans {s t u : State} (h : OnlyPeers s t) (k : OnlyPeers t u) : OnlyPeers s u := by
  obtain ⟨⟩ := h; obtain ⟨⟩ := k; constructor <;> simp only [*]

theorem OnlyPlacement.claimsFrame {s t : State} (h : OnlyPlacement s t) : OnlyClaims s t := by
  obtain ⟨⟩ := h; constructor <;> simp only [*]

theorem OnlyClaims.peersFrame {s t : State} (h : OnlyClaims s t) : OnlyPeers s t := by
  obtain ⟨⟩ := h; constructor <;> simp only [*]

/-- A frame carried through a fold. -/
theorem foldl_frame {α : Type} (R : State → State → Prop) (refl : ∀ s, R s s)
    (trans : ∀ {s t u}, R s t → R t u → R s u) (f : State → α → State) (h : ∀ s a, R s (f s a)) (l : List α) :
    ∀ s, R s (l.foldl f s) := by
  induction l with
  | nil => exact refl
  | cons a l ih => exact fun s => trans (h s a) (ih (f s a))

/-! ### The Placement Engine's operations on itself and the scanner -/

theorem withdraw_tiles (sc : Scanner) (g : SpotTag) : (sc.withdraw g).tiles = sc.tiles := rfl
theorem withdraw_sweep (sc : Scanner) (g : SpotTag) : (sc.withdraw g).sweep = sc.sweep := rfl

theorem suspendFor_levels (q : Request) (e : Engine) (sc : Scanner) :
    (suspendFor q e sc).2.tiles = sc.tiles ∧ (suspendFor q e sc).2.sweep = sc.sweep := by
  unfold suspendFor; split
  · split <;> exact ⟨rfl, rfl⟩
  · exact ⟨rfl, rfl⟩

theorem cancelIn_levels (r : Nat) (e : Engine) (sc : Scanner) :
    (cancelIn r e sc).2.tiles = sc.tiles ∧ (cancelIn r e sc).2.sweep = sc.sweep := by
  unfold cancelIn discardActive; split
  · split
    · dsimp only; split <;> exact ⟨rfl, rfl⟩
    · exact ⟨rfl, rfl⟩
  · exact ⟨rfl, rfl⟩

theorem requestIn_levels (q : Request) (e : Engine) (sc : Scanner) :
    (requestIn q e sc).2.tiles = sc.tiles ∧ (requestIn q e sc).2.sweep = sc.sweep := by
  unfold requestIn; split
  · exact suspendFor_levels _ _ _
  · split
    · exact suspendFor_levels _ _ _
    · split
      · exact ⟨rfl, rfl⟩
      · obtain ⟨h1, h2⟩ := cancelIn_levels q.record e sc
        obtain ⟨k1, k2⟩ := suspendFor_levels q
          { (cancelIn q.record e sc).1 with queue := joinQueue q (cancelIn q.record e sc).1.queue }
          (cancelIn q.record e sc).2
        exact ⟨k1.trans h1, k2.trans h2⟩

theorem takeUpIf_frame (b : Bool) (s : State) : OnlyPlacement s (takeUpIf b s) := by constructor <;> rfl

theorem queuePlacement_frame (r : Nat) (s : State) : OnlyPlacement s (queuePlacement r s) := by
  have h := requestIn_levels (requestOf s r) s.engine s.scan
  constructor <;> try rfl
  all_goals (unfold queuePlacement; dsimp only; split)
  exacts [h.1, rfl, h.2, rfl]

theorem requestPlacement_frame (r : Nat) (s : State) : OnlyPlacement s (requestPlacement r s) :=
  (queuePlacement_frame r s).trans (takeUpIf_frame _ _)

theorem discardPlacement_frame (r : Nat) (s : State) : OnlyPlacement s (discardPlacement r s) := by
  have h := cancelIn_levels r s.engine s.scan
  constructor <;> first | rfl | exact h.1 | exact h.2

theorem cancel_frame (r : Nat) (s : State) : OnlyPlacement s (cancel r s) :=
  (discardPlacement_frame r s).trans (takeUpIf_frame _ _)

theorem send_frame (m : Instr) (s : State) : OnlyPlacement s (send m s) := by constructor <;> rfl

theorem arrive_frame (m : Instr) (s : State) : OnlyPlacement s (arrive m s) := by constructor <;> rfl

theorem setActive_frame (p : Option Placement) (s : State) : OnlyPlacement s (setActive p s) := by constructor <;> rfl

theorem endPlacement_frame (p : Placement) (o : PlacementEnd) (s : State) : OnlyPlacement s (endPlacement p o s) :=
  (setActive_frame none s).trans (send_frame _ _)

theorem requestLend_frame (p : Placement) (l : Nat) (lg : BitVec 4) (t : Nat) (s : State) :
    OnlyPlacement s (requestLend p l lg t s) := (setActive_frame _ s).trans (send_frame _ _)

theorem suspend_frame (p : Placement) (s : State) : OnlyPlacement s (suspend p s) := by constructor <;> rfl

theorem scanner_request_levels {sc sc' : Scanner} {t : Nat} {g : SpotTag} (h : sc.request t g = some sc') :
    sc'.tiles = sc.tiles ∧ sc'.sweep = sc.sweep := by
  unfold Scanner.request at h; split at h
  · cases h; exact ⟨rfl, rfl⟩
  · split at h <;> cases h; exact ⟨rfl, rfl⟩

theorem requestAll_levels (g : SpotTag) (ts : List Nat) :
    ∀ sc, (Scanner.requestAll g ts sc).1.tiles = sc.tiles ∧ (Scanner.requestAll g ts sc).1.sweep = sc.sweep := by
  induction ts with
  | nil => exact fun sc => ⟨rfl, rfl⟩
  | cons t ts ih =>
    intro sc; unfold Scanner.requestAll; split
    · rename_i h; have := scanner_request_levels h; have k := ih ‹_›; exact ⟨k.1.trans this.1, k.2.trans this.2⟩
    · exact ⟨rfl, rfl⟩

theorem scan_frame (s : State) (sc : Scanner) (h1 : sc.tiles = s.scan.tiles) (h2 : sc.sweep = s.scan.sweep) :
    OnlyPlacement s { s with scan := sc } := by constructor <;> first | rfl | exact h1 | exact h2

theorem awaitSpots_frame (p : Placement) (x : Run) (sc : Scanner) (s : State) (h1 : sc.tiles = s.scan.tiles)
    (h2 : sc.sweep = s.scan.sweep) : OnlyPlacement s (awaitSpots p x sc s) :=
  (scan_frame s sc h1 h2).trans (setActive_frame _ _)

/-- CHOOSE changes nothing but the engine's work, its spot checks and its messages. -/
theorem enterChoose_frame (n : Nat) : ∀ p s, OnlyPlacement s (enterChoose n p s) := by
  induction n with
  | zero =>
    intro p s; unfold enterChoose; split
    · exact endPlacement_frame _ _ _
    · exact endPlacement_frame _ _ _
    · exact requestLend_frame _ _ _ _ _
    · have h := requestAll_levels p.request.tag (runTiles ‹Run›) s.scan
      dsimp only
      split
      · exact suspend_frame _ _
      · split
        · exact awaitSpots_frame _ _ _ _ h.1 h.2
        · exact (scan_frame s _ (by exact h.1) (by exact h.2)).trans (endPlacement_frame _ _ _)
  | succ n ih =>
    intro p s; unfold enterChoose; split
    · exact endPlacement_frame _ _ _
    · exact endPlacement_frame _ _ _
    · exact requestLend_frame _ _ _ _ _
    · have h := requestAll_levels p.request.tag (runTiles ‹Run›) s.scan
      dsimp only
      split
      · exact suspend_frame _ _
      · split
        · exact awaitSpots_frame _ _ _ _ h.1 h.2
        · exact (scan_frame s _ (by exact h.1) (by exact h.2)).trans (ih _ _)

theorem reenter_frame (p : Placement) (s : State) : OnlyPlacement s (reenter p s) := by
  unfold reenter; split
  · exact enterChoose_frame _ _ _
  · exact endPlacement_frame _ _ _

theorem engine_frame (s : State) (e : Engine) : OnlyPlacement s { s with engine := e } := by constructor <;> rfl

theorem chooseNow_frame (s : State) : OnlyPlacement s (chooseNow s) := by
  unfold chooseNow; split
  · split
    · exact enterChoose_frame _ _ _
    · exact .refl s
  · exact .refl s

theorem runEngine_frame (n : Nat) : ∀ s, OnlyPlacement s (runEngine n s) := by
  induction n with
  | zero => exact OnlyPlacement.refl
  | succ n ih =>
    intro s; unfold runEngine; split
    · exact ((chooseNow_frame s).trans (takeUpIf_frame _ _)).trans (ih _)
    · exact .refl s

/-- The engine's work at the end of a step changes no other block. -/
theorem settle_frame (s : State) : OnlyPlacement s (settle s) := (takeUpIf_frame _ s).trans (runEngine_frame _ _)

theorem settleFrom_frame (e : Engine) (s : State) : OnlyPlacement s (settleFrom e s) := by
  unfold settleFrom; split
  · exact .refl s
  · exact settle_frame s

/-- The engine's work at the end of a step is none where it has an active placement that does not wait to enter CHOOSE, or holds
no work. -/
theorem settle_idle {s : State} (h : s.engine.active = none → s.engine = Engine.reset)
    (k : ∀ p ∈ s.engine.active, p.stage ≠ .entering) : settle s = s := by
  have n : s.engine.next = (s.engine, []) := by
    unfold Engine.next; split
    · rfl
    · rename_i a; rw [h (by simpa using a)]; rfl
  have u : takeUpIf true s = s := by simp [takeUpIf, n]
  have e : s.engine.enters = false := by
    unfold Engine.enters; split
    · rename_i p hp; simpa using k p (by simp [hp])
    · rfl
  unfold settle; rw [u]; unfold runEngine; simp [e]

theorem sendCommit_frame (p : Placement) (x : Run) (s : State) : OnlyPlacement s (sendCommit p x s) :=
  (setActive_frame _ s).trans (send_frame _ _)

theorem enterCommit_frame (p : Placement) (x : Run) (s : State) : OnlyPlacement s (enterCommit p x s) := by
  unfold enterCommit; dsimp only; split
  · exact endPlacement_frame _ _ _
  · split
    · exact reenter_frame _ _
    · split
      · exact (setActive_frame _ s).trans (send_frame _ _)
      · exact sendCommit_frame _ _ _

theorem spotAdvances_frame (a : SpotAction) (s : State) : OnlyPlacement s (spotAdvances a s) := by
  unfold spotAdvances; split
  · exact .refl s
  · exact setActive_frame _ s
  · exact enterCommit_frame _ _ _
  · exact reenter_frame _ _

theorem takeRoomAnswer_frame (p : Placement) (a : RoomAnswer) (s : State) : OnlyPlacement s (takeRoomAnswer p a s) := by
  unfold takeRoomAnswer; split
  · split
    · exact sendCommit_frame _ _ _
    · exact .refl s
  · exact endPlacement_frame _ _ _
  · exact setActive_frame _ s

theorem takeCommitAnswer_frame (p : Placement) (a : CommitAnswer) (s : State) :
    OnlyPlacement s (takeCommitAnswer p a s) := by
  unfold takeCommitAnswer; split
  · exact setActive_frame _ s
  · exact setActive_frame _ s
  · exact setActive_frame _ s
  · exact reenter_frame _ _
  · split
    · exact endPlacement_frame _ _ _
    · exact reenter_frame _ _

/-! ### The Claim Table's operations -/

theorem latch_frame (c : Cause) (s : State) : OnlyClaims s (latch c s) := by constructor <;> rfl

theorem setClaim_frame (r : Nat) (c : ClaimRecord) (s : State) : OnlyClaims s (setClaim r c s) := by constructor <;> rfl

theorem urgentRequest_frame (s : State) : OnlyClaims s (urgentRequest s) := by
  constructor <;> try rfl
  all_goals (unfold urgentRequest Transceiver.takeUrgent; dsimp only; split <;> [split; skip] <;> rfl)

theorem commitGrant_frame (k : ServiceClass) (c : GrantCause) (d : Option Nat) (s : State) :
    OnlyClaims s (commitGrant k c d s) := by
  constructor <;> try rfl
  unfold commitGrant; dsimp only; split <;> rfl

theorem releaseRun_frame (r : Nat) (s : State) : OnlyClaims s (releaseRun r s) :=
  (setClaim_frame _ _ _).trans (urgentRequest_frame _)

theorem cutRecord_frame (r : Nat) (x : Option Run) (s : State) : OnlyClaims s (cutRecord r x s) := by constructor <;> rfl

theorem trimTile_frame (r t : Nat) (s : State) : OnlyClaims s (trimTile r t s) := by
  unfold trimTile; split
  · exact (cutRecord_frame _ _ _).trans (urgentRequest_frame _)
  · exact .refl s

theorem cancelCut_frame (r : Nat) (x : Option Run) (s : State) : OnlyClaims s (cancelCut r x s) := by
  unfold cancelCut; split
  · exact (cancel_frame _ _).claimsFrame
  · exact .refl s

theorem cutTop_frame (r : Nat) (cut : List Nat) (s : State) : OnlyClaims s (cutTop r cut s) := by
  unfold cutTop; split
  · refine OnlyClaims.trans ?_ (cancelCut_frame _ _ _)
    split
    · exact setClaim_frame _ _ _
    · exact cutRecord_frame _ _ _
  · exact .refl s

theorem cutHighest_frame (k : Nat) : ∀ cut s, OnlyClaims s (cutHighest k cut s) := by
  induction k with
  | zero => exact fun _ s => .refl s
  | succ k ih =>
    intro cut s; unfold cutHighest; split
    · exact (cutTop_frame _ _ _).trans (ih _ _)
    · exact .refl s

theorem topDownTrim_frame (k : Nat) (s : State) : OnlyClaims s (topDownTrim k s) := by
  unfold topDownTrim; split
  · exact .refl s
  · exact ((cutHighest_frame _ _ _).trans (urgentRequest_frame _)).trans (commitGrant_frame _ _ _ _)

theorem trimToCeiling_frame (s : State) : OnlyClaims s (trimToCeiling s) := topDownTrim_frame _ s

theorem mergeInto_frame (a r : Nat) (f : Run → Run) (s : State) : OnlyClaims s (mergeInto a r f s) :=
  (setClaim_frame _ _ _).trans (setClaim_frame _ _ _)

theorem mergeGrowth_frame (r t : Nat) (s : State) : OnlyClaims s (mergeGrowth r t s) := by
  unfold mergeGrowth; split
  · exact (mergeInto_frame _ _ _ _).trans (commitGrant_frame _ _ _ _)
  · split
    · exact (mergeInto_frame _ _ _ _).trans (commitGrant_frame _ _ _ _)
    · exact commitGrant_frame _ _ _ _

theorem requestGrowth_frame (s : State) : OnlyClaims s (requestGrowth s) := by
  unfold requestGrowth; split
  · exact (setClaim_frame _ _ _).trans (requestPlacement_frame _ _).claimsFrame
  · exact .refl s

theorem freeCaughtGrowth_frame (s : State) : OnlyClaims s (freeCaughtGrowth s) := by
  unfold freeCaughtGrowth; split
  · split
    · exact (setClaim_frame _ _ _).trans (cancel_frame _ _).claimsFrame
    · exact .refl s
  · exact .refl s

theorem unmetBelowFloor_frame (s : State) : OnlyClaims s (unmetBelowFloor s) := by
  unfold unmetBelowFloor; split
  · exact latch_frame _ _
  · exact .refl s

theorem settleReturned_frame (e : LoanEntry) (s : State) : OnlyClaims s (settleReturned e s) := by
  unfold settleReturned; split
  · split
    · exact mergeInto_frame _ _ _ _
    · exact (setClaim_frame _ _ _).trans (urgentRequest_frame _)
  · exact .refl s

theorem loans_frame (s : State) (l : List LoanEntry) : OnlyClaims s { s with loans := l } := by constructor <;> rfl

theorem unwindStack_frame (n : Nat) : ∀ s, OnlyClaims s (unwindStack n s) := by
  induction n with
  | zero => exact OnlyClaims.refl
  | succ n ih =>
    intro s; unfold unwindStack; split
    · split
      · exact .refl s
      · exact (loans_frame s _).trans (ih _)
      · exact ((loans_frame s _).trans (settleReturned_frame _ _)).trans (ih _)
    · exact .refl s

theorem unwind_frame (s : State) : OnlyClaims s (unwind s) := by
  unfold unwind; dsimp only; split
  · exact ((unwindStack_frame _ s).trans (commitGrant_frame _ _ _ _)).trans (trimToCeiling_frame _)
  · exact unwindStack_frame _ s

theorem markLoan_frame (i : Nat) (x : LoanState) (s : State) : OnlyClaims s (markLoan i x s) := by constructor <;> rfl

theorem voidLoan_frame (i r : Nat) (g : BitVec 4) (s : State) : OnlyClaims s (voidLoan i r g s) := by
  unfold voidLoan; split
  · split
    · exact (markLoan_frame _ _ _).trans (unwind_frame _)
    · exact markLoan_frame _ _ _
  · exact .refl s

theorem voidLoanOf_frame (r : Nat) (c : ClaimRecord) (s : State) : OnlyClaims s (voidLoanOf r c s) := by
  unfold voidLoanOf; split
  · exact voidLoan_frame _ _ _ _
  · exact .refl s

theorem lend_frame (b : Nat) (bg : BitVec 4) (l : Nat) (lg : BitVec 4) (t : Nat) (s : State) :
    OnlyClaims s (lend b bg l lg t s) := by
  unfold lend; dsimp only
  exact (((((setClaim_frame _ _ s).trans (setClaim_frame _ _ _)).trans (loans_frame _ _)).trans
    (commitGrant_frame _ _ _ _)).trans (commitGrant_frame _ _ _ _)).trans (urgentRequest_frame _)

theorem degrade_frame (p : Nat) (s : State) : OnlyClaims s (degrade p s) :=
  (setClaim_frame _ _ _).trans (latch_frame _ _)

theorem linkSuccessor_frame (p q : Nat) (s : State) : OnlyClaims s (linkSuccessor p q s) :=
  (setClaim_frame _ _ _).trans (setClaim_frame _ _ _)

theorem startMigration_frame (p : Nat) (s : State) : OnlyClaims s (startMigration p s) := by
  unfold startMigration; split
  · exact (linkSuccessor_frame _ _ _).trans (requestPlacement_frame _ _).claimsFrame
  · exact degrade_frame _ _

theorem dropSuccessor_frame (p : Nat) (s : State) : OnlyClaims s (dropSuccessor p s) := by
  unfold dropSuccessor; split
  · exact ((setClaim_frame _ _ _).trans (setClaim_frame _ _ _)).trans (cancel_frame _ _).claimsFrame
  · exact .refl s

theorem tentativeLoss_frame (r : Nat) (s : State) : OnlyClaims s (tentativeLoss r s) := by
  unfold tentativeLoss; dsimp only; split
  · exact ((releaseRun_frame _ _).trans (setClaim_frame _ _ _)).trans (requestPlacement_frame _ _).claimsFrame
  · exact ((releaseRun_frame _ _).trans (setClaim_frame _ _ _)).trans (latch_frame _ _)

theorem successorLoss_frame (r p : Nat) (s : State) : OnlyClaims s (successorLoss r p s) := by
  have h : OnlyClaims s
      (cancel r (setClaim p (s.claim p).unmoved (setClaim r (s.claim r).unrun.freed (releaseRun r s)))) :=
    (((releaseRun_frame _ _).trans (setClaim_frame _ _ _)).trans (setClaim_frame _ _ _)).trans
      (cancel_frame _ _).claimsFrame
  unfold successorLoss; dsimp only; split
  · exact h.trans (degrade_frame _ _)
  · exact h

theorem freeSuccessor_frame (c : ClaimRecord) (s : State) : OnlyClaims s (freeSuccessor c s) := by
  unfold freeSuccessor; split
  · exact (setClaim_frame _ _ _).trans (cancel_frame _ _).claimsFrame
  · exact .refl s

theorem heldLoss_frame (r w : Nat) (s : State) : OnlyClaims s (heldLoss r w s) := by
  unfold heldLoss; dsimp only
  refine OnlyClaims.trans ?_ (voidLoanOf_frame _ _ _)
  refine OnlyClaims.trans ?_ (commitGrant_frame _ _ _ _)
  refine OnlyClaims.trans ?_ (freeSuccessor_frame _ _)
  refine OnlyClaims.trans ?_ (requestPlacement_frame _ _).claimsFrame
  exact ((latch_frame _ s).trans (releaseRun_frame _ _)).trans (setClaim_frame _ _ _)

theorem inheritSuccessor_frame (q : Nat) (s : State) : OnlyClaims s (inheritSuccessor q s) := setClaim_frame _ _ _

theorem movingLoss_frame (r w : Nat) (s : State) : OnlyClaims s (movingLoss r w s) := by
  unfold movingLoss; dsimp only
  refine OnlyClaims.trans ?_ (voidLoanOf_frame _ _ _)
  refine OnlyClaims.trans ?_ (commitGrant_frame _ _ _ _)
  have h := ((latch_frame .lost s).trans (releaseRun_frame r _)).trans (setClaim_frame r (s.claim r).unrun.freed _)
  split
  · exact h.trans (inheritSuccessor_frame _ _)
  · exact h

theorem releaseAndFree_frame (r : Nat) (s : State) : OnlyClaims s (releaseAndFree r s) := by
  unfold releaseAndFree; dsimp only
  exact ((releaseRun_frame _ _).trans (setClaim_frame _ _ _)).trans (voidLoanOf_frame _ _ _)

theorem dataLoss_frame (r t w : Nat) (s : State) : OnlyClaims s (dataLoss r t w s) :=
  ((latch_frame _ s).trans (trimTile_frame _ _ _)).trans (commitGrant_frame _ _ _ _)

/-- A loss notice acts on the Claim Table and what follows from it, and on nothing else. -/
theorem applyLoss_frame (r : Nat) (g : BitVec 4) (t w : Nat) (s : State) : OnlyClaims s (applyLoss r g t w s) := by
  unfold applyLoss; split
  · split
    · split
      · exact successorLoss_frame _ _ _
      · exact tentativeLoss_frame _ _
    · split
      · exact dataLoss_frame _ _ _ _
      · exact heldLoss_frame _ _ _
    · exact movingLoss_frame _ _ _
    · exact releaseAndFree_frame _ _
    · exact releaseAndFree_frame _ _
    · exact .refl s
    · exact .refl s
  · exact .refl s

theorem resumeSeeking_frame (p : Nat) (s : State) : OnlyClaims s (resumeSeeking p s) := by
  unfold resumeSeeking; dsimp only; split
  · exact (setClaim_frame _ _ _).trans (dropSuccessor_frame _ _)
  · exact setClaim_frame _ _ _

theorem tentativeNoise_frame (r : Nat) (s : State) : OnlyClaims s (tentativeNoise r s) := by
  have h := ((releaseRun_frame r s).trans (setClaim_frame r { (s.claim r).unrun with phase := .seeking } _)).trans
    (requestPlacement_frame r _).claimsFrame
  unfold tentativeNoise; dsimp only; split
  · exact h.trans (resumeSeeking_frame _ _)
  · exact h

theorem heldNoise_frame (r : Nat) (s : State) : OnlyClaims s (heldNoise r s) := by
  unfold heldNoise; split
  · exact startMigration_frame _ _
  · exact .refl s

/-- A noise notice acts on the Claim Table and what follows from it, and on nothing else. -/
theorem applyNoise_frame (r : Nat) (g : BitVec 4) (t : Nat) (s : State) : OnlyClaims s (applyNoise r g t s) := by
  unfold applyNoise; split
  · split
    · exact tentativeNoise_frame _ _
    · split
      · exact (trimTile_frame _ _ _).trans (commitGrant_frame _ _ _ _)
      · exact heldNoise_frame _ _
    · exact .refl s
  · exact .refl s

theorem commitContention_frame (r : Nat) (x : Run) (s : State) : OnlyClaims s (commitContention r x s) := by
  unfold commitContention; split
  · exact applyLoss_frame _ _ _ _ _
  · exact .refl s

/-- A commit whose run meets no stronger claim is left as it is. -/
theorem commitContention_unbeaten {r : Nat} {x : Run} {s : State}
    (h : ∀ t ∈ runTiles x, tileWinner s ((s.claim r).contender ((ownId s).getD 0)) t = none) : commitContention r x s = s := by
  unfold commitContention; rw [List.findSome?_eq_none_iff.mpr h]

theorem commitNoise_frame (r : Nat) (x : Run) (s : State) : OnlyClaims s (commitNoise r x s) := by
  unfold commitNoise; split
  · exact applyNoise_frame _ _ _ _
  · exact .refl s

/-- A quiet notice acts on the Claim Table and what follows from it, and on nothing else. -/
theorem applyQuiet_frame (r : Nat) (g : BitVec 4) (t : Nat) (s : State) : OnlyClaims s (applyQuiet r g t s) := by
  unfold applyQuiet; split
  · split
    · exact dropSuccessor_frame _ _
    · exact setClaim_frame _ _ _
  · exact .refl s

theorem endDrain_frame (r : Nat) (s : State) : OnlyClaims s (endDrain r s) := by
  unfold endDrain; split
  · exact releaseAndFree_frame _ _
  · exact .refl s

theorem sentItem_frame (s : State) (i : CarriedItem) : OnlyClaims s (sentItem s i) := by
  unfold sentItem; dsimp only; split
  · exact .refl s
  · split
    · exact setClaim_frame _ _ _
    · split
      · exact (setClaim_frame _ _ _).trans (endDrain_frame _ _)
      · exact .refl s

theorem sentNotice_frame (l : List CarriedItem) (s : State) : OnlyClaims s (sentNotice l s) :=
  foldl_frame OnlyClaims .refl .trans _ sentItem_frame l s

theorem switchMigration_frame (r p : Nat) (s : State) : OnlyClaims s (switchMigration r p s) :=
  ((setClaim_frame _ _ _).trans (setClaim_frame _ _ _)).trans (commitGrant_frame _ _ _ _)

theorem promote_frame (r : Nat) (s : State) : OnlyClaims s (promote r s) := by
  unfold promote; split
  · exact switchMigration_frame _ _ _
  · dsimp only; split
    · exact (setClaim_frame _ _ _).trans (mergeGrowth_frame _ _ _)
    · exact (setClaim_frame _ _ _).trans (commitGrant_frame _ _ _ _)

theorem promoteIfDue_frame (s : State) (r : Nat) : OnlyClaims s (promoteIfDue s r) := by
  unfold promoteIfDue; split
  · split
    · exact applyLoss_frame _ _ _ _ _
    · exact promote_frame _ _
  · exact .refl s

theorem buildNotice_frame (s : State) : OnlyClaims s (buildNotice s) :=
  foldl_frame OnlyClaims .refl .trans _ promoteIfDue_frame _ s

theorem takeCommit_frame (r : Nat) (x : Run) (s : State) : OnlyClaims s (takeCommit r x s) := by
  unfold takeCommit; dsimp only
  refine OnlyClaims.trans ?_ (urgentRequest_frame _)
  split
  · exact (setClaim_frame _ _ _).trans (setClaim_frame _ _ _)
  · exact setClaim_frame _ _ _

theorem applyOutcome_frame (r : Nat) (s : State) : OnlyClaims s (applyOutcome r s) := by
  unfold applyOutcome; split
  · exact ((setClaim_frame _ _ _).trans (setClaim_frame _ _ _)).trans (degrade_frame _ _)
  · split
    · exact (setClaim_frame _ _ _).trans (unmetBelowFloor_frame _)
    · exact (setClaim_frame _ _ _).trans (latch_frame _ _)

theorem expireRetry_frame (r : Nat) (s : State) : OnlyClaims s (expireRetry r s) := by
  unfold expireRetry; split
  · exact (setClaim_frame _ _ _).trans (requestPlacement_frame _ _).claimsFrame
  · dsimp only; split
    · exact (setClaim_frame _ _ _).trans (startMigration_frame _ _)
    · exact setClaim_frame _ _ _
  · exact .refl s

theorem freeClosed_frame (s : State) (r : Nat) : OnlyClaims s (freeClosed s r) := by
  have h : OnlyClaims s (if (s.claim r).run.isSome = true then releaseRun r s else s) := by
    split
    · exact releaseRun_frame _ _
    · exact .refl s
  unfold freeClosed; dsimp only
  exact (h.trans (setClaim_frame _ _ _)).trans (cancel_frame _ _).claimsFrame

theorem closeProgram_frame (n : Nat) (s : State) : OnlyClaims s (closeProgram n s) :=
  (foldl_frame OnlyClaims .refl .trans _ freeClosed_frame _ s).trans (commitGrant_frame _ _ _ _)

theorem closeCallRecord_frame (s : State) (r : Nat) : OnlyClaims s (closeCallRecord s r) := by
  unfold closeCallRecord; split
  · exact (cancel_frame _ _).claimsFrame.trans (markLoan_frame _ _ _)
  · exact freeClosed_frame _ _

theorem parkRemaining_frame (s : State) (r : Nat) : OnlyClaims s (parkRemaining s r) := by
  unfold parkRemaining; split
  · exact .refl s
  · exact setClaim_frame _ _ _

/-- The close of a call acts on the Claim Table and the Loan Stack and what follows from them. -/
theorem closeCall_frame (n : Nat) (s : State) : OnlyClaims s (closeCall n s) := by
  have h := foldl_frame OnlyClaims .refl .trans _ closeCallRecord_frame (closingRecords .voice n s) s
  have k := (h.trans (unwindStack_frame ((closingRecords .voice n s).foldl closeCallRecord s).loans.length _)).trans
    ((foldl_frame OnlyClaims .refl .trans _ parkRemaining_frame (closingRecords .voice n s) _).trans
      (commitGrant_frame .voice .closed none _))
  unfold closeCall; dsimp only; split
  · exact (k.trans (commitGrant_frame _ _ _ _)).trans (trimToCeiling_frame _)
  · exact k

theorem openSlot_frame (k : ServiceClass) (n w : Nat) (s : State) : OnlyClaims s (openSlot k n w s) := by
  unfold openSlot; split
  · exact (setClaim_frame _ _ _).trans (requestPlacement_frame _ _).claimsFrame
  · exact .refl s

theorem openByLine_frame (n : Nat) (s : State) : OnlyClaims s (openByLine n s) := by
  unfold openByLine; split
  · exact .refl s
  · split
    · exact openSlot_frame _ _ _ _
    · exact latch_frame _ _

/-! ### The Peer Table's operations -/

theorem modify_map {α β : Type} (f : α → β) (g : α → α) (h : ∀ x, f (g x) = f x) (l : List α) (i : Nat) :
    (l.modify i g).map f = l.map f := by
  apply List.ext_getElem?
  intro n
  simp only [List.getElem?_map, List.getElem?_modify]
  split <;> cases l[n]? <;> simp [h]

theorem changeClaimants_flags (t : Nat) (f : List ClaimantEntry → List ClaimantEntry) (l : List TileRecord) :
    (changeClaimants t f l).map (·.locked) = l.map (·.locked) ∧
      (changeClaimants t f l).map (·.inWindow) = l.map (·.inWindow) :=
  ⟨modify_map (fun x : TileRecord => x.locked) (fun x => { x with claimants := f x.claimants }) (fun _ => rfl) l t,
    modify_map (fun x : TileRecord => x.inWindow) (fun x => { x with claimants := f x.claimants }) (fun _ => rfl) l t⟩

theorem changeClaimants_frame (t : Nat) (f : List ClaimantEntry → List ClaimantEntry) (s : State) :
    OnlyPeers s { s with tiles := changeClaimants t f s.tiles } := by
  have h := changeClaimants_flags t f s.tiles
  constructor <;> first | rfl | exact h.1 | exact h.2

theorem contend_frame (t : Nat) (e : ClaimantEntry) (s : State) : OnlyClaims s (contend t e s) := by
  unfold contend; split
  · exact applyLoss_frame _ _ _ _ _
  · exact .refl s

theorem presentEntry_frame (e : ClaimantEntry) (s : State) (t : Nat) : OnlyPeers s (presentEntry e s t) := by
  unfold presentEntry; split
  · exact .refl s
  · exact (changeClaimants_frame t _ s).trans (contend_frame _ _ _).peersFrame

theorem weakenOn_frame (p : Nat) (s : State) (t : Nat) : OnlyPeers s (weakenOn p s t) := by
  unfold weakenOn; split
  · exact (changeClaimants_frame t _ s).trans (contend_frame _ _ _).peersFrame
  · exact .refl s

theorem removeClaims_flags (p : Nat) (runs : List HeardRun) (tiles : List TileRecord) :
    (removeClaims p runs tiles).map (·.locked) = tiles.map (·.locked) ∧
      (removeClaims p runs tiles).map (·.inWindow) = tiles.map (·.inWindow) := by
  unfold removeClaims
  generalize runs.flatMap (fun h => runTiles h.run) = l
  induction l generalizing tiles with
  | nil => exact ⟨rfl, rfl⟩
  | cons t l ih =>
    have h := ih (changeClaimants t (removeStation p) tiles)
    have k := changeClaimants_flags t (removeStation p) tiles
    exact ⟨h.1.trans k.1, h.2.trans k.2⟩

theorem peers_frame (s : State) (l : List PeerRecord) : OnlyPeers s { s with peers := l } := by constructor <;> rfl

theorem deletePeer_frame (x : PeerRecord) (s : State) : OnlyPeers s (deletePeer x s) := by
  have h := removeClaims_flags x.station x.runs s.tiles
  constructor <;> first | rfl | exact h.1 | exact h.2

theorem replaceClaims_frame (p : Nat) (old new : List HeardRun) (s : State) :
    OnlyPeers s (replaceClaims p old new s) := by
  have h := removeClaims_flags p old s.tiles
  unfold replaceClaims
  refine OnlyPeers.trans (t := { s with
    tiles := removeClaims p old s.tiles, peers := putPeer ⟨p, .fresh, 0, new⟩ s.peers }) ?_ ?_
  · constructor <;> first | rfl | exact h.1 | exact h.2
  · refine foldl_frame OnlyPeers .refl .trans _ (fun s h => ?_) new _
    exact foldl_frame OnlyPeers .refl .trans _ (presentEntry_frame _) _ s

theorem newPeerFrame_frame (p : Nat) (new : List HeardRun) (s : State) : OnlyPeers s (newPeerFrame p new s) := by
  unfold newPeerFrame; split
  · exact replaceClaims_frame _ _ _ _
  · split
    · exact (deletePeer_frame _ _).trans (replaceClaims_frame _ _ _ _)
    · exact (latch_frame _ _).peersFrame

/-- The application of a frame acts on the Peer Table, the map, and what loss notices do. -/
theorem applyFrame_frame (f : ReceivedFrame) (s : State) : OnlyPeers s (applyFrame f s) := by
  unfold applyFrame; split
  · split
    · exact deletePeer_frame _ _
    · exact replaceClaims_frame _ _ _ _
  · split
    · exact .refl s
    · exact newPeerFrame_frame _ _ _

theorem turnStale_frame (p : Nat) (s : State) : OnlyPeers s (turnStale p s) := by
  unfold turnStale; split
  · split
    · exact (peers_frame s _).trans (foldl_frame OnlyPeers .refl .trans _ (weakenOn_frame p) _ _)
    · exact .refl s
  · exact .refl s

theorem turnGone_frame (p : Nat) (s : State) : OnlyPeers s (turnGone p s) := by
  unfold turnGone; split
  · split
    · exact deletePeer_frame _ _
    · exact .refl s
  · exact .refl s

theorem agePeer_frame (s : State) (p : Nat) : OnlyPeers s (agePeer s p) := by
  unfold agePeer; split
  · exact ((peers_frame s _).trans (turnStale_frame _ _)).trans (turnGone_frame _ _)
  · exact .refl s

/-- A tick of the Peer Table acts on the Peer Table, the map, and what loss notices do. -/
theorem agePeers_frame (s : State) : OnlyPeers s (agePeers s) :=
  foldl_frame OnlyPeers .refl .trans _ agePeer_frame _ s

end Sys2Proof.Machine
end

