-- ==== Sys2Proof/Laws/Link.lean ====
section
/-! SUPPORT. The service link: the request table read back, the state in which a byte leaves the link, and what the bytes of a
request come to in each state of the link. -/

namespace Sys2Proof.Machine

/-- The bytes of a request make that request again (R165), where a BAD_CODE names a code in no row. -/
theorem decodeRequest_requestBytes (c : Instr) (bs : List Byte) (h : requestBytes c = some bs) (w : wellFormed c = true) :
    decodeRequest bs = some c := by
  cases c <;> simp only [requestBytes, Option.some.injEq, reduceCtorEq] at h <;> subst h <;> try rfl
  rename_i code; revert w; revert code; decide +kernel

/-- The request that bytes make is made of those bytes (R165). -/
theorem requestBytes_of_decodeRequest {bs : List Byte} {c : Instr} (h : decodeRequest bs = some c) :
    requestBytes c = some bs := by
  unfold decodeRequest at h; split at h
  · cases h
  · split at h <;> first
      | (cases h; rename_i k; rw [requestBytes]; congr 2; exact BitVec.eq_of_toNat_eq k.symm)
      | (split at h <;> cases h; rfl)
      | cases h

/-- A code byte that makes no request by itself has argument bytes. -/
theorem argCount_pos_of_decodeRequest_none : ∀ b : Byte, decodeRequest [b] = none → 0 < (argCount b).getD 0 := by
  decide +kernel

theorem takeRequest_state (check : State → LinkResult) (effect : State → State) (reply : State → List Byte) (s : State) :
    (takeRequest check effect reply s).link.state = .response := by
  unfold takeRequest; split <;> rfl

/-- A request that is taken leads to RESPONSE (R163). -/
theorem serve_state {c : Instr} {bs : List Byte} (h : requestBytes c = some bs) (s : State) :
    (serve c s).link.state = .response := by
  cases c <;> first | exact takeRequest_state _ _ _ s | rfl | cases h

/-- No byte leaves the link in CODE. -/
theorem clockIn_state (b : Byte) (s : State) : (clockIn b s).link.state ≠ .code := by
  unfold clockIn; dsimp only; split
  · split
    · rename_i h; rw [serve_state (requestBytes_of_decodeRequest h)]; decide
    · rename_i k _ h
      rcases k with k | k
      · have : 0 < (argCount b).getD 0 := argCount_pos_of_decodeRequest_none b (by
          simpa [clockBytes, Link.clockByte, k] using h)
        simp [clockBytes, Link.clockByte, k, this]
      · simp [clockBytes, Link.clockByte, k]
  · rename_i k; rw [not_or] at k
    simp only [clockBytes, List.foldl, Link.clockByte]
    split <;> simp_all [Link.clockOut]
    split <;> simp

/-- A byte in CODE that makes a request by itself has it taken. -/
theorem clockIn_code {b : Byte} {c : Instr} {s : State} (k : s.link.state = .code) (h : decodeRequest [b] = some c) :
    clockIn b s = serve c (clockBytes [b] s) := by
  have e : (clockBytes [b] s).link.code = b ∧ (clockBytes [b] s).link.args = [] := by
    simp [clockBytes, Link.clockByte, k]
  unfold clockIn; dsimp only; rw [if_pos (.inl k), e.1, e.2, h]

/-- A byte in CODE that makes no request by itself is clocked, and the link is in ARGS. -/
theorem clockIn_code_args {b : Byte} {s : State} (k : s.link.state = .code) (h : decodeRequest [b] = none) :
    clockIn b s = clockBytes [b] s ∧ (clockBytes [b] s).link.state = .args ∧ (clockBytes [b] s).link.code = b ∧
      (clockBytes [b] s).link.args = [] := by
  have n := argCount_pos_of_decodeRequest_none b h
  have e : (clockBytes [b] s).link.code = b ∧ (clockBytes [b] s).link.args = [] ∧
      (clockBytes [b] s).link.state = .args := by simp [clockBytes, Link.clockByte, k, n]
  refine ⟨?_, e.2.2, e.1, e.2.1⟩
  unfold clockIn; dsimp only; rw [if_pos (.inl k), e.1, e.2.1, h]

/-- A byte in ARGS joins the argument bytes, and has the request taken that they make. -/
theorem clockIn_args (b : Byte) {s : State} (k : s.link.state = .args) :
    clockIn b s = (match decodeRequest (s.link.code :: (s.link.args ++ [b])) with
      | some c => serve c (clockBytes [b] s)
      | none => clockBytes [b] s) ∧ (clockBytes [b] s).link.state = .args ∧
      (clockBytes [b] s).link.code = s.link.code ∧ (clockBytes [b] s).link.args = s.link.args ++ [b] := by
  have e : (clockBytes [b] s).link.code = s.link.code ∧ (clockBytes [b] s).link.args = s.link.args ++ [b] ∧
      (clockBytes [b] s).link.state = .args := by simp [clockBytes, Link.clockByte, k]
  refine ⟨?_, e.2.2, e.1, e.2.1⟩
  unfold clockIn; dsimp only; rw [if_pos (.inr k), e.1, e.2.1] <;> rfl

/-- In CODE the bytes of a request complete it, and it is taken (R163). -/
theorem transact_code {c : Instr} {bs : List Byte} (h : requestBytes c = some bs) (w : wellFormed c = true) {s : State}
    (k : s.link.state = .code) : transact bs s = serve c (clockBytes bs s) := by
  have d := decodeRequest_requestBytes c bs h w
  have t : transact bs s = bs.foldl (fun u b => clockIn b u) s := by unfold transact; rw [k]
  rw [t]
  have one : ∀ a : Byte, decodeRequest [a] = some c → [a].foldl (fun u b => clockIn b u) s = serve c (clockBytes [a] s) :=
    fun a h => clockIn_code k h
  have two : ∀ a b : Byte, decodeRequest [a] = none → decodeRequest [a, b] = some c →
      [a, b].foldl (fun u b => clockIn b u) s = serve c (clockBytes [a, b] s) := by
    intro a b h1 h2
    obtain ⟨e, k1, c1, a1⟩ := clockIn_code_args k h1
    have f := (clockIn_args b k1).1
    rw [c1, a1, List.nil_append, h2] at f
    simp only [List.foldl, e, f]; rfl
  have three : ∀ a b f : Byte, decodeRequest [a] = none → decodeRequest [a, b] = none →
      decodeRequest [a, b, f] = some c →
      [a, b, f].foldl (fun u b => clockIn b u) s = serve c (clockBytes [a, b, f] s) := by
    intro a b f h1 h2 h3
    obtain ⟨e, k1, c1, a1⟩ := clockIn_code_args k h1
    obtain ⟨e2, k2, c2, a2⟩ := clockIn_args b k1
    have g := (clockIn_args f k2).1
    rw [c2, c1, a2, a1, List.nil_append, List.singleton_append, h3] at g
    rw [c1, a1, List.nil_append, h2] at e2
    simp only [List.foldl, e, e2, g]; rfl
  cases c <;> simp only [requestBytes, Option.some.injEq, reduceCtorEq] at h <;> subst h <;> first
    | exact one _ d
    | exact two _ _ rfl d
    | exact three _ _ _ rfl rfl d

/-- In RESPONSE and SPENT the bytes are clocked and ignored (R163, R164). -/
theorem transact_ignored (bs : List Byte) {s : State} (k : s.link.state = .response ∨ s.link.state = .spent) :
    transact bs s = clockBytes bs s := by
  have t : transact bs s = bs.foldl (fun u b => clockIn b u) s := by
    unfold transact; rcases k with k | k <;> rw [k]
  rw [t]; clear t
  induction bs generalizing s with
  | nil => rfl
  | cons b bs ih =>
    have e : clockIn b s = clockBytes [b] s := by
      unfold clockIn; dsimp only; rw [if_neg]; rcases k with k | k <;> rw [k] <;> decide
    have k' : (clockBytes [b] s).link.state = .response ∨ (clockBytes [b] s).link.state = .spent := by
      rcases k with k | k <;> simp only [clockBytes, List.foldl, Link.clockByte, k, Link.clockOut]
      · split <;> simp
      · simp
    rw [List.foldl_cons, e, ih k']; rfl

end Sys2Proof.Machine
end

