-- ==== Sys2Proof/Laws/Commands.lean ====
section
/-! SUPPORT. What the commands that act below the part state leave as it was: the loader, the tick, the Peer Table, the map, the
receiver and the queue. -/

namespace Sys2Proof.Machine

/-- The part state, the tick, the Peer Table, the map, the receiver and the queue are as they were. -/
structure KeepsPart (s t : State) : Prop where
  loader : t.loader = s.loader
  clock : t.clock = s.clock
  peers : t.peers = s.peers
  tiles : t.tiles = s.tiles
  reception : t.chan.reception = s.chan.reception
  dropped : t.chan.dropped = s.chan.dropped
  pending : t.pending = s.pending

theorem KeepsPart.refl (s : State) : KeepsPart s s := by constructor <;> rfl

theorem KeepsPart.trans {s t u : State} (h : KeepsPart s t) (k : KeepsPart t u) : KeepsPart s u := by
  obtain ⟨⟩ := h; obtain ⟨⟩ := k; constructor <;> simp only [*]

theorem OnlyClaims.keepsPart {s t : State} (h : OnlyClaims s t) : KeepsPart s t := by
  obtain ⟨⟩ := h; constructor <;> assumption

theorem OnlyPlacement.keepsPart {s t : State} (h : OnlyPlacement s t) : KeepsPart s t := h.claimsFrame.keepsPart

/-- The commands that move the part state, the tick, the Peer Table, the map or the receiver. -/
def movesPart : Instr → Bool
  | .reset => true
  | .resetRelease => true
  | .configReadComplete _ => true
  | .ageingTick => true
  | .peerStale _ => true
  | .peerGone _ => true
  | .warmListenEnd => true
  | .transmissionEnd _ => true
  | .leavingComplete => true
  | .syncDetected => true
  | .receptionEnd _ => true
  | .receptionOverrun => true
  | .entryCountAssembled _ => true
  | .leave => true
  | .join => true
  | _ => false

/-! ### The operations that the frames of the Claim Table do not cover -/

theorem settle_keepsPart {s t : State} (h : KeepsPart s t) : KeepsPart s (settle t) :=
  h.trans (settle_frame t).keepsPart

theorem settleFrom_keepsPart {s t : State} (e : Engine) (h : KeepsPart s t) : KeepsPart s (settleFrom e t) :=
  h.trans (settleFrom_frame e t).keepsPart

theorem clockBytes_keepsPart (bs : List Byte) (s : State) : KeepsPart s (clockBytes bs s) := by constructor <;> rfl

theorem respond_keepsPart (r : LinkResult) (b : List Byte) (s : State) : KeepsPart s (respond r b s) := by
  constructor <;> rfl

theorem takeRequest_keepsPart (check : State → LinkResult) (effect : State → State) (reply : State → List Byte) (s : State)
    (h : KeepsPart s (effect s)) : KeepsPart s (takeRequest check effect reply s) := by
  unfold takeRequest; split
  · exact h.trans (respond_keepsPart _ _ _)
  · exact respond_keepsPart _ _ _

theorem closeLine_keepsPart (n : Nat) (s : State) : KeepsPart s (closeLine n s) := by
  unfold closeLine; split
  · have h := (closeCall_frame n s).keepsPart; exact h.trans (by constructor <;> rfl)
  · constructor <;> rfl

theorem acknowledgeLine_keepsPart (n : Nat) (s : State) : KeepsPart s (acknowledgeLine n s) := by
  unfold acknowledgeLine; split
  · split
    · constructor <;> rfl
    · exact closeLine_keepsPart _ _
  · constructor <;> rfl

theorem takeEdge_keepsPart (n : Nat) (s : State) : KeepsPart s (takeEdge n s) := by
  unfold takeEdge; split
  · exact .refl s
  · have h : KeepsPart s (setLine n ⟨true, false⟩ s) := by constructor <;> rfl
    exact h.trans (openByLine_frame _ _).keepsPart

theorem releaseLine_keepsPart (n : Nat) (s : State) : KeepsPart s (releaseLine n s) := by
  unfold releaseLine; split
  · exact closeLine_keepsPart _ _
  · exact .refl s

theorem applyDemand_keepsPart (f c : Nat) (s : State) : KeepsPart s (applyDemand f c s) := by
  have h : KeepsPart s { s with demand := clampDemand (classMax s .data) f c } := by constructor <;> rfl
  unfold applyDemand; dsimp only; split
  · exact h.trans ((trimToCeiling_frame _).trans (freeCaughtGrowth_frame _)).keepsPart
  · exact h

/-! ### The requests of the service link -/

theorem serve_keepsPart {c : Instr} (h : movesPart c = false) (s : State) : KeepsPart s (serve c s) := by
  cases c <;> first | exact .refl s | cases h
  case badCode => exact respond_keepsPart _ _ s
  case readStatus => unfold serve serveReadStatus; exact takeRequest_keepsPart _ _ _ _ (.refl _)
  case ackAttn => unfold serve serveAckAttn; exact takeRequest_keepsPart _ _ _ _ (by constructor <;> rfl)
  case setData => unfold serve serveSetData; exact takeRequest_keepsPart _ _ _ _ (settle_keepsPart (applyDemand_keepsPart _ _ s))
  case openProgram => unfold serve serveOpenProgram; exact takeRequest_keepsPart _ _ _ _ (settle_keepsPart (openSlot_frame _ _ _ s).keepsPart)
  case closeProgram => unfold serve serveCloseProgram; exact takeRequest_keepsPart _ _ _ _ (settle_keepsPart (closeProgram_frame _ s).keepsPart)
  case openCall => unfold serve serveOpenCall; exact takeRequest_keepsPart _ _ _ _ (settle_keepsPart (openSlot_frame _ _ _ s).keepsPart)
  case closeCall => unfold serve serveCloseCall; exact takeRequest_keepsPart _ _ _ _ (settle_keepsPart (closeLine_keepsPart _ s))
  case ackCallLine => unfold serve serveAckCallLine; exact takeRequest_keepsPart _ _ _ _ (settle_keepsPart (acknowledgeLine_keepsPart _ s))
  case readGrant => unfold serve serveReadGrant; exact takeRequest_keepsPart _ _ _ _ (.refl _)
  case readMap => unfold serve serveReadMap; exact takeRequest_keepsPart _ _ _ _ (.refl _)

/-- A byte that begins no LEAVE and no JOIN leaves the part as it was. -/
theorem clockIn_keepsPart {b : Byte} {s : State} (h : s.link.state = .code → b ≠ 0x30 ∧ b ≠ 0x31) :
    KeepsPart s (clockIn b s) := by
  have k := clockBytes_keepsPart [b] s
  unfold clockIn; dsimp only; split
  · split
    · rename_i hs _ c hc
      refine k.trans (serve_keepsPart ?_ _)
      have hb := requestBytes_of_decodeRequest hc
      rcases hs with hs | hs
      · have ⟨h1, h2⟩ := h hs
        cases c <;> simp [requestBytes, clockBytes, Link.clockByte, hs] at hb <;> first | rfl | simp_all
      · cases c <;> simp [requestBytes, clockBytes, Link.clockByte, hs] at hb <;> rfl
    · exact k
  · exact k

theorem foldl_clockIn_keepsPart (bs : List Byte) : ∀ s : State, s.link.state ≠ .code →
    KeepsPart s (bs.foldl (fun u b => clockIn b u) s) := by
  induction bs with
  | nil => exact fun s _ => .refl s
  | cons b bs ih =>
    intro s h
    exact (clockIn_keepsPart (fun k => absurd k h)).trans (ih _ (clockIn_state b s))

/-- The bytes of a request that is no LEAVE and no JOIN leave the part as it was. -/
theorem transact_keepsPart {b : Byte} (bs : List Byte) (s : State) (h : b ≠ 0x30 ∧ b ≠ 0x31) :
    KeepsPart s (transact (b :: bs) s) := by
  unfold transact; split
  · exact .refl s
  · split
    · rename_i k _; exact foldl_clockIn_keepsPart _ s (by rw [k]; decide)
    · exact .refl s
  · exact (clockIn_keepsPart fun _ => h).trans (foldl_clockIn_keepsPart _ _ (clockIn_state b s))

theorem attempt_reception (c : Transceiver) (b : Bool) :
    (c.attempt b).reception = c.reception ∧ (c.attempt b).dropped = c.dropped := by
  unfold Transceiver.attempt; split
  · exact ⟨rfl, rfl⟩
  · split <;> exact ⟨rfl, rfl⟩

theorem attemptSend_keepsPart (s : State) : KeepsPart s (attemptSend s) := by
  have h := attempt_reception s.chan (carrierBusy s)
  constructor <;> first | rfl | exact h.1 | exact h.2

theorem write_reception (c : Transceiver) (f : Frame) :
    (c.write f).reception = c.reception ∧ (c.write f).dropped = c.dropped := by
  unfold Transceiver.write; split <;> exact ⟨rfl, rfl⟩

theorem buildFrame_keepsPart (s : State) : KeepsPart s (buildFrame s) := by
  have h : KeepsPart s (if isActive s = true then buildNotice s else s) := by
    split
    · exact (buildNotice_frame s).keepsPart
    · exact .refl s
  unfold buildFrame
  generalize (if isActive s = true then buildNotice s else s) = u at h ⊢
  have k := write_reception u.chan.discardWaiting (composeFrame u)
  refine h.trans ?_
  constructor <;> first | rfl | exact k.1 | exact k.2

theorem sampleCarrier_keepsPart (b : Bool) (s : State) : KeepsPart s (sampleCarrier b s) := by constructor <;> rfl

theorem restoreAllowance_keepsPart (s : State) : KeepsPart s (restoreAllowance s) := by constructor <;> rfl

theorem changeNoise_keepsPart (t : Nat) (f : TileNoise → TileNoise) (s : State) : KeepsPart s (changeNoise t f s) := by
  constructor <;> rfl

theorem noiseNotice_keepsPart (t : Nat) (s : State) : KeepsPart s (noiseNotice t s) := by
  unfold noiseNotice; split
  · rename_i r _
    have h : OnlyClaims s (if (s.claim r).phase = .held ∨ (s.claim r).phase = .moving then latch .noise s else s) := by
      split
      · exact latch_frame _ _
      · exact .refl s
    dsimp only
    by_cases k : (s.claim r).phase = .tentative ∨ (s.claim r).phase = .held ∨ (s.claim r).phase = .moving
    · rw [if_pos k]; exact (h.trans (applyNoise_frame _ _ _ _)).keepsPart
    · rw [if_neg k]; exact h.keepsPart
  · exact .refl s

theorem quietNotice_keepsPart (t : Nat) (s : State) : KeepsPart s (quietNotice t s) := by
  unfold quietNotice; split
  · split
    · exact (applyQuiet_frame _ _ _ _).keepsPart
    · exact .refl s
  · exact .refl s

theorem recoverTile_keepsPart (t : Nat) (s : State) : KeepsPart s (recoverTile t s) := by
  unfold recoverTile; split
  · exact (changeNoise_keepsPart _ _ _).trans (quietNotice_keepsPart _ _)
  · exact .refl s

theorem enterNoisy_keepsPart (t : Nat) (s : State) : KeepsPart s (enterNoisy t s) :=
  (changeNoise_keepsPart _ _ _).trans (noiseNotice_keepsPart _ _)

theorem driveNoise_keepsPart (t : Nat) (s : State) : KeepsPart s (driveNoise t s) := by
  unfold driveNoise; dsimp only; split
  · split
    · exact enterNoisy_keepsPart _ _
    · exact .refl s
  · split
    · exact changeNoise_keepsPart _ _ _
    · exact .refl s
  · split
    · exact (changeNoise_keepsPart _ _ _).trans (recoverTile_keepsPart _ _)
    · exact enterNoisy_keepsPart _ _

theorem takeSample_keepsPart (t : Nat) (v : Option Nat) (s : State) : KeepsPart s (takeSample t v s) := by
  unfold takeSample; split
  · exact changeNoise_keepsPart _ _ _
  · exact .refl s

theorem scan_keepsPart (s : State) (sc : Scanner) : KeepsPart s { s with scan := sc } := by constructor <;> rfl

theorem endSweep_keepsPart (m : Measurement) (s : State) : KeepsPart s (endSweep m s) := by
  unfold endSweep; dsimp only
  refine KeepsPart.trans ?_ (scan_keepsPart _ _)
  refine KeepsPart.trans ?_ (scan_keepsPart _ _)
  split
  · exact (takeSample_keepsPart _ _ _).trans (driveNoise_keepsPart _ _)
  · exact takeSample_keepsPart _ _ _

theorem spotWithdraws_keepsPart (a : SpotAction) (s : State) : KeepsPart s (spotWithdraws a s) := by
  unfold spotWithdraws; split
  · exact scan_keepsPart _ _
  · exact .refl s

theorem endSpot_keepsPart (m : Measurement) (s : State) : KeepsPart s (endSpot m s) := by
  unfold endSpot; dsimp only; split
  · exact ((((takeSample_keepsPart _ _ _).trans (scan_keepsPart _ _)).trans (spotWithdraws_keepsPart _ _)).trans
      (scan_keepsPart _ _)).trans (spotAdvances_frame _ _).keepsPart
  · exact (takeSample_keepsPart _ _ _).trans (scan_keepsPart _ _)

theorem growWhenDue_keepsPart (s : State) : KeepsPart s (growWhenDue s) := by
  unfold growWhenDue; split
  · exact .refl s
  · split
    · split
      · exact (latch_frame _ _).keepsPart
      · exact .refl s
    · exact (requestGrowth_frame s).keepsPart.trans (by constructor <;> rfl)

theorem growthComparison_keepsPart (s : State) : KeepsPart s (growthComparison s) := by
  have h : ∀ n, KeepsPart s (setPace n s) := fun n => by constructor <;> rfl
  unfold growthComparison; split
  · exact h 0
  · dsimp only; split
    · exact (h _).trans (growWhenDue_keepsPart _)
    · exact h _

/-! ### The commands -/

theorem outOfReset_keepsPart {s t : State} {f : State → State} (h : outOfReset s f = .next t) (k : KeepsPart s (f s)) :
    KeepsPart s t := by
  unfold outOfReset at h; cases h; split
  · exact .refl s
  · exact k

theorem answer_keepsPart {s u : State} (m : Instr) (h : KeepsPart (arrive m s) u) : KeepsPart s u :=
  (arrive_frame m s).keepsPart.trans h

/-- Every command that does not move the part leaves it, the Peer Table, the map and the receiver as they were. -/
theorem exec_keepsPart {c : Instr} {s t : State} (hc : movesPart c = false) (h : exec c s = .next t) : KeepsPart s t := by
  cases c <;> try cases hc
  case announcementTimerExpiry b =>
    simp only [exec] at h; unfold execAnnouncementTimerExpiry at h
    refine outOfReset_keepsPart h ?_; split
    · exact settle_keepsPart (((((KeepsPart.trans (t := { s with chan := s.chan.drawPeriod }) (by constructor <;> rfl)
        (sampleCarrier_keepsPart _ _)).trans (buildFrame_keepsPart _)).trans (restoreAllowance_keepsPart _)).trans
        (attemptSend_keepsPart _)))
    · exact .refl s
  case deferralBackoffEnd b =>
    simp only [exec] at h; unfold execDeferralBackoffEnd at h
    refine outOfReset_keepsPart h ?_; split
    · exact (KeepsPart.trans (by constructor <;> rfl) (sampleCarrier_keepsPart _ _)).trans (attemptSend_keepsPart _)
    · exact .refl s
  case urgentBackoffEnd b =>
    simp only [exec] at h; unfold execUrgentBackoffEnd at h
    refine outOfReset_keepsPart h ?_; split
    · exact settle_keepsPart (((KeepsPart.trans (t := { s with chan := { s.chan with urgentBackoff := none } })
        (by constructor <;> rfl) (sampleCarrier_keepsPart _ _)).trans (buildFrame_keepsPart _)).trans
        (attemptSend_keepsPart _))
    · exact .refl s
  case drainEnd r =>
    simp only [exec] at h; unfold execDrainEnd at h
    exact outOfReset_keepsPart h (settleFrom_keepsPart _ (endDrain_frame _ _).keepsPart)
  case measSampleValid v =>
    simp only [exec] at h; unfold execMeasSampleValid at h
    refine outOfReset_keepsPart h ?_; split
    · split
      · exact scan_keepsPart _ _
      · exact .refl s
    · exact .refl s
  case dwellEnd =>
    simp only [exec] at h; unfold execDwellEnd at h
    refine outOfReset_keepsPart h ?_; split
    · split
      · exact settle_keepsPart (endSweep_keepsPart _ _)
      · exact settle_keepsPart (endSpot_keepsPart _ _)
      · exact (takeSample_keepsPart _ _ _).trans (scan_keepsPart _ _)
    · exact .refl s
  case noiseRecovered n =>
    simp only [exec] at h; unfold execNoiseRecovered at h
    exact outOfReset_keepsPart h (settle_keepsPart (recoverTile_keepsPart _ _))
  case roomRequest r g w =>
    simp only [exec] at h; unfold execRoomRequest at h
    refine outOfReset_keepsPart h (answer_keepsPart (.roomRequest r g w) ?_); dsimp only
    refine settleFrom_keepsPart _ (KeepsPart.trans ?_ (send_frame _ _).keepsPart); split
    · exact (topDownTrim_frame _ _).keepsPart
    · exact .refl _
  case roomAnswer r g a =>
    simp only [exec] at h; unfold execRoomAnswer at h
    refine outOfReset_keepsPart h (answer_keepsPart (.roomAnswer r g a) ?_); dsimp only; split
    · split
      · exact settle_keepsPart (takeRoomAnswer_frame _ _ _).keepsPart
      · exact .refl _
    · exact .refl _
  case commit r g x =>
    simp only [exec] at h; unfold execCommit at h
    refine outOfReset_keepsPart h (answer_keepsPart (.commit r g x) ?_); dsimp only; split
    · refine settleFrom_keepsPart _ (KeepsPart.trans (KeepsPart.trans ?_ (commitContention_frame _ _ _).keepsPart)
        (commitNoise_frame _ _ _).keepsPart)
      exact (takeCommit_frame _ _ _).keepsPart.trans (send_frame _ _).keepsPart
    · exact (send_frame _ _).keepsPart
  case commitAnswer r g a =>
    simp only [exec] at h; unfold execCommitAnswer at h
    refine outOfReset_keepsPart h (answer_keepsPart (.commitAnswer r g a) ?_); dsimp only; split
    · split
      · exact .refl _
      · exact settle_keepsPart (takeCommitAnswer_frame _ _ _).keepsPart
    · exact .refl _
  case lendRequest b bg l lg n =>
    simp only [exec] at h; unfold execLendRequest at h
    refine outOfReset_keepsPart h (answer_keepsPart (.lendRequest b bg l lg n) ?_); dsimp only; split
    · exact (lend_frame _ _ _ _ _ _).keepsPart.trans (send_frame _ _).keepsPart
    · exact (send_frame _ _).keepsPart
  case lendAnswer r g a =>
    simp only [exec] at h; unfold execLendAnswer at h
    refine outOfReset_keepsPart h (answer_keepsPart (.lendAnswer r g a) ?_); dsimp only; split
    · split
      · exact settle_keepsPart (setActive_frame _ _).keepsPart
      · exact settle_keepsPart (reenter_frame _ _).keepsPart
    · exact .refl _
  case placementOutcome r g o =>
    simp only [exec] at h; unfold execPlacementOutcome at h
    refine outOfReset_keepsPart h (answer_keepsPart (.placementOutcome r g o) ?_); dsimp only; split
    · exact (applyOutcome_frame _ _).keepsPart
    · exact .refl _
  case retryExpiry r =>
    simp only [exec] at h; unfold execRetryExpiry at h
    refine outOfReset_keepsPart h ?_; split
    · exact settle_keepsPart (expireRetry_frame _ _).keepsPart
    · exact .refl s
  case dataGrowthExpiry =>
    simp only [exec] at h; unfold execDataGrowthExpiry at h
    refine outOfReset_keepsPart h ?_; split
    · exact settle_keepsPart (KeepsPart.trans (by constructor <;> rfl) (growthComparison_keepsPart _))
    · exact .refl s
  case linkSelect =>
    simp only [exec] at h; unfold execLinkSelect at h
    cases h; dsimp only; split <;> constructor <;> rfl
  case linkDeselect =>
    simp only [exec] at h; unfold execLinkDeselect at h
    cases h; constructor <;> rfl
  case linkTimeout =>
    simp only [exec] at h; unfold execLinkTimeout at h
    refine outOfReset_keepsPart h ?_; split
    · exact KeepsPart.trans (t := { s with link := { s.link with state := .spent, timedOut := true } })
        (by constructor <;> rfl) (latch_frame _ _).keepsPart
    · exact .refl s
  case badCode b =>
    simp only [exec] at h; unfold execBadCode at h
    refine outOfReset_keepsPart h ?_; split
    · exact .refl s
    · rename_i k
      by_cases hb : b ≠ 0x30 ∧ b ≠ 0x31
      · exact transact_keepsPart _ s hb
      · have e : argCount b = some 0 := by
          have hb : b = 0x30 ∨ b = 0x31 := by by_contra hn; exact hb (not_or.mp hn)
          rcases hb with rfl | rfl <;> rfl
        have kc : s.link.state ≠ .code := fun kc => k (.inr ⟨kc, e⟩)
        have ka : s.link.state ≠ .args := fun ka => k (.inl ka)
        unfold transact; split
        · exact .refl s
        · exact absurd ‹_› ka
        · exact foldl_clockIn_keepsPart _ s kc
  case readStatus =>
    simp only [exec] at h; unfold execReadStatus at h
    exact outOfReset_keepsPart h (transact_keepsPart _ s (by decide))
  case ackAttn b =>
    simp only [exec] at h; unfold execAckAttn at h
    exact outOfReset_keepsPart h (transact_keepsPart _ s (by decide))
  case setData f d =>
    simp only [exec] at h; unfold execSetData at h
    exact outOfReset_keepsPart h (transact_keepsPart _ s (by decide))
  case openProgram n w =>
    simp only [exec] at h; unfold execOpenProgram at h
    exact outOfReset_keepsPart h (transact_keepsPart _ s (by decide))
  case closeProgram n =>
    simp only [exec] at h; unfold execCloseProgram at h
    exact outOfReset_keepsPart h (transact_keepsPart _ s (by decide))
  case openCall n =>
    simp only [exec] at h; unfold execOpenCall at h
    exact outOfReset_keepsPart h (transact_keepsPart _ s (by decide))
  case closeCall n =>
    simp only [exec] at h; unfold execCloseCall at h
    exact outOfReset_keepsPart h (transact_keepsPart _ s (by decide))
  case ackCallLine n =>
    simp only [exec] at h; unfold execAckCallLine at h
    exact outOfReset_keepsPart h (transact_keepsPart _ s (by decide))
  case readGrant k =>
    simp only [exec] at h; unfold execReadGrant at h
    exact outOfReset_keepsPart h (transact_keepsPart _ s (by decide))
  case readMap a n =>
    simp only [exec] at h; unfold execReadMap at h
    exact outOfReset_keepsPart h (transact_keepsPart _ s (by decide))
  case callLineAssert n =>
    simp only [exec] at h; unfold execCallLineAssert at h
    have k : KeepsPart s (setCallLevel n true s) := by constructor <;> rfl
    cases h; dsimp only; split
    · exact settle_keepsPart (k.trans (takeEdge_keepsPart _ _))
    · exact k
  case callLineDeassert n =>
    simp only [exec] at h; unfold execCallLineDeassert at h
    have k : KeepsPart s (setCallLevel n false s) := by constructor <;> rfl
    cases h; dsimp only; split
    · exact settle_keepsPart (k.trans (releaseLine_keepsPart _ _))
    · exact k
  case responseByteClockedOut =>
    simp only [exec] at h; unfold execResponseByteClockedOut at h
    refine outOfReset_keepsPart h ?_; split
    · constructor <;> rfl
    · exact .refl s

/-! ### The modulator and the service link -/

@[simp] theorem byteBits_length (b : Byte) : (byteBits b).length = 8 := by simp [byteBits]

theorem flatMap_byteBits_length (bs : List Byte) : (bs.flatMap byteBits).length = 8 * bs.length := by
  induction bs with
  | nil => rfl
  | cons b bs ih => simp only [List.flatMap_cons, List.length_append, byteBits_length, List.length_cons, ih]; omega

/-- A transmission carries one bit in each microsecond of its air time (R37). -/
theorem airBits_length (bs : List Byte) : (airBits bs).length = airTime bs := by
  rw [airBits, flatMap_byteBits_length, airTime]
  simp [preamble, syncWord]; omega

end Sys2Proof.Machine
end

