-- ==== Sys2Proof/Laws/Map.lean ====
section
/-! SUPPORT. Precedence is a strict total order on claims of distinct stations (R10), and every operation on a claimant list
keeps its form (R4). -/

namespace Sys2Proof.Machine

/-! ### Precedence -/

theorem beats_trans {a b c : Contender} (h : beats a b = true) (k : beats b c = true) : beats a c = true := by
  obtain ⟨ka, pa, na⟩ := a; obtain ⟨kb, pb, nb⟩ := b; obtain ⟨kc, pc, nc⟩ := c
  cases ka <;> cases kb <;> cases kc <;> simp [beats, rank] at h k ⊢ <;>
    cases pa <;> cases pb <;> cases pc <;> simp at h k ⊢ <;> omega

theorem beats_asymm {a b : Contender} (h : beats a b = true) : beats b a = false := by
  obtain ⟨ka, pa, na⟩ := a; obtain ⟨kb, pb, nb⟩ := b
  cases ka <;> cases kb <;> simp [beats, rank] at h ⊢ <;> cases pa <;> cases pb <;> simp at h ⊢ <;> omega

theorem beats_total {a b : Contender} (h : a.station ≠ b.station) (k : beats a b = false) : beats b a = true := by
  obtain ⟨ka, pa, na⟩ := a; obtain ⟨kb, pb, nb⟩ := b
  cases ka <;> cases kb <;> simp [beats, rank] at h k ⊢ <;> cases pa <;> cases pb <;> simp at h k ⊢ <;> omega

/-! ### Claimant lists -/

/-- One entry stands before another: it is the stronger, and of another station. -/
abbrev Before (a b : ClaimantEntry) : Prop := entryBeats a b = true ∧ a.station ≠ b.station

theorem placeEntry_perm (e : ClaimantEntry) (l : List ClaimantEntry) : (placeEntry e l).Perm (e :: l) := by
  induction l with
  | nil => exact .refl _
  | cons h t ih =>
    unfold placeEntry; split
    · exact (ih.cons h).trans (.swap _ _ _)
    · exact .refl _

/-- Placing an entry of a new station keeps the order. -/
theorem placeEntry_sorted {e : ClaimantEntry} {l : List ClaimantEntry} (hl : l.Pairwise Before)
    (he : ∀ h ∈ l, h.station ≠ e.station) : (placeEntry e l).Pairwise Before := by
  induction l with
  | nil => exact List.pairwise_singleton _ _
  | cons h t ih =>
    rw [List.pairwise_cons] at hl
    unfold placeEntry; split
    · rename_i hb
      rw [List.pairwise_cons]
      refine ⟨fun x hx => ?_, ih hl.2 (fun y hy => he y (.tail _ hy))⟩
      rcases List.mem_cons.mp ((placeEntry_perm e t).subset hx) with rfl | hx
      · exact ⟨hb, he h (.head _)⟩
      · exact hl.1 x hx
    · rename_i hb
      have hb' : entryBeats e h = true := beats_total (he h (.head _)) (Bool.eq_false_iff.mpr hb)
      rw [List.pairwise_cons, List.pairwise_cons]
      refine ⟨fun x hx => ?_, hl⟩
      rcases List.mem_cons.mp hx with rfl | hx
      · exact ⟨hb', (he _ (.head _)).symm⟩
      · exact ⟨beats_trans hb' (hl.1 x hx).1, (he x (.tail _ hx)).symm⟩

theorem removeStation_law {own : Option Nat} {l : List ClaimantEntry} (p : Nat) (h : ClaimantListLaw own l) :
    ClaimantListLaw own (removeStation p l) :=
  ⟨(List.length_filter_le _ _).trans h.1, h.2.1.filter _, fun e he => h.2.2 e (List.mem_filter.mp he).1⟩

theorem removeStation_absent (p : Nat) (l : List ClaimantEntry) : ∀ e ∈ removeStation p l, e.station ≠ p :=
  fun _ he => by simpa using (List.mem_filter.mp he).2

theorem removeStation_length {e : ClaimantEntry} {l : List ClaimantEntry} (h : e ∈ l) :
    (removeStation e.station l).length < l.length := by
  unfold removeStation
  exact List.length_filter_lt_length_iff_exists.mpr ⟨e, h, by simp⟩

theorem placed_law {own : Option Nat} {e : ClaimantEntry} {l : List ClaimantEntry} {p : Nat} (hp : e.station = p)
    (h : ClaimantListLaw own l) (ho : own ≠ some e.station) (hl : ∃ x ∈ l, x.station = p) :
    ClaimantListLaw own (placeEntry e (removeStation p l)) := by
  have k := removeStation_law p h
  obtain ⟨x, hx, rfl⟩ := hl
  refine ⟨?_, placeEntry_sorted k.2.1 (fun y hy => hp ▸ removeStation_absent _ l y hy), fun y hy => ?_⟩
  · rw [(placeEntry_perm _ _).length_eq, List.length_cons]
    exact (removeStation_length hx).trans_le h.1
  · rcases List.mem_cons.mp ((placeEntry_perm _ _).subset hy) with rfl | hy
    · exact ho
    · exact k.2.2 y hy

/-- Insertion keeps the form of a claimant list (R4, R5). -/
theorem insertEntry_law {own : Option Nat} {e : ClaimantEntry} {l : List ClaimantEntry} (h : ClaimantListLaw own l)
    (ho : own ≠ some e.station) : ClaimantListLaw own (insertEntry e l) := by
  unfold insertEntry; split
  · rename_i old hf
    have hm := List.mem_of_find?_eq_some hf
    have hs : old.station = e.station := by simpa using List.find?_some hf
    refine placed_law ?_ h ?_ ⟨old, hm, hs⟩
    · split <;> [exact hs; rfl]
    · split <;> [exact h.2.2 _ hm; exact ho]
  · rename_i hf
    have hn : ∀ x ∈ l, x.station ≠ e.station := fun x hx => by simpa using List.find?_eq_none.mp hf x hx
    refine ⟨List.length_take_le _ _, (placeEntry_sorted h.2.1 hn).sublist (List.take_sublist _ _), fun x hx => ?_⟩
    rcases List.mem_cons.mp ((placeEntry_perm _ _).subset (List.mem_of_mem_take hx)) with rfl | hx
    · exact ho
    · exact h.2.2 x hx

/-- A change of effective phase keeps the form of a claimant list (R4, R8). -/
theorem weakenEntry_law {own : Option Nat} {l : List ClaimantEntry} (p : Nat) (h : ClaimantListLaw own l) :
    ClaimantListLaw own (weakenEntry p l) := by
  unfold weakenEntry weakenable; split
  · rename_i e hf
    have hm := List.mem_of_find?_eq_some hf
    have hs : e.station = p := by have := List.find?_some hf; simp_all
    exact placed_law hs h (h.2.2 e hm) ⟨e, hm, hs⟩
  · exact h

/-! ### The tile records -/

/-- The claimant lists have their form on every tile. -/
abbrev ListsLaw (own : Option Nat) (tiles : List TileRecord) : Prop :=
  ∀ x ∈ tiles, ClaimantListLaw own x.claimants

theorem changeClaimants_law {own : Option Nat} {f : List ClaimantEntry → List ClaimantEntry} {tiles : List TileRecord}
    (t : Nat) (hf : ∀ l, ClaimantListLaw own l → ClaimantListLaw own (f l)) (h : ListsLaw own tiles) :
    ListsLaw own (changeClaimants t f tiles) := by
  intro x hx
  obtain ⟨n, hn, rfl⟩ := List.mem_iff_getElem.mp hx
  have hn' : n < tiles.length := by simpa [changeClaimants] using hn
  simp only [changeClaimants, List.getElem_modify]
  split
  · exact hf _ (h _ (List.getElem_mem hn'))
  · exact h _ (List.getElem_mem hn')

theorem removeClaims_law {own : Option Nat} (p : Nat) (runs : List HeardRun) {tiles : List TileRecord}
    (h : ListsLaw own tiles) : ListsLaw own (removeClaims p runs tiles) := by
  unfold removeClaims
  generalize runs.flatMap (fun h => runTiles h.run) = l
  induction l generalizing tiles with
  | nil => exact h
  | cons t l ih => exact ih (changeClaimants_law t (fun _ => removeStation_law p) h)

/-- A state whose claimant lists have their form. -/
abbrev MapLaw (s : State) : Prop := ListsLaw (ownId s) s.tiles

theorem mapLaw_of {s t : State} (h : MapLaw s) (hl : t.loader = s.loader) (ht : t.tiles = s.tiles) : MapLaw t := by
  unfold MapLaw ownId; rw [hl, ht]; exact h

theorem contend_law {t : Nat} {e : ClaimantEntry} {s : State} (h : MapLaw s) : MapLaw (contend t e s) :=
  mapLaw_of h (contend_frame t e s).loader (contend_frame t e s).tiles

theorem presentEntry_law {e : ClaimantEntry} {s : State} {t : Nat} (h : MapLaw s) : MapLaw (presentEntry e s t) := by
  unfold presentEntry; split
  · exact h
  · rename_i ho; exact contend_law (changeClaimants_law t (fun _ k => insertEntry_law k ho) h)

theorem weakenOn_law {p : Nat} {s : State} {t : Nat} (h : MapLaw s) : MapLaw (weakenOn p s t) := by
  unfold weakenOn; split
  · exact contend_law (changeClaimants_law t (fun _ k => weakenEntry_law p k) h)
  · exact h

theorem foldl_keeps {α : Type} {P : State → Prop} {f : State → α → State} (h : ∀ s a, P s → P (f s a)) (l : List α) :
    ∀ s, P s → P (l.foldl f s) := by
  induction l with
  | nil => exact fun _ hs => hs
  | cons a l ih => exact fun s hs => ih _ (h s a hs)

theorem replaceClaims_law {p : Nat} {old new : List HeardRun} {s : State} (h : MapLaw s) :
    MapLaw (replaceClaims p old new s) := by
  unfold replaceClaims
  refine foldl_keeps (P := MapLaw) (fun s r hs => ?_) new _ (removeClaims_law p old h)
  exact foldl_keeps (P := MapLaw) (fun s t hs => presentEntry_law hs) _ _ hs

theorem deletePeer_law {x : PeerRecord} {s : State} (h : MapLaw s) : MapLaw (deletePeer x s) :=
  removeClaims_law x.station x.runs h

/-- The application of a frame keeps the form of every claimant list (R4). -/
theorem applyFrame_law {f : ReceivedFrame} {s : State} (h : MapLaw s) : MapLaw (applyFrame f s) := by
  unfold applyFrame newPeerFrame; split
  · split
    · exact deletePeer_law h
    · exact replaceClaims_law h
  · split
    · exact h
    · split
      · exact replaceClaims_law h
      · split
        · exact replaceClaims_law (deletePeer_law h)
        · exact h

theorem turnStale_law {p : Nat} {s : State} (h : MapLaw s) : MapLaw (turnStale p s) := by
  unfold turnStale; split
  · split
    · exact foldl_keeps (P := MapLaw) (fun s t hs => weakenOn_law hs) _ _ h
    · exact h
  · exact h

theorem turnGone_law {p : Nat} {s : State} (h : MapLaw s) : MapLaw (turnGone p s) := by
  unfold turnGone; split
  · split
    · exact deletePeer_law h
    · exact h
  · exact h

/-- A tick of the Peer Table keeps the form of every claimant list (R4). -/
theorem agePeers_law {s : State} (h : MapLaw s) : MapLaw (agePeers s) := by
  refine foldl_keeps (P := MapLaw) (fun s p hs => ?_) _ s h
  unfold agePeer; split
  · exact turnGone_law (turnStale_law hs)
  · exact hs

end Sys2Proof.Machine
end

