-- ==== Sys2Proof/Laws/Part.lean ====
section
/-! SUPPORT. What the changes of part state and the sent notice leave as they were, and which part state they lead to. -/

namespace Sys2Proof.Machine

/-- The Peer Table, the map, the receiver, the tick, the configuration and the queue are as they were. -/
structure KeepsMap (s t : State) : Prop where
  config : t.loader.config = s.loader.config
  inReset : t.loader.inReset = s.loader.inReset
  reading : t.loader.reading = s.loader.reading
  clock : t.clock = s.clock
  peers : t.peers = s.peers
  tiles : t.tiles = s.tiles
  reception : t.chan.reception = s.chan.reception
  dropped : t.chan.dropped = s.chan.dropped
  pending : t.pending = s.pending

theorem KeepsMap.refl (s : State) : KeepsMap s s := by constructor <;> rfl

theorem KeepsMap.trans {s t u : State} (h : KeepsMap s t) (k : KeepsMap t u) : KeepsMap s u := by
  obtain ⟨⟩ := h; obtain ⟨⟩ := k; constructor <;> simp only [*]

theorem KeepsPart.keepsMap {s t : State} (h : KeepsPart s t) : KeepsMap s t := by
  obtain ⟨h1, _⟩ := h; constructor <;> first | assumption | rw [h1]

/-! ### Changes of part state -/

theorem standDown_keepsMap (s : State) : KeepsMap s (standDown s) := by constructor <;> rfl
theorem standDown_part (s : State) : (standDown s).loader = s.loader := rfl

theorem enterFault_keepsMap (c : FaultCause) (s : State) : KeepsMap s (enterFault c s) := by constructor <;> rfl
theorem enterFault_loader (c : FaultCause) (s : State) :
    (enterFault c s).loader = { s.loader with part := .fault, faultCause := c } := rfl

theorem enterLeaving_keepsMap (s : State) : KeepsMap s (enterLeaving s) := by
  constructor <;> try rfl
  all_goals (unfold enterLeaving; dsimp only; split <;> rfl)
theorem enterLeaving_loader (s : State) :
    (enterLeaving s).loader = { s.loader with part := .leaving, leavingCount := 0 } := rfl

theorem enterQuiet_keepsMap (s : State) : KeepsMap s (enterQuiet s) := by constructor <;> rfl

theorem enterWarmListen_keepsMap (s : State) : KeepsMap s (enterWarmListen s) := by constructor <;> rfl

theorem takeLevel_keepsPart (s : State) (n : Nat) : KeepsPart s (takeLevel s n) := by
  unfold takeLevel; split
  · exact takeEdge_keepsPart _ _
  · exact .refl s

theorem queueSeeking_keepsPart (s : State) (l : List Nat) :
    KeepsPart s (l.foldl (fun w r => queuePlacement r w) s) :=
  foldl_frame KeepsPart .refl .trans _ (fun s r => (queuePlacement_frame r s).keepsPart) l s

/-- The state with the timers of ACTIVE started, before the records are queued. -/
def startActive (s : State) : State :=
  { s with
    loader := { s.loader with part := .active }
    chan := { s.chan.drawPeriod with allowance := .available }
    growth := ⟨some Config.growthPeriod, 0⟩ }

theorem enterActive_keepsPart (s : State) : KeepsPart (startActive s) (enterActive s) :=
  (queueSeeking_keepsPart (startActive s) _).trans (foldl_frame KeepsPart .refl .trans _ takeLevel_keepsPart _ _)

theorem enterActive_keepsMap (s : State) : KeepsMap s (enterActive s) :=
  KeepsMap.trans (t := startActive s) (by constructor <;> rfl) (enterActive_keepsPart s).keepsMap

theorem enterActive_loader (s : State) : (enterActive s).loader = { s.loader with part := .active } :=
  (enterActive_keepsPart s).loader

theorem endWarmListen_keepsMap (s : State) : KeepsMap s (endWarmListen s) := by
  unfold endWarmListen; split
  · exact enterActive_keepsMap s
  · exact .refl s

theorem endWarmListen_part (s : State) : (endWarmListen s).loader.part = s.loader.part ∨
    (s.loader.part = .warmListen ∧ (endWarmListen s).loader.part = .active) := by
  unfold endWarmListen; split
  · rename_i h; exact .inr ⟨h.1, by rw [enterActive_loader]⟩
  · exact .inl rfl

theorem completeLeaving_keepsMap (s : State) : KeepsMap s (completeLeaving s) := by
  unfold completeLeaving; split
  · exact enterQuiet_keepsMap s
  · exact .refl s

theorem countWarmTick_keepsMap (s : State) : KeepsMap s (countWarmTick s) := by
  unfold countWarmTick; split
  · constructor <;> rfl
  · exact .refl s

theorem countWarmTick_part (s : State) : (countWarmTick s).loader.part = s.loader.part := by
  unfold countWarmTick; split <;> rfl

/-- A sent notice acts on the Claim Table, or counts a LEAVING frame. -/
theorem giveSentNotice_keepsMap (f : Frame) (s : State) : KeepsMap s (giveSentNotice f s) := by
  unfold giveSentNotice; split
  · refine KeepsMap.trans ?_ (completeLeaving_keepsMap _)
    split
    · constructor <;> rfl
    · exact .refl s
  · exact (sentNotice_frame _ s).keepsPart.keepsMap

/-- A sent notice leaves the part state, or takes LEAVING to QUIET. -/
theorem giveSentNotice_part (f : Frame) (s : State) : (giveSentNotice f s).loader.part = s.loader.part ∨
    (s.loader.part = .leaving ∧ (giveSentNotice f s).loader.part = .quiet) := by
  unfold giveSentNotice completeLeaving; split
  · split
    · split
      · exact .inr ⟨‹_›, rfl⟩
      · exact .inl rfl
    · split
      · rename_i h k; exact absurd k.1 h
      · exact .inl rfl
  · exact .inl (by rw [(sentNotice_frame _ s).loader])

end Sys2Proof.Machine
end

