-- ==== Sys2Proof/Laws/State.lean ====
section
/-! SUPPORT. What each update of State does to each field: one lemma for each, true by rfl, so that no later proof unfolds a
record update. -/

namespace Sys2Proof.Machine

variable (s : State)

/-! ### latch -/

@[simp] theorem latch_loader (c : Cause) : (latch c s).loader = s.loader := rfl
@[simp] theorem latch_clock (c : Cause) : (latch c s).clock = s.clock := rfl
@[simp] theorem latch_chan (c : Cause) : (latch c s).chan = s.chan := rfl
@[simp] theorem latch_peers (c : Cause) : (latch c s).peers = s.peers := rfl
@[simp] theorem latch_tiles (c : Cause) : (latch c s).tiles = s.tiles := rfl
@[simp] theorem latch_scan (c : Cause) : (latch c s).scan = s.scan := rfl
@[simp] theorem latch_claims (c : Cause) : (latch c s).claims = s.claims := rfl
@[simp] theorem latch_growth (c : Cause) : (latch c s).growth = s.growth := rfl
@[simp] theorem latch_grants (c : Cause) : (latch c s).grants = s.grants := rfl
@[simp] theorem latch_engine (c : Cause) : (latch c s).engine = s.engine := rfl
@[simp] theorem latch_loans (c : Cause) : (latch c s).loans = s.loans := rfl
@[simp] theorem latch_link (c : Cause) : (latch c s).link = s.link := rfl
@[simp] theorem latch_demand (c : Cause) : (latch c s).demand = s.demand := rfl
@[simp] theorem latch_lines (c : Cause) : (latch c s).lines = s.lines := rfl
@[simp] theorem latch_attn (c : Cause) : (latch c s).attn = { s.attn with latched := s.attn.latched ||| c.bit } := rfl
@[simp] theorem latch_pins (c : Cause) : (latch c s).pins = s.pins := rfl
@[simp] theorem latch_outbox (c : Cause) : (latch c s).outbox = s.outbox := rfl
@[simp] theorem latch_pending (c : Cause) : (latch c s).pending = s.pending := rfl

/-! ### unlatch -/

@[simp] theorem unlatch_loader (b : Byte) : (unlatch b s).loader = s.loader := rfl
@[simp] theorem unlatch_clock (b : Byte) : (unlatch b s).clock = s.clock := rfl
@[simp] theorem unlatch_chan (b : Byte) : (unlatch b s).chan = s.chan := rfl
@[simp] theorem unlatch_peers (b : Byte) : (unlatch b s).peers = s.peers := rfl
@[simp] theorem unlatch_tiles (b : Byte) : (unlatch b s).tiles = s.tiles := rfl
@[simp] theorem unlatch_scan (b : Byte) : (unlatch b s).scan = s.scan := rfl
@[simp] theorem unlatch_claims (b : Byte) : (unlatch b s).claims = s.claims := rfl
@[simp] theorem unlatch_growth (b : Byte) : (unlatch b s).growth = s.growth := rfl
@[simp] theorem unlatch_grants (b : Byte) : (unlatch b s).grants = s.grants := rfl
@[simp] theorem unlatch_engine (b : Byte) : (unlatch b s).engine = s.engine := rfl
@[simp] theorem unlatch_loans (b : Byte) : (unlatch b s).loans = s.loans := rfl
@[simp] theorem unlatch_link (b : Byte) : (unlatch b s).link = s.link := rfl
@[simp] theorem unlatch_demand (b : Byte) : (unlatch b s).demand = s.demand := rfl
@[simp] theorem unlatch_lines (b : Byte) : (unlatch b s).lines = s.lines := rfl
@[simp] theorem unlatch_attn (b : Byte) : (unlatch b s).attn = { s.attn with latched := s.attn.latched &&& ~~~b } := rfl
@[simp] theorem unlatch_pins (b : Byte) : (unlatch b s).pins = s.pins := rfl
@[simp] theorem unlatch_outbox (b : Byte) : (unlatch b s).outbox = s.outbox := rfl
@[simp] theorem unlatch_pending (b : Byte) : (unlatch b s).pending = s.pending := rfl

/-! ### setClaim -/

@[simp] theorem setClaim_loader (r : Nat) (c : ClaimRecord) : (setClaim r c s).loader = s.loader := rfl
@[simp] theorem setClaim_clock (r : Nat) (c : ClaimRecord) : (setClaim r c s).clock = s.clock := rfl
@[simp] theorem setClaim_chan (r : Nat) (c : ClaimRecord) : (setClaim r c s).chan = s.chan := rfl
@[simp] theorem setClaim_peers (r : Nat) (c : ClaimRecord) : (setClaim r c s).peers = s.peers := rfl
@[simp] theorem setClaim_tiles (r : Nat) (c : ClaimRecord) : (setClaim r c s).tiles = s.tiles := rfl
@[simp] theorem setClaim_scan (r : Nat) (c : ClaimRecord) : (setClaim r c s).scan = s.scan := rfl
@[simp] theorem setClaim_claims (r : Nat) (c : ClaimRecord) : (setClaim r c s).claims = s.claims.set r c := rfl
@[simp] theorem setClaim_growth (r : Nat) (c : ClaimRecord) : (setClaim r c s).growth = s.growth := rfl
@[simp] theorem setClaim_grants (r : Nat) (c : ClaimRecord) : (setClaim r c s).grants = s.grants := rfl
@[simp] theorem setClaim_engine (r : Nat) (c : ClaimRecord) : (setClaim r c s).engine = s.engine := rfl
@[simp] theorem setClaim_loans (r : Nat) (c : ClaimRecord) : (setClaim r c s).loans = s.loans := rfl
@[simp] theorem setClaim_link (r : Nat) (c : ClaimRecord) : (setClaim r c s).link = s.link := rfl
@[simp] theorem setClaim_demand (r : Nat) (c : ClaimRecord) : (setClaim r c s).demand = s.demand := rfl
@[simp] theorem setClaim_lines (r : Nat) (c : ClaimRecord) : (setClaim r c s).lines = s.lines := rfl
@[simp] theorem setClaim_attn (r : Nat) (c : ClaimRecord) : (setClaim r c s).attn = s.attn := rfl
@[simp] theorem setClaim_pins (r : Nat) (c : ClaimRecord) : (setClaim r c s).pins = s.pins := rfl
@[simp] theorem setClaim_outbox (r : Nat) (c : ClaimRecord) : (setClaim r c s).outbox = s.outbox := rfl
@[simp] theorem setClaim_pending (r : Nat) (c : ClaimRecord) : (setClaim r c s).pending = s.pending := rfl

/-! ### send -/

@[simp] theorem send_loader (m : Instr) : (send m s).loader = s.loader := rfl
@[simp] theorem send_clock (m : Instr) : (send m s).clock = s.clock := rfl
@[simp] theorem send_chan (m : Instr) : (send m s).chan = s.chan := rfl
@[simp] theorem send_peers (m : Instr) : (send m s).peers = s.peers := rfl
@[simp] theorem send_tiles (m : Instr) : (send m s).tiles = s.tiles := rfl
@[simp] theorem send_scan (m : Instr) : (send m s).scan = s.scan := rfl
@[simp] theorem send_claims (m : Instr) : (send m s).claims = s.claims := rfl
@[simp] theorem send_growth (m : Instr) : (send m s).growth = s.growth := rfl
@[simp] theorem send_grants (m : Instr) : (send m s).grants = s.grants := rfl
@[simp] theorem send_engine (m : Instr) : (send m s).engine = s.engine := rfl
@[simp] theorem send_loans (m : Instr) : (send m s).loans = s.loans := rfl
@[simp] theorem send_link (m : Instr) : (send m s).link = s.link := rfl
@[simp] theorem send_demand (m : Instr) : (send m s).demand = s.demand := rfl
@[simp] theorem send_lines (m : Instr) : (send m s).lines = s.lines := rfl
@[simp] theorem send_attn (m : Instr) : (send m s).attn = s.attn := rfl
@[simp] theorem send_pins (m : Instr) : (send m s).pins = s.pins := rfl
@[simp] theorem send_outbox (m : Instr) : (send m s).outbox = s.outbox ++ [m] := rfl
@[simp] theorem send_pending (m : Instr) : (send m s).pending = s.pending := rfl

/-! ### arrive -/

@[simp] theorem arrive_loader (m : Instr) : (arrive m s).loader = s.loader := rfl
@[simp] theorem arrive_clock (m : Instr) : (arrive m s).clock = s.clock := rfl
@[simp] theorem arrive_chan (m : Instr) : (arrive m s).chan = s.chan := rfl
@[simp] theorem arrive_peers (m : Instr) : (arrive m s).peers = s.peers := rfl
@[simp] theorem arrive_tiles (m : Instr) : (arrive m s).tiles = s.tiles := rfl
@[simp] theorem arrive_scan (m : Instr) : (arrive m s).scan = s.scan := rfl
@[simp] theorem arrive_claims (m : Instr) : (arrive m s).claims = s.claims := rfl
@[simp] theorem arrive_growth (m : Instr) : (arrive m s).growth = s.growth := rfl
@[simp] theorem arrive_grants (m : Instr) : (arrive m s).grants = s.grants := rfl
@[simp] theorem arrive_engine (m : Instr) : (arrive m s).engine = s.engine := rfl
@[simp] theorem arrive_loans (m : Instr) : (arrive m s).loans = s.loans := rfl
@[simp] theorem arrive_link (m : Instr) : (arrive m s).link = s.link := rfl
@[simp] theorem arrive_demand (m : Instr) : (arrive m s).demand = s.demand := rfl
@[simp] theorem arrive_lines (m : Instr) : (arrive m s).lines = s.lines := rfl
@[simp] theorem arrive_attn (m : Instr) : (arrive m s).attn = s.attn := rfl
@[simp] theorem arrive_pins (m : Instr) : (arrive m s).pins = s.pins := rfl
@[simp] theorem arrive_outbox (m : Instr) : (arrive m s).outbox = s.outbox.erase m := rfl
@[simp] theorem arrive_pending (m : Instr) : (arrive m s).pending = s.pending := rfl

/-! ### urgentRequest -/

@[simp] theorem urgentRequest_loader : (urgentRequest s).loader = s.loader := rfl
@[simp] theorem urgentRequest_clock : (urgentRequest s).clock = s.clock := rfl
@[simp] theorem urgentRequest_chan : (urgentRequest s).chan = if isActive s then s.chan.takeUrgent else s.chan := rfl
@[simp] theorem urgentRequest_peers : (urgentRequest s).peers = s.peers := rfl
@[simp] theorem urgentRequest_tiles : (urgentRequest s).tiles = s.tiles := rfl
@[simp] theorem urgentRequest_scan : (urgentRequest s).scan = s.scan := rfl
@[simp] theorem urgentRequest_claims : (urgentRequest s).claims = s.claims := rfl
@[simp] theorem urgentRequest_growth : (urgentRequest s).growth = s.growth := rfl
@[simp] theorem urgentRequest_grants : (urgentRequest s).grants = s.grants := rfl
@[simp] theorem urgentRequest_engine : (urgentRequest s).engine = s.engine := rfl
@[simp] theorem urgentRequest_loans : (urgentRequest s).loans = s.loans := rfl
@[simp] theorem urgentRequest_link : (urgentRequest s).link = s.link := rfl
@[simp] theorem urgentRequest_demand : (urgentRequest s).demand = s.demand := rfl
@[simp] theorem urgentRequest_lines : (urgentRequest s).lines = s.lines := rfl
@[simp] theorem urgentRequest_attn : (urgentRequest s).attn = s.attn := rfl
@[simp] theorem urgentRequest_pins : (urgentRequest s).pins = s.pins := rfl
@[simp] theorem urgentRequest_outbox : (urgentRequest s).outbox = s.outbox := rfl
@[simp] theorem urgentRequest_pending : (urgentRequest s).pending = s.pending := rfl

/-! ### takeUpIf -/

@[simp] theorem takeUpIf_loader (b : Bool) : (takeUpIf b s).loader = s.loader := rfl
@[simp] theorem takeUpIf_clock (b : Bool) : (takeUpIf b s).clock = s.clock := rfl
@[simp] theorem takeUpIf_chan (b : Bool) : (takeUpIf b s).chan = s.chan := rfl
@[simp] theorem takeUpIf_peers (b : Bool) : (takeUpIf b s).peers = s.peers := rfl
@[simp] theorem takeUpIf_tiles (b : Bool) : (takeUpIf b s).tiles = s.tiles := rfl
@[simp] theorem takeUpIf_scan (b : Bool) : (takeUpIf b s).scan = s.scan := rfl
@[simp] theorem takeUpIf_claims (b : Bool) : (takeUpIf b s).claims = s.claims := rfl
@[simp] theorem takeUpIf_growth (b : Bool) : (takeUpIf b s).growth = s.growth := rfl
@[simp] theorem takeUpIf_grants (b : Bool) : (takeUpIf b s).grants = s.grants := rfl
@[simp] theorem takeUpIf_loans (b : Bool) : (takeUpIf b s).loans = s.loans := rfl
@[simp] theorem takeUpIf_link (b : Bool) : (takeUpIf b s).link = s.link := rfl
@[simp] theorem takeUpIf_demand (b : Bool) : (takeUpIf b s).demand = s.demand := rfl
@[simp] theorem takeUpIf_lines (b : Bool) : (takeUpIf b s).lines = s.lines := rfl
@[simp] theorem takeUpIf_attn (b : Bool) : (takeUpIf b s).attn = s.attn := rfl
@[simp] theorem takeUpIf_pins (b : Bool) : (takeUpIf b s).pins = s.pins := rfl
@[simp] theorem takeUpIf_pending (b : Bool) : (takeUpIf b s).pending = s.pending := rfl

/-! ### queuePlacement -/

@[simp] theorem queuePlacement_loader (r : Nat) : (queuePlacement r s).loader = s.loader := rfl
@[simp] theorem queuePlacement_clock (r : Nat) : (queuePlacement r s).clock = s.clock := rfl
@[simp] theorem queuePlacement_chan (r : Nat) : (queuePlacement r s).chan = s.chan := rfl
@[simp] theorem queuePlacement_peers (r : Nat) : (queuePlacement r s).peers = s.peers := rfl
@[simp] theorem queuePlacement_tiles (r : Nat) : (queuePlacement r s).tiles = s.tiles := rfl
@[simp] theorem queuePlacement_claims (r : Nat) : (queuePlacement r s).claims = s.claims := rfl
@[simp] theorem queuePlacement_growth (r : Nat) : (queuePlacement r s).growth = s.growth := rfl
@[simp] theorem queuePlacement_grants (r : Nat) : (queuePlacement r s).grants = s.grants := rfl
@[simp] theorem queuePlacement_loans (r : Nat) : (queuePlacement r s).loans = s.loans := rfl
@[simp] theorem queuePlacement_link (r : Nat) : (queuePlacement r s).link = s.link := rfl
@[simp] theorem queuePlacement_demand (r : Nat) : (queuePlacement r s).demand = s.demand := rfl
@[simp] theorem queuePlacement_lines (r : Nat) : (queuePlacement r s).lines = s.lines := rfl
@[simp] theorem queuePlacement_attn (r : Nat) : (queuePlacement r s).attn = s.attn := rfl
@[simp] theorem queuePlacement_pins (r : Nat) : (queuePlacement r s).pins = s.pins := rfl
@[simp] theorem queuePlacement_outbox (r : Nat) : (queuePlacement r s).outbox = s.outbox := rfl
@[simp] theorem queuePlacement_pending (r : Nat) : (queuePlacement r s).pending = s.pending := rfl

/-! ### requestPlacement -/

@[simp] theorem requestPlacement_loader (r : Nat) : (requestPlacement r s).loader = s.loader := rfl
@[simp] theorem requestPlacement_clock (r : Nat) : (requestPlacement r s).clock = s.clock := rfl
@[simp] theorem requestPlacement_chan (r : Nat) : (requestPlacement r s).chan = s.chan := rfl
@[simp] theorem requestPlacement_peers (r : Nat) : (requestPlacement r s).peers = s.peers := rfl
@[simp] theorem requestPlacement_tiles (r : Nat) : (requestPlacement r s).tiles = s.tiles := rfl
@[simp] theorem requestPlacement_claims (r : Nat) : (requestPlacement r s).claims = s.claims := rfl
@[simp] theorem requestPlacement_growth (r : Nat) : (requestPlacement r s).growth = s.growth := rfl
@[simp] theorem requestPlacement_grants (r : Nat) : (requestPlacement r s).grants = s.grants := rfl
@[simp] theorem requestPlacement_loans (r : Nat) : (requestPlacement r s).loans = s.loans := rfl
@[simp] theorem requestPlacement_link (r : Nat) : (requestPlacement r s).link = s.link := rfl
@[simp] theorem requestPlacement_demand (r : Nat) : (requestPlacement r s).demand = s.demand := rfl
@[simp] theorem requestPlacement_lines (r : Nat) : (requestPlacement r s).lines = s.lines := rfl
@[simp] theorem requestPlacement_attn (r : Nat) : (requestPlacement r s).attn = s.attn := rfl
@[simp] theorem requestPlacement_pins (r : Nat) : (requestPlacement r s).pins = s.pins := rfl
@[simp] theorem requestPlacement_pending (r : Nat) : (requestPlacement r s).pending = s.pending := rfl

/-! ### discardPlacement -/

@[simp] theorem discardPlacement_loader (r : Nat) : (discardPlacement r s).loader = s.loader := rfl
@[simp] theorem discardPlacement_clock (r : Nat) : (discardPlacement r s).clock = s.clock := rfl
@[simp] theorem discardPlacement_chan (r : Nat) : (discardPlacement r s).chan = s.chan := rfl
@[simp] theorem discardPlacement_peers (r : Nat) : (discardPlacement r s).peers = s.peers := rfl
@[simp] theorem discardPlacement_tiles (r : Nat) : (discardPlacement r s).tiles = s.tiles := rfl
@[simp] theorem discardPlacement_claims (r : Nat) : (discardPlacement r s).claims = s.claims := rfl
@[simp] theorem discardPlacement_growth (r : Nat) : (discardPlacement r s).growth = s.growth := rfl
@[simp] theorem discardPlacement_grants (r : Nat) : (discardPlacement r s).grants = s.grants := rfl
@[simp] theorem discardPlacement_loans (r : Nat) : (discardPlacement r s).loans = s.loans := rfl
@[simp] theorem discardPlacement_link (r : Nat) : (discardPlacement r s).link = s.link := rfl
@[simp] theorem discardPlacement_demand (r : Nat) : (discardPlacement r s).demand = s.demand := rfl
@[simp] theorem discardPlacement_lines (r : Nat) : (discardPlacement r s).lines = s.lines := rfl
@[simp] theorem discardPlacement_attn (r : Nat) : (discardPlacement r s).attn = s.attn := rfl
@[simp] theorem discardPlacement_pins (r : Nat) : (discardPlacement r s).pins = s.pins := rfl
@[simp] theorem discardPlacement_outbox (r : Nat) : (discardPlacement r s).outbox = s.outbox := rfl
@[simp] theorem discardPlacement_pending (r : Nat) : (discardPlacement r s).pending = s.pending := rfl

/-! ### cancel -/

@[simp] theorem cancel_loader (r : Nat) : (cancel r s).loader = s.loader := rfl
@[simp] theorem cancel_clock (r : Nat) : (cancel r s).clock = s.clock := rfl
@[simp] theorem cancel_chan (r : Nat) : (cancel r s).chan = s.chan := rfl
@[simp] theorem cancel_peers (r : Nat) : (cancel r s).peers = s.peers := rfl
@[simp] theorem cancel_tiles (r : Nat) : (cancel r s).tiles = s.tiles := rfl
@[simp] theorem cancel_claims (r : Nat) : (cancel r s).claims = s.claims := rfl
@[simp] theorem cancel_growth (r : Nat) : (cancel r s).growth = s.growth := rfl
@[simp] theorem cancel_grants (r : Nat) : (cancel r s).grants = s.grants := rfl
@[simp] theorem cancel_loans (r : Nat) : (cancel r s).loans = s.loans := rfl
@[simp] theorem cancel_link (r : Nat) : (cancel r s).link = s.link := rfl
@[simp] theorem cancel_demand (r : Nat) : (cancel r s).demand = s.demand := rfl
@[simp] theorem cancel_lines (r : Nat) : (cancel r s).lines = s.lines := rfl
@[simp] theorem cancel_attn (r : Nat) : (cancel r s).attn = s.attn := rfl
@[simp] theorem cancel_pins (r : Nat) : (cancel r s).pins = s.pins := rfl
@[simp] theorem cancel_pending (r : Nat) : (cancel r s).pending = s.pending := rfl

/-! ### commitGrant -/

@[simp] theorem commitGrant_loader (k : ServiceClass) (c : GrantCause) (d : Option Nat) :
    (commitGrant k c d s).loader = s.loader := rfl
@[simp] theorem commitGrant_clock (k : ServiceClass) (c : GrantCause) (d : Option Nat) :
    (commitGrant k c d s).clock = s.clock := rfl
@[simp] theorem commitGrant_chan (k : ServiceClass) (c : GrantCause) (d : Option Nat) :
    (commitGrant k c d s).chan = s.chan := rfl
@[simp] theorem commitGrant_peers (k : ServiceClass) (c : GrantCause) (d : Option Nat) :
    (commitGrant k c d s).peers = s.peers := rfl
@[simp] theorem commitGrant_tiles (k : ServiceClass) (c : GrantCause) (d : Option Nat) :
    (commitGrant k c d s).tiles = s.tiles := rfl
@[simp] theorem commitGrant_scan (k : ServiceClass) (c : GrantCause) (d : Option Nat) :
    (commitGrant k c d s).scan = s.scan := rfl
@[simp] theorem commitGrant_claims (k : ServiceClass) (c : GrantCause) (d : Option Nat) :
    (commitGrant k c d s).claims = s.claims := rfl
@[simp] theorem commitGrant_growth (k : ServiceClass) (c : GrantCause) (d : Option Nat) :
    (commitGrant k c d s).growth = s.growth := rfl
@[simp] theorem commitGrant_engine (k : ServiceClass) (c : GrantCause) (d : Option Nat) :
    (commitGrant k c d s).engine = s.engine := rfl
@[simp] theorem commitGrant_loans (k : ServiceClass) (c : GrantCause) (d : Option Nat) :
    (commitGrant k c d s).loans = s.loans := rfl
@[simp] theorem commitGrant_link (k : ServiceClass) (c : GrantCause) (d : Option Nat) :
    (commitGrant k c d s).link = s.link := rfl
@[simp] theorem commitGrant_demand (k : ServiceClass) (c : GrantCause) (d : Option Nat) :
    (commitGrant k c d s).demand = s.demand := rfl
@[simp] theorem commitGrant_lines (k : ServiceClass) (c : GrantCause) (d : Option Nat) :
    (commitGrant k c d s).lines = s.lines := rfl
@[simp] theorem commitGrant_pins (k : ServiceClass) (c : GrantCause) (d : Option Nat) :
    (commitGrant k c d s).pins = s.pins := rfl
@[simp] theorem commitGrant_outbox (k : ServiceClass) (c : GrantCause) (d : Option Nat) :
    (commitGrant k c d s).outbox = s.outbox := rfl
@[simp] theorem commitGrant_pending (k : ServiceClass) (c : GrantCause) (d : Option Nat) :
    (commitGrant k c d s).pending = s.pending := rfl

/-! ### releaseRun -/

@[simp] theorem releaseRun_loader (r : Nat) : (releaseRun r s).loader = s.loader := rfl
@[simp] theorem releaseRun_clock (r : Nat) : (releaseRun r s).clock = s.clock := rfl
@[simp] theorem releaseRun_peers (r : Nat) : (releaseRun r s).peers = s.peers := rfl
@[simp] theorem releaseRun_tiles (r : Nat) : (releaseRun r s).tiles = s.tiles := rfl
@[simp] theorem releaseRun_scan (r : Nat) : (releaseRun r s).scan = s.scan := rfl
@[simp] theorem releaseRun_claims (r : Nat) : (releaseRun r s).claims = s.claims.set r (s.claim r).unrun := rfl
@[simp] theorem releaseRun_growth (r : Nat) : (releaseRun r s).growth = s.growth := rfl
@[simp] theorem releaseRun_grants (r : Nat) : (releaseRun r s).grants = s.grants := rfl
@[simp] theorem releaseRun_engine (r : Nat) : (releaseRun r s).engine = s.engine := rfl
@[simp] theorem releaseRun_loans (r : Nat) : (releaseRun r s).loans = s.loans := rfl
@[simp] theorem releaseRun_link (r : Nat) : (releaseRun r s).link = s.link := rfl
@[simp] theorem releaseRun_demand (r : Nat) : (releaseRun r s).demand = s.demand := rfl
@[simp] theorem releaseRun_lines (r : Nat) : (releaseRun r s).lines = s.lines := rfl
@[simp] theorem releaseRun_attn (r : Nat) : (releaseRun r s).attn = s.attn := rfl
@[simp] theorem releaseRun_pins (r : Nat) : (releaseRun r s).pins = s.pins := rfl
@[simp] theorem releaseRun_outbox (r : Nat) : (releaseRun r s).outbox = s.outbox := rfl
@[simp] theorem releaseRun_pending (r : Nat) : (releaseRun r s).pending = s.pending := rfl

/-! ### cutRecord -/

@[simp] theorem cutRecord_loader (r : Nat) (x : Option Run) : (cutRecord r x s).loader = s.loader := rfl
@[simp] theorem cutRecord_clock (r : Nat) (x : Option Run) : (cutRecord r x s).clock = s.clock := rfl
@[simp] theorem cutRecord_chan (r : Nat) (x : Option Run) : (cutRecord r x s).chan = s.chan := rfl
@[simp] theorem cutRecord_peers (r : Nat) (x : Option Run) : (cutRecord r x s).peers = s.peers := rfl
@[simp] theorem cutRecord_tiles (r : Nat) (x : Option Run) : (cutRecord r x s).tiles = s.tiles := rfl
@[simp] theorem cutRecord_scan (r : Nat) (x : Option Run) : (cutRecord r x s).scan = s.scan := rfl
@[simp] theorem cutRecord_growth (r : Nat) (x : Option Run) : (cutRecord r x s).growth = s.growth := rfl
@[simp] theorem cutRecord_grants (r : Nat) (x : Option Run) : (cutRecord r x s).grants = s.grants := rfl
@[simp] theorem cutRecord_engine (r : Nat) (x : Option Run) : (cutRecord r x s).engine = s.engine := rfl
@[simp] theorem cutRecord_link (r : Nat) (x : Option Run) : (cutRecord r x s).link = s.link := rfl
@[simp] theorem cutRecord_demand (r : Nat) (x : Option Run) : (cutRecord r x s).demand = s.demand := rfl
@[simp] theorem cutRecord_lines (r : Nat) (x : Option Run) : (cutRecord r x s).lines = s.lines := rfl
@[simp] theorem cutRecord_attn (r : Nat) (x : Option Run) : (cutRecord r x s).attn = s.attn := rfl
@[simp] theorem cutRecord_pins (r : Nat) (x : Option Run) : (cutRecord r x s).pins = s.pins := rfl
@[simp] theorem cutRecord_outbox (r : Nat) (x : Option Run) : (cutRecord r x s).outbox = s.outbox := rfl
@[simp] theorem cutRecord_pending (r : Nat) (x : Option Run) : (cutRecord r x s).pending = s.pending := rfl

/-! ### markLoan -/

@[simp] theorem markLoan_loader (i : Nat) (x : LoanState) : (markLoan i x s).loader = s.loader := rfl
@[simp] theorem markLoan_clock (i : Nat) (x : LoanState) : (markLoan i x s).clock = s.clock := rfl
@[simp] theorem markLoan_chan (i : Nat) (x : LoanState) : (markLoan i x s).chan = s.chan := rfl
@[simp] theorem markLoan_peers (i : Nat) (x : LoanState) : (markLoan i x s).peers = s.peers := rfl
@[simp] theorem markLoan_tiles (i : Nat) (x : LoanState) : (markLoan i x s).tiles = s.tiles := rfl
@[simp] theorem markLoan_scan (i : Nat) (x : LoanState) : (markLoan i x s).scan = s.scan := rfl
@[simp] theorem markLoan_claims (i : Nat) (x : LoanState) : (markLoan i x s).claims = s.claims := rfl
@[simp] theorem markLoan_growth (i : Nat) (x : LoanState) : (markLoan i x s).growth = s.growth := rfl
@[simp] theorem markLoan_grants (i : Nat) (x : LoanState) : (markLoan i x s).grants = s.grants := rfl
@[simp] theorem markLoan_engine (i : Nat) (x : LoanState) : (markLoan i x s).engine = s.engine := rfl
@[simp] theorem markLoan_loans (i : Nat) (x : LoanState) :
    (markLoan i x s).loans = s.loans.modify i (fun e => { e with state := x }) := rfl
@[simp] theorem markLoan_link (i : Nat) (x : LoanState) : (markLoan i x s).link = s.link := rfl
@[simp] theorem markLoan_demand (i : Nat) (x : LoanState) : (markLoan i x s).demand = s.demand := rfl
@[simp] theorem markLoan_lines (i : Nat) (x : LoanState) : (markLoan i x s).lines = s.lines := rfl
@[simp] theorem markLoan_attn (i : Nat) (x : LoanState) : (markLoan i x s).attn = s.attn := rfl
@[simp] theorem markLoan_pins (i : Nat) (x : LoanState) : (markLoan i x s).pins = s.pins := rfl
@[simp] theorem markLoan_outbox (i : Nat) (x : LoanState) : (markLoan i x s).outbox = s.outbox := rfl
@[simp] theorem markLoan_pending (i : Nat) (x : LoanState) : (markLoan i x s).pending = s.pending := rfl

/-! ### setPace -/

@[simp] theorem setPace_loader (n : Nat) : (setPace n s).loader = s.loader := rfl
@[simp] theorem setPace_clock (n : Nat) : (setPace n s).clock = s.clock := rfl
@[simp] theorem setPace_chan (n : Nat) : (setPace n s).chan = s.chan := rfl
@[simp] theorem setPace_peers (n : Nat) : (setPace n s).peers = s.peers := rfl
@[simp] theorem setPace_tiles (n : Nat) : (setPace n s).tiles = s.tiles := rfl
@[simp] theorem setPace_scan (n : Nat) : (setPace n s).scan = s.scan := rfl
@[simp] theorem setPace_claims (n : Nat) : (setPace n s).claims = s.claims := rfl
@[simp] theorem setPace_growth (n : Nat) : (setPace n s).growth = { s.growth with pace := n } := rfl
@[simp] theorem setPace_grants (n : Nat) : (setPace n s).grants = s.grants := rfl
@[simp] theorem setPace_engine (n : Nat) : (setPace n s).engine = s.engine := rfl
@[simp] theorem setPace_loans (n : Nat) : (setPace n s).loans = s.loans := rfl
@[simp] theorem setPace_link (n : Nat) : (setPace n s).link = s.link := rfl
@[simp] theorem setPace_demand (n : Nat) : (setPace n s).demand = s.demand := rfl
@[simp] theorem setPace_lines (n : Nat) : (setPace n s).lines = s.lines := rfl
@[simp] theorem setPace_attn (n : Nat) : (setPace n s).attn = s.attn := rfl
@[simp] theorem setPace_pins (n : Nat) : (setPace n s).pins = s.pins := rfl
@[simp] theorem setPace_outbox (n : Nat) : (setPace n s).outbox = s.outbox := rfl
@[simp] theorem setPace_pending (n : Nat) : (setPace n s).pending = s.pending := rfl

/-! ### setActive -/

@[simp] theorem setActive_loader (p : Option Placement) : (setActive p s).loader = s.loader := rfl
@[simp] theorem setActive_clock (p : Option Placement) : (setActive p s).clock = s.clock := rfl
@[simp] theorem setActive_chan (p : Option Placement) : (setActive p s).chan = s.chan := rfl
@[simp] theorem setActive_peers (p : Option Placement) : (setActive p s).peers = s.peers := rfl
@[simp] theorem setActive_tiles (p : Option Placement) : (setActive p s).tiles = s.tiles := rfl
@[simp] theorem setActive_scan (p : Option Placement) : (setActive p s).scan = s.scan := rfl
@[simp] theorem setActive_claims (p : Option Placement) : (setActive p s).claims = s.claims := rfl
@[simp] theorem setActive_growth (p : Option Placement) : (setActive p s).growth = s.growth := rfl
@[simp] theorem setActive_grants (p : Option Placement) : (setActive p s).grants = s.grants := rfl
@[simp] theorem setActive_engine (p : Option Placement) : (setActive p s).engine = { s.engine with active := p } := rfl
@[simp] theorem setActive_loans (p : Option Placement) : (setActive p s).loans = s.loans := rfl
@[simp] theorem setActive_link (p : Option Placement) : (setActive p s).link = s.link := rfl
@[simp] theorem setActive_demand (p : Option Placement) : (setActive p s).demand = s.demand := rfl
@[simp] theorem setActive_lines (p : Option Placement) : (setActive p s).lines = s.lines := rfl
@[simp] theorem setActive_attn (p : Option Placement) : (setActive p s).attn = s.attn := rfl
@[simp] theorem setActive_pins (p : Option Placement) : (setActive p s).pins = s.pins := rfl
@[simp] theorem setActive_outbox (p : Option Placement) : (setActive p s).outbox = s.outbox := rfl
@[simp] theorem setActive_pending (p : Option Placement) : (setActive p s).pending = s.pending := rfl

/-! ### suspend -/

@[simp] theorem suspend_loader (p : Placement) : (suspend p s).loader = s.loader := rfl
@[simp] theorem suspend_clock (p : Placement) : (suspend p s).clock = s.clock := rfl
@[simp] theorem suspend_chan (p : Placement) : (suspend p s).chan = s.chan := rfl
@[simp] theorem suspend_peers (p : Placement) : (suspend p s).peers = s.peers := rfl
@[simp] theorem suspend_tiles (p : Placement) : (suspend p s).tiles = s.tiles := rfl
@[simp] theorem suspend_claims (p : Placement) : (suspend p s).claims = s.claims := rfl
@[simp] theorem suspend_growth (p : Placement) : (suspend p s).growth = s.growth := rfl
@[simp] theorem suspend_grants (p : Placement) : (suspend p s).grants = s.grants := rfl
@[simp] theorem suspend_loans (p : Placement) : (suspend p s).loans = s.loans := rfl
@[simp] theorem suspend_link (p : Placement) : (suspend p s).link = s.link := rfl
@[simp] theorem suspend_demand (p : Placement) : (suspend p s).demand = s.demand := rfl
@[simp] theorem suspend_lines (p : Placement) : (suspend p s).lines = s.lines := rfl
@[simp] theorem suspend_attn (p : Placement) : (suspend p s).attn = s.attn := rfl
@[simp] theorem suspend_pins (p : Placement) : (suspend p s).pins = s.pins := rfl
@[simp] theorem suspend_outbox (p : Placement) : (suspend p s).outbox = s.outbox := rfl
@[simp] theorem suspend_pending (p : Placement) : (suspend p s).pending = s.pending := rfl

/-! ### sampleCarrier -/

@[simp] theorem sampleCarrier_loader (b : Bool) : (sampleCarrier b s).loader = s.loader := rfl
@[simp] theorem sampleCarrier_clock (b : Bool) : (sampleCarrier b s).clock = s.clock := rfl
@[simp] theorem sampleCarrier_chan (b : Bool) : (sampleCarrier b s).chan = s.chan := rfl
@[simp] theorem sampleCarrier_peers (b : Bool) : (sampleCarrier b s).peers = s.peers := rfl
@[simp] theorem sampleCarrier_tiles (b : Bool) : (sampleCarrier b s).tiles = s.tiles := rfl
@[simp] theorem sampleCarrier_scan (b : Bool) : (sampleCarrier b s).scan = s.scan := rfl
@[simp] theorem sampleCarrier_claims (b : Bool) : (sampleCarrier b s).claims = s.claims := rfl
@[simp] theorem sampleCarrier_growth (b : Bool) : (sampleCarrier b s).growth = s.growth := rfl
@[simp] theorem sampleCarrier_grants (b : Bool) : (sampleCarrier b s).grants = s.grants := rfl
@[simp] theorem sampleCarrier_engine (b : Bool) : (sampleCarrier b s).engine = s.engine := rfl
@[simp] theorem sampleCarrier_loans (b : Bool) : (sampleCarrier b s).loans = s.loans := rfl
@[simp] theorem sampleCarrier_link (b : Bool) : (sampleCarrier b s).link = s.link := rfl
@[simp] theorem sampleCarrier_demand (b : Bool) : (sampleCarrier b s).demand = s.demand := rfl
@[simp] theorem sampleCarrier_lines (b : Bool) : (sampleCarrier b s).lines = s.lines := rfl
@[simp] theorem sampleCarrier_attn (b : Bool) : (sampleCarrier b s).attn = s.attn := rfl
@[simp] theorem sampleCarrier_pins (b : Bool) : (sampleCarrier b s).pins = { s.pins with ccCs := b } := rfl
@[simp] theorem sampleCarrier_outbox (b : Bool) : (sampleCarrier b s).outbox = s.outbox := rfl
@[simp] theorem sampleCarrier_pending (b : Bool) : (sampleCarrier b s).pending = s.pending := rfl

/-! ### attemptSend -/

@[simp] theorem attemptSend_loader : (attemptSend s).loader = s.loader := rfl
@[simp] theorem attemptSend_clock : (attemptSend s).clock = s.clock := rfl
@[simp] theorem attemptSend_chan : (attemptSend s).chan = s.chan.attempt (carrierBusy s) := rfl
@[simp] theorem attemptSend_peers : (attemptSend s).peers = s.peers := rfl
@[simp] theorem attemptSend_tiles : (attemptSend s).tiles = s.tiles := rfl
@[simp] theorem attemptSend_scan : (attemptSend s).scan = s.scan := rfl
@[simp] theorem attemptSend_claims : (attemptSend s).claims = s.claims := rfl
@[simp] theorem attemptSend_growth : (attemptSend s).growth = s.growth := rfl
@[simp] theorem attemptSend_grants : (attemptSend s).grants = s.grants := rfl
@[simp] theorem attemptSend_engine : (attemptSend s).engine = s.engine := rfl
@[simp] theorem attemptSend_loans : (attemptSend s).loans = s.loans := rfl
@[simp] theorem attemptSend_link : (attemptSend s).link = s.link := rfl
@[simp] theorem attemptSend_demand : (attemptSend s).demand = s.demand := rfl
@[simp] theorem attemptSend_lines : (attemptSend s).lines = s.lines := rfl
@[simp] theorem attemptSend_attn : (attemptSend s).attn = s.attn := rfl
@[simp] theorem attemptSend_pins : (attemptSend s).pins = s.pins := rfl
@[simp] theorem attemptSend_outbox : (attemptSend s).outbox = s.outbox := rfl
@[simp] theorem attemptSend_pending : (attemptSend s).pending = s.pending := rfl

/-! ### restoreAllowance -/

@[simp] theorem restoreAllowance_loader : (restoreAllowance s).loader = s.loader := rfl
@[simp] theorem restoreAllowance_clock : (restoreAllowance s).clock = s.clock := rfl
@[simp] theorem restoreAllowance_chan :
    (restoreAllowance s).chan = { s.chan with urgentBackoff := none, allowance := .available } := rfl
@[simp] theorem restoreAllowance_peers : (restoreAllowance s).peers = s.peers := rfl
@[simp] theorem restoreAllowance_tiles : (restoreAllowance s).tiles = s.tiles := rfl
@[simp] theorem restoreAllowance_scan : (restoreAllowance s).scan = s.scan := rfl
@[simp] theorem restoreAllowance_claims : (restoreAllowance s).claims = s.claims := rfl
@[simp] theorem restoreAllowance_growth : (restoreAllowance s).growth = s.growth := rfl
@[simp] theorem restoreAllowance_grants : (restoreAllowance s).grants = s.grants := rfl
@[simp] theorem restoreAllowance_engine : (restoreAllowance s).engine = s.engine := rfl
@[simp] theorem restoreAllowance_loans : (restoreAllowance s).loans = s.loans := rfl
@[simp] theorem restoreAllowance_link : (restoreAllowance s).link = s.link := rfl
@[simp] theorem restoreAllowance_demand : (restoreAllowance s).demand = s.demand := rfl
@[simp] theorem restoreAllowance_lines : (restoreAllowance s).lines = s.lines := rfl
@[simp] theorem restoreAllowance_attn : (restoreAllowance s).attn = s.attn := rfl
@[simp] theorem restoreAllowance_pins : (restoreAllowance s).pins = s.pins := rfl
@[simp] theorem restoreAllowance_outbox : (restoreAllowance s).outbox = s.outbox := rfl
@[simp] theorem restoreAllowance_pending : (restoreAllowance s).pending = s.pending := rfl

/-! ### setLine -/

@[simp] theorem setLine_loader (n : Nat) (x : CallLine) : (setLine n x s).loader = s.loader := rfl
@[simp] theorem setLine_clock (n : Nat) (x : CallLine) : (setLine n x s).clock = s.clock := rfl
@[simp] theorem setLine_chan (n : Nat) (x : CallLine) : (setLine n x s).chan = s.chan := rfl
@[simp] theorem setLine_peers (n : Nat) (x : CallLine) : (setLine n x s).peers = s.peers := rfl
@[simp] theorem setLine_tiles (n : Nat) (x : CallLine) : (setLine n x s).tiles = s.tiles := rfl
@[simp] theorem setLine_scan (n : Nat) (x : CallLine) : (setLine n x s).scan = s.scan := rfl
@[simp] theorem setLine_claims (n : Nat) (x : CallLine) : (setLine n x s).claims = s.claims := rfl
@[simp] theorem setLine_growth (n : Nat) (x : CallLine) : (setLine n x s).growth = s.growth := rfl
@[simp] theorem setLine_grants (n : Nat) (x : CallLine) : (setLine n x s).grants = s.grants := rfl
@[simp] theorem setLine_engine (n : Nat) (x : CallLine) : (setLine n x s).engine = s.engine := rfl
@[simp] theorem setLine_loans (n : Nat) (x : CallLine) : (setLine n x s).loans = s.loans := rfl
@[simp] theorem setLine_link (n : Nat) (x : CallLine) : (setLine n x s).link = s.link := rfl
@[simp] theorem setLine_demand (n : Nat) (x : CallLine) : (setLine n x s).demand = s.demand := rfl
@[simp] theorem setLine_lines (n : Nat) (x : CallLine) : (setLine n x s).lines = s.lines.set n x := rfl
@[simp] theorem setLine_attn (n : Nat) (x : CallLine) : (setLine n x s).attn = s.attn := rfl
@[simp] theorem setLine_pins (n : Nat) (x : CallLine) : (setLine n x s).pins = s.pins := rfl
@[simp] theorem setLine_outbox (n : Nat) (x : CallLine) : (setLine n x s).outbox = s.outbox := rfl
@[simp] theorem setLine_pending (n : Nat) (x : CallLine) : (setLine n x s).pending = s.pending := rfl

/-! ### setCallLevel -/

@[simp] theorem setCallLevel_loader (n : Nat) (b : Bool) : (setCallLevel n b s).loader = s.loader := rfl
@[simp] theorem setCallLevel_clock (n : Nat) (b : Bool) : (setCallLevel n b s).clock = s.clock := rfl
@[simp] theorem setCallLevel_chan (n : Nat) (b : Bool) : (setCallLevel n b s).chan = s.chan := rfl
@[simp] theorem setCallLevel_peers (n : Nat) (b : Bool) : (setCallLevel n b s).peers = s.peers := rfl
@[simp] theorem setCallLevel_tiles (n : Nat) (b : Bool) : (setCallLevel n b s).tiles = s.tiles := rfl
@[simp] theorem setCallLevel_scan (n : Nat) (b : Bool) : (setCallLevel n b s).scan = s.scan := rfl
@[simp] theorem setCallLevel_claims (n : Nat) (b : Bool) : (setCallLevel n b s).claims = s.claims := rfl
@[simp] theorem setCallLevel_growth (n : Nat) (b : Bool) : (setCallLevel n b s).growth = s.growth := rfl
@[simp] theorem setCallLevel_grants (n : Nat) (b : Bool) : (setCallLevel n b s).grants = s.grants := rfl
@[simp] theorem setCallLevel_engine (n : Nat) (b : Bool) : (setCallLevel n b s).engine = s.engine := rfl
@[simp] theorem setCallLevel_loans (n : Nat) (b : Bool) : (setCallLevel n b s).loans = s.loans := rfl
@[simp] theorem setCallLevel_link (n : Nat) (b : Bool) : (setCallLevel n b s).link = s.link := rfl
@[simp] theorem setCallLevel_demand (n : Nat) (b : Bool) : (setCallLevel n b s).demand = s.demand := rfl
@[simp] theorem setCallLevel_lines (n : Nat) (b : Bool) : (setCallLevel n b s).lines = s.lines := rfl
@[simp] theorem setCallLevel_attn (n : Nat) (b : Bool) : (setCallLevel n b s).attn = s.attn := rfl
@[simp] theorem setCallLevel_pins (n : Nat) (b : Bool) :
    (setCallLevel n b s).pins = { s.pins with calls := s.pins.calls.set n b } := rfl
@[simp] theorem setCallLevel_outbox (n : Nat) (b : Bool) : (setCallLevel n b s).outbox = s.outbox := rfl
@[simp] theorem setCallLevel_pending (n : Nat) (b : Bool) : (setCallLevel n b s).pending = s.pending := rfl

/-! ### clearLines -/

@[simp] theorem clearLines_loader : (clearLines s).loader = s.loader := rfl
@[simp] theorem clearLines_clock : (clearLines s).clock = s.clock := rfl
@[simp] theorem clearLines_chan : (clearLines s).chan = s.chan := rfl
@[simp] theorem clearLines_peers : (clearLines s).peers = s.peers := rfl
@[simp] theorem clearLines_tiles : (clearLines s).tiles = s.tiles := rfl
@[simp] theorem clearLines_scan : (clearLines s).scan = s.scan := rfl
@[simp] theorem clearLines_claims : (clearLines s).claims = s.claims := rfl
@[simp] theorem clearLines_growth : (clearLines s).growth = s.growth := rfl
@[simp] theorem clearLines_grants : (clearLines s).grants = s.grants := rfl
@[simp] theorem clearLines_engine : (clearLines s).engine = s.engine := rfl
@[simp] theorem clearLines_loans : (clearLines s).loans = s.loans := rfl
@[simp] theorem clearLines_link : (clearLines s).link = s.link := rfl
@[simp] theorem clearLines_demand : (clearLines s).demand = s.demand := rfl
@[simp] theorem clearLines_lines : (clearLines s).lines = List.replicate 4 ⟨false, false⟩ := rfl
@[simp] theorem clearLines_attn : (clearLines s).attn = s.attn := rfl
@[simp] theorem clearLines_pins : (clearLines s).pins = s.pins := rfl
@[simp] theorem clearLines_outbox : (clearLines s).outbox = s.outbox := rfl
@[simp] theorem clearLines_pending : (clearLines s).pending = s.pending := rfl

/-! ### setPart -/

@[simp] theorem setPart_loader (x : PartState) : (setPart x s).loader = { s.loader with part := x } := rfl
@[simp] theorem setPart_clock (x : PartState) : (setPart x s).clock = s.clock := rfl
@[simp] theorem setPart_chan (x : PartState) : (setPart x s).chan = s.chan := rfl
@[simp] theorem setPart_peers (x : PartState) : (setPart x s).peers = s.peers := rfl
@[simp] theorem setPart_tiles (x : PartState) : (setPart x s).tiles = s.tiles := rfl
@[simp] theorem setPart_scan (x : PartState) : (setPart x s).scan = s.scan := rfl
@[simp] theorem setPart_claims (x : PartState) : (setPart x s).claims = s.claims := rfl
@[simp] theorem setPart_growth (x : PartState) : (setPart x s).growth = s.growth := rfl
@[simp] theorem setPart_grants (x : PartState) : (setPart x s).grants = s.grants := rfl
@[simp] theorem setPart_engine (x : PartState) : (setPart x s).engine = s.engine := rfl
@[simp] theorem setPart_loans (x : PartState) : (setPart x s).loans = s.loans := rfl
@[simp] theorem setPart_link (x : PartState) : (setPart x s).link = s.link := rfl
@[simp] theorem setPart_demand (x : PartState) : (setPart x s).demand = s.demand := rfl
@[simp] theorem setPart_lines (x : PartState) : (setPart x s).lines = s.lines := rfl
@[simp] theorem setPart_attn (x : PartState) : (setPart x s).attn = s.attn := rfl
@[simp] theorem setPart_pins (x : PartState) : (setPart x s).pins = s.pins := rfl
@[simp] theorem setPart_outbox (x : PartState) : (setPart x s).outbox = s.outbox := rfl
@[simp] theorem setPart_pending (x : PartState) : (setPart x s).pending = s.pending := rfl

/-! ### enterWarmListen -/

@[simp] theorem enterWarmListen_loader :
    (enterWarmListen s).loader = { s.loader with part := .warmListen, warmCount := 0 } := rfl
@[simp] theorem enterWarmListen_clock : (enterWarmListen s).clock = s.clock := rfl
@[simp] theorem enterWarmListen_peers : (enterWarmListen s).peers = s.peers := rfl
@[simp] theorem enterWarmListen_tiles : (enterWarmListen s).tiles = s.tiles := rfl
@[simp] theorem enterWarmListen_scan : (enterWarmListen s).scan = s.scan := rfl
@[simp] theorem enterWarmListen_claims : (enterWarmListen s).claims = s.claims := rfl
@[simp] theorem enterWarmListen_growth : (enterWarmListen s).growth = s.growth := rfl
@[simp] theorem enterWarmListen_grants : (enterWarmListen s).grants = s.grants := rfl
@[simp] theorem enterWarmListen_engine : (enterWarmListen s).engine = s.engine := rfl
@[simp] theorem enterWarmListen_loans : (enterWarmListen s).loans = s.loans := rfl
@[simp] theorem enterWarmListen_link : (enterWarmListen s).link = s.link := rfl
@[simp] theorem enterWarmListen_demand : (enterWarmListen s).demand = s.demand := rfl
@[simp] theorem enterWarmListen_lines : (enterWarmListen s).lines = s.lines := rfl
@[simp] theorem enterWarmListen_attn : (enterWarmListen s).attn = s.attn := rfl
@[simp] theorem enterWarmListen_pins : (enterWarmListen s).pins = s.pins := rfl
@[simp] theorem enterWarmListen_outbox : (enterWarmListen s).outbox = s.outbox := rfl
@[simp] theorem enterWarmListen_pending : (enterWarmListen s).pending = s.pending := rfl

/-! ### enterQuiet -/

@[simp] theorem enterQuiet_loader : (enterQuiet s).loader = { s.loader with part := .quiet } := rfl
@[simp] theorem enterQuiet_clock : (enterQuiet s).clock = s.clock := rfl
@[simp] theorem enterQuiet_peers : (enterQuiet s).peers = s.peers := rfl
@[simp] theorem enterQuiet_tiles : (enterQuiet s).tiles = s.tiles := rfl
@[simp] theorem enterQuiet_scan : (enterQuiet s).scan = s.scan := rfl
@[simp] theorem enterQuiet_claims : (enterQuiet s).claims = s.claims := rfl
@[simp] theorem enterQuiet_growth : (enterQuiet s).growth = s.growth := rfl
@[simp] theorem enterQuiet_grants : (enterQuiet s).grants = s.grants := rfl
@[simp] theorem enterQuiet_engine : (enterQuiet s).engine = s.engine := rfl
@[simp] theorem enterQuiet_loans : (enterQuiet s).loans = s.loans := rfl
@[simp] theorem enterQuiet_link : (enterQuiet s).link = s.link := rfl
@[simp] theorem enterQuiet_demand : (enterQuiet s).demand = s.demand := rfl
@[simp] theorem enterQuiet_lines : (enterQuiet s).lines = s.lines := rfl
@[simp] theorem enterQuiet_attn : (enterQuiet s).attn = s.attn := rfl
@[simp] theorem enterQuiet_pins : (enterQuiet s).pins = s.pins := rfl
@[simp] theorem enterQuiet_outbox : (enterQuiet s).outbox = s.outbox := rfl
@[simp] theorem enterQuiet_pending : (enterQuiet s).pending = s.pending := rfl

/-! ### stampTick -/

@[simp] theorem stampTick_loader : (stampTick s).loader = s.loader := rfl
@[simp] theorem stampTick_clock : (stampTick s).clock = ⟨some Config.ageingPeriod, s.clock.stamp + 1⟩ := rfl
@[simp] theorem stampTick_chan : (stampTick s).chan = s.chan := rfl
@[simp] theorem stampTick_peers : (stampTick s).peers = s.peers := rfl
@[simp] theorem stampTick_tiles : (stampTick s).tiles = s.tiles := rfl
@[simp] theorem stampTick_scan : (stampTick s).scan = s.scan := rfl
@[simp] theorem stampTick_claims : (stampTick s).claims = s.claims := rfl
@[simp] theorem stampTick_growth : (stampTick s).growth = s.growth := rfl
@[simp] theorem stampTick_grants : (stampTick s).grants = s.grants := rfl
@[simp] theorem stampTick_engine : (stampTick s).engine = s.engine := rfl
@[simp] theorem stampTick_loans : (stampTick s).loans = s.loans := rfl
@[simp] theorem stampTick_link : (stampTick s).link = s.link := rfl
@[simp] theorem stampTick_demand : (stampTick s).demand = s.demand := rfl
@[simp] theorem stampTick_lines : (stampTick s).lines = s.lines := rfl
@[simp] theorem stampTick_attn : (stampTick s).attn = s.attn := rfl
@[simp] theorem stampTick_pins : (stampTick s).pins = s.pins := rfl
@[simp] theorem stampTick_outbox : (stampTick s).outbox = s.outbox := rfl
@[simp] theorem stampTick_pending : (stampTick s).pending = s.pending := rfl

/-! ### setReception -/

@[simp] theorem setReception_loader (x : Option (List Byte)) : (setReception x s).loader = s.loader := rfl
@[simp] theorem setReception_clock (x : Option (List Byte)) : (setReception x s).clock = s.clock := rfl
@[simp] theorem setReception_chan (x : Option (List Byte)) : (setReception x s).chan = { s.chan with reception := x } := rfl
@[simp] theorem setReception_peers (x : Option (List Byte)) : (setReception x s).peers = s.peers := rfl
@[simp] theorem setReception_tiles (x : Option (List Byte)) : (setReception x s).tiles = s.tiles := rfl
@[simp] theorem setReception_scan (x : Option (List Byte)) : (setReception x s).scan = s.scan := rfl
@[simp] theorem setReception_claims (x : Option (List Byte)) : (setReception x s).claims = s.claims := rfl
@[simp] theorem setReception_growth (x : Option (List Byte)) : (setReception x s).growth = s.growth := rfl
@[simp] theorem setReception_grants (x : Option (List Byte)) : (setReception x s).grants = s.grants := rfl
@[simp] theorem setReception_engine (x : Option (List Byte)) : (setReception x s).engine = s.engine := rfl
@[simp] theorem setReception_loans (x : Option (List Byte)) : (setReception x s).loans = s.loans := rfl
@[simp] theorem setReception_link (x : Option (List Byte)) : (setReception x s).link = s.link := rfl
@[simp] theorem setReception_demand (x : Option (List Byte)) : (setReception x s).demand = s.demand := rfl
@[simp] theorem setReception_lines (x : Option (List Byte)) : (setReception x s).lines = s.lines := rfl
@[simp] theorem setReception_attn (x : Option (List Byte)) : (setReception x s).attn = s.attn := rfl
@[simp] theorem setReception_pins (x : Option (List Byte)) : (setReception x s).pins = s.pins := rfl
@[simp] theorem setReception_outbox (x : Option (List Byte)) : (setReception x s).outbox = s.outbox := rfl
@[simp] theorem setReception_pending (x : Option (List Byte)) : (setReception x s).pending = s.pending := rfl

/-! ### dropFrame -/

@[simp] theorem dropFrame_loader : (dropFrame s).loader = s.loader := rfl
@[simp] theorem dropFrame_clock : (dropFrame s).clock = s.clock := rfl
@[simp] theorem dropFrame_chan :
    (dropFrame s).chan = { s.chan with dropped := min Config.dropCounterMax (s.chan.dropped + 1) } := rfl
@[simp] theorem dropFrame_peers : (dropFrame s).peers = s.peers := rfl
@[simp] theorem dropFrame_tiles : (dropFrame s).tiles = s.tiles := rfl
@[simp] theorem dropFrame_scan : (dropFrame s).scan = s.scan := rfl
@[simp] theorem dropFrame_claims : (dropFrame s).claims = s.claims := rfl
@[simp] theorem dropFrame_growth : (dropFrame s).growth = s.growth := rfl
@[simp] theorem dropFrame_grants : (dropFrame s).grants = s.grants := rfl
@[simp] theorem dropFrame_engine : (dropFrame s).engine = s.engine := rfl
@[simp] theorem dropFrame_loans : (dropFrame s).loans = s.loans := rfl
@[simp] theorem dropFrame_link : (dropFrame s).link = s.link := rfl
@[simp] theorem dropFrame_demand : (dropFrame s).demand = s.demand := rfl
@[simp] theorem dropFrame_lines : (dropFrame s).lines = s.lines := rfl
@[simp] theorem dropFrame_attn : (dropFrame s).attn = s.attn := rfl
@[simp] theorem dropFrame_pins : (dropFrame s).pins = s.pins := rfl
@[simp] theorem dropFrame_outbox : (dropFrame s).outbox = s.outbox := rfl
@[simp] theorem dropFrame_pending : (dropFrame s).pending = s.pending := rfl

/-! ### changeNoise -/

@[simp] theorem changeNoise_loader (n : Nat) (f : TileNoise → TileNoise) : (changeNoise n f s).loader = s.loader := rfl
@[simp] theorem changeNoise_clock (n : Nat) (f : TileNoise → TileNoise) : (changeNoise n f s).clock = s.clock := rfl
@[simp] theorem changeNoise_chan (n : Nat) (f : TileNoise → TileNoise) : (changeNoise n f s).chan = s.chan := rfl
@[simp] theorem changeNoise_peers (n : Nat) (f : TileNoise → TileNoise) : (changeNoise n f s).peers = s.peers := rfl
@[simp] theorem changeNoise_tiles (n : Nat) (f : TileNoise → TileNoise) : (changeNoise n f s).tiles = s.tiles := rfl
@[simp] theorem changeNoise_scan (n : Nat) (f : TileNoise → TileNoise) :
    (changeNoise n f s).scan = { s.scan with tiles := s.scan.tiles.modify n f } := rfl
@[simp] theorem changeNoise_claims (n : Nat) (f : TileNoise → TileNoise) : (changeNoise n f s).claims = s.claims := rfl
@[simp] theorem changeNoise_growth (n : Nat) (f : TileNoise → TileNoise) : (changeNoise n f s).growth = s.growth := rfl
@[simp] theorem changeNoise_grants (n : Nat) (f : TileNoise → TileNoise) : (changeNoise n f s).grants = s.grants := rfl
@[simp] theorem changeNoise_engine (n : Nat) (f : TileNoise → TileNoise) : (changeNoise n f s).engine = s.engine := rfl
@[simp] theorem changeNoise_loans (n : Nat) (f : TileNoise → TileNoise) : (changeNoise n f s).loans = s.loans := rfl
@[simp] theorem changeNoise_link (n : Nat) (f : TileNoise → TileNoise) : (changeNoise n f s).link = s.link := rfl
@[simp] theorem changeNoise_demand (n : Nat) (f : TileNoise → TileNoise) : (changeNoise n f s).demand = s.demand := rfl
@[simp] theorem changeNoise_lines (n : Nat) (f : TileNoise → TileNoise) : (changeNoise n f s).lines = s.lines := rfl
@[simp] theorem changeNoise_attn (n : Nat) (f : TileNoise → TileNoise) : (changeNoise n f s).attn = s.attn := rfl
@[simp] theorem changeNoise_pins (n : Nat) (f : TileNoise → TileNoise) : (changeNoise n f s).pins = s.pins := rfl
@[simp] theorem changeNoise_outbox (n : Nat) (f : TileNoise → TileNoise) : (changeNoise n f s).outbox = s.outbox := rfl
@[simp] theorem changeNoise_pending (n : Nat) (f : TileNoise → TileNoise) : (changeNoise n f s).pending = s.pending := rfl

/-! ### advanceSweep -/

@[simp] theorem advanceSweep_loader : (advanceSweep s).loader = s.loader := rfl
@[simp] theorem advanceSweep_clock : (advanceSweep s).clock = s.clock := rfl
@[simp] theorem advanceSweep_chan : (advanceSweep s).chan = s.chan := rfl
@[simp] theorem advanceSweep_peers : (advanceSweep s).peers = s.peers := rfl
@[simp] theorem advanceSweep_tiles : (advanceSweep s).tiles = s.tiles := rfl
@[simp] theorem advanceSweep_claims : (advanceSweep s).claims = s.claims := rfl
@[simp] theorem advanceSweep_growth : (advanceSweep s).growth = s.growth := rfl
@[simp] theorem advanceSweep_grants : (advanceSweep s).grants = s.grants := rfl
@[simp] theorem advanceSweep_engine : (advanceSweep s).engine = s.engine := rfl
@[simp] theorem advanceSweep_loans : (advanceSweep s).loans = s.loans := rfl
@[simp] theorem advanceSweep_link : (advanceSweep s).link = s.link := rfl
@[simp] theorem advanceSweep_demand : (advanceSweep s).demand = s.demand := rfl
@[simp] theorem advanceSweep_lines : (advanceSweep s).lines = s.lines := rfl
@[simp] theorem advanceSweep_attn : (advanceSweep s).attn = s.attn := rfl
@[simp] theorem advanceSweep_pins : (advanceSweep s).pins = s.pins := rfl
@[simp] theorem advanceSweep_outbox : (advanceSweep s).outbox = s.outbox := rfl
@[simp] theorem advanceSweep_pending : (advanceSweep s).pending = s.pending := rfl

/-! ### startMeasurement -/

@[simp] theorem startMeasurement_loader : (startMeasurement s).loader = s.loader := rfl
@[simp] theorem startMeasurement_clock : (startMeasurement s).clock = s.clock := rfl
@[simp] theorem startMeasurement_chan : (startMeasurement s).chan = s.chan := rfl
@[simp] theorem startMeasurement_peers : (startMeasurement s).peers = s.peers := rfl
@[simp] theorem startMeasurement_tiles : (startMeasurement s).tiles = s.tiles := rfl
@[simp] theorem startMeasurement_scan : (startMeasurement s).scan = s.scan.start := rfl
@[simp] theorem startMeasurement_claims : (startMeasurement s).claims = s.claims := rfl
@[simp] theorem startMeasurement_growth : (startMeasurement s).growth = s.growth := rfl
@[simp] theorem startMeasurement_grants : (startMeasurement s).grants = s.grants := rfl
@[simp] theorem startMeasurement_engine : (startMeasurement s).engine = s.engine := rfl
@[simp] theorem startMeasurement_loans : (startMeasurement s).loans = s.loans := rfl
@[simp] theorem startMeasurement_link : (startMeasurement s).link = s.link := rfl
@[simp] theorem startMeasurement_demand : (startMeasurement s).demand = s.demand := rfl
@[simp] theorem startMeasurement_lines : (startMeasurement s).lines = s.lines := rfl
@[simp] theorem startMeasurement_attn : (startMeasurement s).attn = s.attn := rfl
@[simp] theorem startMeasurement_pins : (startMeasurement s).pins = s.pins := rfl
@[simp] theorem startMeasurement_outbox : (startMeasurement s).outbox = s.outbox := rfl
@[simp] theorem startMeasurement_pending : (startMeasurement s).pending = s.pending := rfl

/-! ### clockBytes -/

@[simp] theorem clockBytes_loader (bs : List Byte) : (clockBytes bs s).loader = s.loader := rfl
@[simp] theorem clockBytes_clock (bs : List Byte) : (clockBytes bs s).clock = s.clock := rfl
@[simp] theorem clockBytes_chan (bs : List Byte) : (clockBytes bs s).chan = s.chan := rfl
@[simp] theorem clockBytes_peers (bs : List Byte) : (clockBytes bs s).peers = s.peers := rfl
@[simp] theorem clockBytes_tiles (bs : List Byte) : (clockBytes bs s).tiles = s.tiles := rfl
@[simp] theorem clockBytes_scan (bs : List Byte) : (clockBytes bs s).scan = s.scan := rfl
@[simp] theorem clockBytes_claims (bs : List Byte) : (clockBytes bs s).claims = s.claims := rfl
@[simp] theorem clockBytes_growth (bs : List Byte) : (clockBytes bs s).growth = s.growth := rfl
@[simp] theorem clockBytes_grants (bs : List Byte) : (clockBytes bs s).grants = s.grants := rfl
@[simp] theorem clockBytes_engine (bs : List Byte) : (clockBytes bs s).engine = s.engine := rfl
@[simp] theorem clockBytes_loans (bs : List Byte) : (clockBytes bs s).loans = s.loans := rfl
@[simp] theorem clockBytes_demand (bs : List Byte) : (clockBytes bs s).demand = s.demand := rfl
@[simp] theorem clockBytes_lines (bs : List Byte) : (clockBytes bs s).lines = s.lines := rfl
@[simp] theorem clockBytes_attn (bs : List Byte) : (clockBytes bs s).attn = s.attn := rfl
@[simp] theorem clockBytes_pins (bs : List Byte) : (clockBytes bs s).pins = s.pins := rfl
@[simp] theorem clockBytes_outbox (bs : List Byte) : (clockBytes bs s).outbox = s.outbox := rfl
@[simp] theorem clockBytes_pending (bs : List Byte) : (clockBytes bs s).pending = s.pending := rfl

/-! ### respond -/

@[simp] theorem respond_loader (r : LinkResult) (bs : List Byte) : (respond r bs s).loader = s.loader := rfl
@[simp] theorem respond_clock (r : LinkResult) (bs : List Byte) : (respond r bs s).clock = s.clock := rfl
@[simp] theorem respond_chan (r : LinkResult) (bs : List Byte) : (respond r bs s).chan = s.chan := rfl
@[simp] theorem respond_peers (r : LinkResult) (bs : List Byte) : (respond r bs s).peers = s.peers := rfl
@[simp] theorem respond_tiles (r : LinkResult) (bs : List Byte) : (respond r bs s).tiles = s.tiles := rfl
@[simp] theorem respond_scan (r : LinkResult) (bs : List Byte) : (respond r bs s).scan = s.scan := rfl
@[simp] theorem respond_claims (r : LinkResult) (bs : List Byte) : (respond r bs s).claims = s.claims := rfl
@[simp] theorem respond_growth (r : LinkResult) (bs : List Byte) : (respond r bs s).growth = s.growth := rfl
@[simp] theorem respond_grants (r : LinkResult) (bs : List Byte) : (respond r bs s).grants = s.grants := rfl
@[simp] theorem respond_engine (r : LinkResult) (bs : List Byte) : (respond r bs s).engine = s.engine := rfl
@[simp] theorem respond_loans (r : LinkResult) (bs : List Byte) : (respond r bs s).loans = s.loans := rfl
@[simp] theorem respond_demand (r : LinkResult) (bs : List Byte) : (respond r bs s).demand = s.demand := rfl
@[simp] theorem respond_lines (r : LinkResult) (bs : List Byte) : (respond r bs s).lines = s.lines := rfl
@[simp] theorem respond_attn (r : LinkResult) (bs : List Byte) : (respond r bs s).attn = s.attn := rfl
@[simp] theorem respond_pins (r : LinkResult) (bs : List Byte) : (respond r bs s).pins = s.pins := rfl
@[simp] theorem respond_outbox (r : LinkResult) (bs : List Byte) : (respond r bs s).outbox = s.outbox := rfl
@[simp] theorem respond_pending (r : LinkResult) (bs : List Byte) : (respond r bs s).pending = s.pending := rfl

end Sys2Proof.Machine
end

