-- ==== Sys2Proof/Tests/Slice0.lean ====
section
/-! SUPPORT. Tests. Part 1: what `wellFormed` refuses. Part 2: single steps, their results taken from the worked examples and
tables of the spec. Part 3: for every statement with hypotheses, a state and operands that meet them. -/

namespace Sys2Proof.Tests

open Sys2Proof.Machine

-- One theorem at a time: each kernel evaluation would otherwise hold a thread of its own.
set_option Elab.async false

/-! ### Part 1: ill-formed commands -/

theorem test_configRecord_of_31_bytes_refused : wellFormed (.configReadComplete (List.replicate 31 0)) = false := by decide
theorem test_peerStale_station_0_refused : wellFormed (.peerStale 0) = false := by decide
theorem test_peerGone_station_65535_refused : wellFormed (.peerGone 65535) = false := by decide
theorem test_drainEnd_record_20_refused : wellFormed (.drainEnd 20) = false := by decide
theorem test_receptionEnd_of_48_bytes_refused : wellFormed (.receptionEnd (List.replicate 48 0)) = false := by decide
theorem test_noiseRecovered_tile_120_refused : wellFormed (.noiseRecovered 120) = false := by decide
theorem test_roomRequest_width_9_refused : wellFormed (.roomRequest 3 0 9) = false := by decide
theorem test_roomRequest_record_20_refused : wellFormed (.roomRequest 20 0 3) = false := by decide
theorem test_roomAnswer_record_20_refused : wellFormed (.roomAnswer 20 0 .done) = false := by decide
theorem test_commit_record_20_refused : wellFormed (.commit 20 0 ⟨5, 1⟩) = false := by decide
theorem test_commit_run_past_119_refused : wellFormed (.commit 3 0 ⟨118, 3⟩) = false := by decide
theorem test_commit_run_of_no_tile_refused : wellFormed (.commit 3 0 ⟨5, 0⟩) = false := by decide
theorem test_commitAnswer_record_20_refused : wellFormed (.commitAnswer 20 0 .taken) = false := by decide
theorem test_lendRequest_borrower_20_refused : wellFormed (.lendRequest 20 0 2 0 64) = false := by decide
theorem test_lendRequest_lender_20_refused : wellFormed (.lendRequest 5 0 20 0 64) = false := by decide
theorem test_lendRequest_tile_120_refused : wellFormed (.lendRequest 5 0 2 0 120) = false := by decide
theorem test_lendAnswer_record_20_refused : wellFormed (.lendAnswer 20 0 .taken) = false := by decide
theorem test_placementOutcome_record_20_refused : wellFormed (.placementOutcome 20 0 .limit) = false := by decide
theorem test_retryExpiry_record_20_refused : wellFormed (.retryExpiry 20) = false := by decide
theorem test_badCode_of_a_table_code_refused : wellFormed (.badCode 0x31) = false := by decide
theorem test_callLineAssert_line_4_refused : wellFormed (.callLineAssert 4) = false := by decide
theorem test_callLineDeassert_line_4_refused : wellFormed (.callLineDeassert 4) = false := by decide
theorem test_entryCount_of_4_bytes_refused : wellFormed (.entryCountAssembled [0xA1, 1, 44, 0]) = false := by decide

/-! ### States of the tests -/

/-- Station 300 with the window [10, 110], tile 47 locked, and lines 0 and 2 EDGE_LEVEL. -/
def config : ConfigValues := ⟨300, 10, 110, [(47, 47)], 24, 4, 4, 32, 18, 6, [true, false, true, false], 0x7F⟩

/-- A station in ACTIVE that holds nothing, its link in CODE. -/
def active : State :=
  { State.reset with
    loader := ⟨false, false, .active, .noFault, 30, 0, some config⟩
    clock := ⟨some 5, 41⟩
    chan := { Transceiver.reset with timer := some 9, lfsr := 300 }
    tiles := flagTiles config State.reset.tiles
    scan := { State.reset.scan with measuring := some ⟨0, .sweep, none, 250⟩ }
    growth := ⟨some 3, 0⟩
    link := { Link.reset with state := .code }
    pins := { State.reset.pins with linkSelected := true }
    attn := ⟨0, 0x7F⟩ }

/-- The same station in another part state. -/
def inPart (p : PartState) : State := { active with loader := { active.loader with part := p } }

/-- A claim record. -/
def claim (k : ServiceClass) (slot : Nat) (phase : Phase) (g : BitVec 4) (run : Option Run) (width : Nat) : ClaimRecord :=
  { ClaimRecord.reset with cls := k, slot := slot, phase := phase, generation := g, run := run, width := width }

/-- The station with some claim records, its grant records in agreement. -/
def withClaims (cs : List (Nat × ClaimRecord)) (s : State) : State :=
  let u := { s with claims := cs.foldl (fun (l : List ClaimRecord) (c : Nat × ClaimRecord) => l.set c.1 c.2) s.claims }
  { u with grants :=
    { data := ⟨20, grantEntries u.claims .data, none⟩
      video := ⟨5, grantEntries u.claims .video, none⟩
      voice := ⟨9, grantEntries u.claims .voice, none⟩ } }

/-- The state after a command. -/
def after (c : Instr) (s : State) : State :=
  match exec c s with
  | .next t => t
  | .fault _ => s
  | .refused _ => s

/-- A frame as it goes on the air. -/
def air (station : Nat) (leaving : Bool) (entries : List HeardRun) : List Byte := withCrc (frameBytes station leaving entries)

/-- A configuration record: the window [10, 119], one lock range, HOLD_LIMIT 0, NOISE_ON 6 and hysteresis 12, video maximum 9. -/
def record : List Byte :=
  withCrc [0xC5, 1, 44, 10, 119, 115, 200, 0xFF, 0xFF, 9, 8, 0xFF, 0xFF, 0, 9, 4, 32, 6, 12, 5, 0xFF, 0, 0, 0, 0, 0, 0, 0, 0, 0]

/-- The station while it reads its configuration. -/
def reading : State := after .resetRelease State.reset

/-! ### Part 2: steps of the spec's examples -/

/-- The CRC of frame bytes followed by their CRC is 0 (R44). -/
theorem test_crc_of_a_frame_with_its_crc : crc16 (air 300 false [⟨⟨72, 4⟩, .data, .held⟩]) = 0 := by decide +kernel

/-- The entry of [72, 75] DATA HELD by the bits of R44: 72, then 0b00101011. -/
theorem test_entry_bytes : entryBytes ⟨⟨72, 4⟩, .data, .held⟩ = [0x48, 0x2B] := by decide

/-- Air times of R37: 88 µs without entries, 408 µs with twenty. -/
theorem test_airTime : airTime (air 300 true []) = 88 ∧
    airTime (air 300 false (List.replicate 20 ⟨⟨72, 4⟩, .data, .held⟩)) = 408 := by decide +kernel

/-- Taps 16, 14, 13 and 11 (R40), by hand: 1 moves up to 2; bit 16 alone gives feedback 1; bits 16 and 14 give 0. -/
theorem test_lfsr : lfsrNext 0x0001 = 0x0002 ∧ lfsrNext 0x8000 = 0x0001 ∧ lfsrNext 0xA000 = 0x4000 := by decide

/-- The three cases at the top of the range (R25). -/
theorem test_filter_top : filterStep 504 63 = 504 ∧ filterStep 503 63 = 504 ∧ filterStep 504 0 = 441 := by decide

/-- A sweep measurement of tile 12 with a level, a noise state, a recovery count and a sample. -/
def sweeping (f : Nat) (x : NoiseState) (n v : Nat) : State :=
  { active with scan := { active.scan with
      tiles := active.scan.tiles.set 12 ⟨f, x, n⟩
      sweep := 12
      measuring := some ⟨12, .sweep, some v, 0⟩ } }

/-- Chapter 2, sweep sample 10: F 100 and sample 2 give F 90 and L 11, below NOISE_OFF 12. -/
theorem test_dwellEnd_sample_10 : (after .dwellEnd (sweeping 100 .noisy 0 2)).noise 12 = ⟨90, .recovering, 1⟩ := by decide +kernel

/-- Chapter 2, sweep sample 13: F 73 gives F 66, and the count of 4 brings QUIET. -/
theorem test_dwellEnd_sample_13 : (after .dwellEnd (sweeping 73 .recovering 3 2)).noise 12 = ⟨66, .quiet, 0⟩ := by decide +kernel

/-- A measurement that yields 80 is taken as 63 (R23). -/
theorem test_sample_clamped : (after (.measSampleValid 80) active).scan.measuring = some ⟨0, .sweep, some 63, 250⟩ := by
  decide +kernel

/-- Thresholds of an accepted record (R182): NOISE_ON 6 with hysteresis 12 leaves hysteresis 5; HOLD_LIMIT 0 is 1; a video
maximum of 9 is 4; the range 115 to 200 is cut at 119, and 9 to 8 is absent. -/
theorem test_config_clamps : (after (.configReadComplete record) reading).loader.config =
    some ⟨300, 10, 119, [(115, 119)], 1, 4, 4, 32, 6, 5, [true, false, true, false], 0x7F⟩ := by decide +kernel

/-- A record with one bit wrong sends the part to FAULT with cause CONFIG, all causes unmasked (R181, R177). -/
theorem test_config_refused : (after (.configReadComplete (record.set 13 1)) reading).loader.faultCause = .config ∧
    (after (.configReadComplete (record.set 13 1)) reading).attn = ⟨0x41, 0x7F⟩ := by decide +kernel

/-- Chapter 10, READ_MAP with start tile 118 and count 4: tile 118 is in an own run, tile 0 has two claimants, 1 is locked. -/
def mapped : State :=
  let s := withClaims [(2, claim .voice 0 .held 1 (some ⟨118, 1⟩) 1)] active
  { s with
    tiles := s.tiles.mapIdx (fun n x => { x with
      inWindow := decide (118 ≤ n)
      locked := decide (n = 1)
      claimants := if n = 0 then [⟨90, .video, .held, .held⟩, ⟨80, .data, .held, .held⟩] else [] })
    scan := { s.scan with
      tiles := ((s.scan.tiles.set 118 ⟨16, .quiet, 0⟩).set 119 ⟨8, .quiet, 0⟩).set 0 ⟨40, .quiet, 0⟩ } }

theorem test_readMap_example : (after (.readMap 118 4) mapped).link.response =
    [0xA0, 0x02, 0x06, 0x01, 0x02, 0x05, 0xD0, 0x00, 0x01] := by decide +kernel

/-- The reset grant record of data, as READ_GRANT shows it (R170). -/
theorem test_readGrant_reset : (after (.readGrant 0) active).link.response =
    [0xA0, 0, 0, 0, 0, 0, 0, 0, 0xFF, 0, 0xFF, 0, 0xFF, 0, 0xFF, 0, 0xFF, 0] := by decide +kernel

/-- The status of the station in ACTIVE: state 2, stamp 41 (R169). -/
theorem test_readStatus_active : (after .readStatus active).link.response =
    [0xA0, 2, 0, 0, 0x7F, 0, 0, 0, 0, 0, 0, 0, 41] := by decide +kernel

/-- Chapter 9, the position before step 1: HOLD_LIMIT 12, all of it held; record 5 seeks for call 0. -/
def beforeLoan : State :=
  let s := withClaims [(0, claim .video 0 .held 1 (some ⟨42, 7⟩) 7), (2, claim .data 0 .held 4 (some ⟨60, 5⟩) 5),
    (5, claim .voice 0 .seeking 3 none 1), (6, claim .voice 1 .seeking 1 none 1)] active
  { s with
    loader := { s.loader with config := some { config with holdLimit := 12 } }
    demand := ⟨0, 8⟩ }

/-- The position after steps 1 and 2. -/
def afterLoans : State := after (.lendRequest 6 1 2 4 63) (after (.lendRequest 5 3 2 4 64) beforeLoan)

/-- Chapter 9, step 1. -/
theorem test_lend_step_1 : (after (.lendRequest 5 3 2 4 64) beforeLoan).loans = [⟨some 2, 4, 5, 3, 64, .out⟩] ∧
    ((after (.lendRequest 5 3 2 4 64) beforeLoan).claim 2).run = some ⟨60, 4⟩ ∧
    (after (.lendRequest 5 3 2 4 64) beforeLoan).grants.data =
      ⟨21, [some ⟨60, 4⟩, none, none, none, none], some ⟨.loaned, 41, none⟩⟩ ∧
    heldTotal (after (.lendRequest 5 3 2 4 64) beforeLoan) = 12 := by decide +kernel

/-- Chapter 9, step 3: entry A is not the top, so record 5 parks on tile 64. -/
theorem test_closeCall_step_3 : ((after (.closeCall 0) afterLoans).claim 5).phase = .parked ∧
    (after (.closeCall 0) afterLoans).grants.voice.generation = 12 ∧
    (after (.closeCall 0) afterLoans).grants.data.generation = 22 := by decide +kernel

/-- Chapter 9, step 4: both tiles go home in one data grant change. -/
theorem test_closeCall_step_4 :
    let t := after (.closeCall 1) { after (.closeCall 0) afterLoans with link := active.link }
    t.loans = [] ∧ (t.claim 2).run = some ⟨60, 5⟩ ∧ (t.claim 5).phase = .free ∧ (t.claim 6).phase = .free ∧
      t.grants.data = ⟨23, [some ⟨60, 5⟩, none, none, none, none], some ⟨.returned, 41, none⟩⟩ := by decide +kernel

/-- Chapter 9, the data ceiling lowered to 2 after step 2: tile 62 is trimmed, and both loans lose their lender. -/
theorem test_setData_orphans : ((after (.setData 0 2) afterLoans).claim 2).run = some ⟨60, 2⟩ ∧
    ((after (.setData 0 2) afterLoans).claim 2).generation = 5 ∧
    (after (.setData 0 2) afterLoans).loans.map (·.lender) = [none, none] := by decide +kernel

/-- Chapter 8: SET_DATA with floor 12 and ceiling 9 over 13 data tiles. -/
def dataHolding : State :=
  withClaims [(0, claim .data 0 .held 1 (some ⟨60, 5⟩) 5), (1, claim .data 1 .held 5 (some ⟨65, 7⟩) 7),
    (9, { claim .data 2 .tentative 1 (some ⟨40, 1⟩) 1 with seekReason := .grow })] active

theorem test_setData_trims : (after (.setData 12 9) dataHolding).demand = ⟨9, 9⟩ ∧
    ((after (.setData 12 9) dataHolding).claim 1).run = some ⟨65, 3⟩ ∧
    ((after (.setData 12 9) dataHolding).claim 1).generation = 6 ∧
    dataCount (after (.setData 12 9) dataHolding) = 9 := by decide +kernel

/-- Chapter 8: a loss of tile 67 leaves [68, 72] of [65, 72], and a loss of tile 69 leaves [65, 68]. -/
theorem test_trim_survivors : trimmedRun ⟨65, 8⟩ 67 = some ⟨68, 5⟩ ∧ trimmedRun ⟨65, 8⟩ 69 = some ⟨65, 4⟩ := by decide

/-- Chapter 4: peer 120, FRESH with [68, 71] VIDEO TENTATIVE, against own record 6, DATA HELD [72, 75]. -/
def beforeFrame : State :=
  let s := withClaims [(6, claim .data 0 .held 1 (some ⟨72, 4⟩) 4)] active
  { s with
    peers := [⟨120, .fresh, 1, [⟨⟨68, 4⟩, .video, .tentative⟩]⟩]
    tiles := s.tiles.mapIdx (fun n x =>
      if 68 ≤ n ∧ n ≤ 71 then { x with claimants := [⟨120, .video, .tentative, .tentative⟩] } else x)
    chan := { s.chan with reception := some [] } }

/-- Chapter 4: the frame {[70, 72] VIDEO HELD, [40, 41] DATA HELD} takes tile 72 from record 6. -/
theorem test_receptionEnd_example :
    let t := after (.receptionEnd (air 120 false [⟨⟨70, 3⟩, .video, .held⟩, ⟨⟨40, 2⟩, .data, .held⟩])) beforeFrame
    (t.tile 68).claimants = [] ∧ (t.tile 70).claimants = [⟨120, .video, .held, .held⟩] ∧
      (t.tile 41).claimants = [⟨120, .data, .held, .held⟩] ∧ (t.claim 6).run = some ⟨73, 3⟩ ∧
      (t.claim 6).generation = 2 ∧ peer t 120 = some ⟨120, .fresh, 0, [⟨⟨70, 3⟩, .video, .held⟩, ⟨⟨40, 2⟩, .data, .held⟩]⟩ := by
  decide +kernel

/-- The station in ACTIVE with its line 2, an EDGE_LEVEL line, asserted, taken and acknowledged (chapter 10). -/
def offHook : State :=
  let s := after (.callLineAssert 2) active
  after (.ackCallLine 2) { s with link := active.link }

theorem test_callLine_first_cycle : offHook.lines[2]? = some ⟨true, true⟩ ∧ slotOpen offHook .voice 2 = true ∧
    (after (.callLineDeassert 2) offHook).lines[2]? = some ⟨false, false⟩ ∧
    slotOpen (after (.callLineDeassert 2) offHook) .voice 2 = false := by decide +kernel

/-- Chapter 8, step 6: with record 7 HELD on tile 30, the growth request of record 8 finds 29 at cost 7 and 31 at cost 5. -/
def growing : State :=
  let s := withClaims [(7, claim .data 0 .held 1 (some ⟨30, 1⟩) 1),
    (8, { claim .data 1 .seeking 1 none 1 with seekReason := .grow })] active
  let levels := (((s.scan.tiles.set 28 ⟨32, .quiet, 0⟩).set 29 ⟨24, .quiet, 0⟩).set 31 ⟨8, .quiet, 0⟩).set 32 ⟨16, .quiet, 0⟩
  { s with scan := { s.scan with tiles := levels } }

theorem test_growth_candidates :
    let p : Placement := ⟨⟨8, 1, .data, 1, .grow, none⟩, .choose, 0, [], none, [], none⟩
    candidates p growing = [29, 31] ∧ runCost growing ⟨29, 1⟩ = 7 ∧ runCost growing ⟨31, 1⟩ = 5 ∧
      winningRun p growing = some ⟨31, 1⟩ := by decide +kernel

/-- The sixteenth-bit wrap of the stamp (R178): 65,535 is followed by 0. -/
theorem test_stamp_wraps : (after .ageingTick { active with clock := ⟨some 1, 0xFFFF⟩ }).clock = ⟨some 100000, 0⟩ := by
  decide +kernel

/-- The bits of R37: sixteen alternating ones, a one first, then 0xB38E and the first byte 0xA1, most significant bit first. -/
theorem test_airBits : (airBits (air 300 true [])).take 40 =
    [true, false, true, false, true, false, true, false, true, false, true, false, true, false, true, false,
      true, false, true, true, false, false, true, true, true, false, false, false, true, true, true, false,
      true, false, true, false, false, false, false, true] ∧ (airBits (air 300 true [])).length = 88 := by decide +kernel

/-- The configuration read sends 0x03, 0x00, 0x00 with CFG_CS_N low, and takes 35 bytes of eight clocks (R180). -/
theorem test_config_read : cfgSdo reading = [3, 0, 0] ∧ cfgCsN reading = false ∧ cfgCsN active = true ∧
    configReadClocks = 280 := by decide +kernel

/-- The request table of R165: codes, argument bytes, and a code in no row. -/
theorem test_decodeRequest : decodeRequest [0x01] = some .readStatus ∧ decodeRequest [0x21, 118, 4] = some (.readMap 118 4) ∧
    decodeRequest [0x10, 12] = none ∧ decodeRequest [0x55] = some (.badCode 0x55) ∧
    requestBytes (.openProgram 1 2) = some [0x11, 1, 2] := by decide

/-- A code byte with argument bytes moves the link to ARGS, and the request's last byte completes it (R163). -/
theorem test_args : (after (.badCode 0x10) active).link.state = .args ∧
    (after (.setData 12 9) (after (.badCode 0x10) active)).demand = ⟨9, 9⟩ ∧
    (after (.setData 12 9) (after (.badCode 0x10) active)).link.response = [0xA0] := by decide +kernel

/-- Three records that seek: 0 for video, 1 for voice, 2 for data. -/
def threeSeeking : State :=
  withClaims [(0, claim .video 0 .seeking 1 none 2), (1, claim .voice 0 .seeking 1 none 1),
    (2, claim .data 0 .seeking 1 none 1)] active

/-- R103 and R114: a VOICE request that follows a VIDEO one in the same step suspends it; of DATA and VIDEO the first arrival
starts. -/
theorem test_arrival_starts :
    let a := (settle (requestPlacement 1 (requestPlacement 0 threeSeeking))).engine
    let b := (settle (requestPlacement 0 (requestPlacement 2 threeSeeking))).engine
    a.active.map (·.request.record) = some 1 ∧ a.suspended.map (·.request.record) = some 0 ∧ a.queue = [] ∧
      b.active.map (·.request.record) = some 2 ∧ b.queue.map (·.record) = [0] ∧ b.suspended = none := by decide +kernel

/-- R104: the loss of a TENTATIVE record discards its placement, which still waits for the commit's answer, and the next
placement starts. -/
theorem test_loss_discards_the_placement :
    let s := withClaims [(0, { claim .video 0 .moving 1 (some ⟨20, 2⟩) 2 with successor := some 4 }),
      (4, { claim .video 0 .tentative 3 (some ⟨50, 2⟩) 2 with predecessor := some 0 }), (1, claim .voice 1 .seeking 1 none 1)] active
    let e : Engine := ⟨[⟨1, 1, .voice, 1, .new, none⟩], some ⟨⟨4, 3, .video, 2, .migrate, some 0⟩, .commit, 0, [],
      some ⟨50, 2⟩, [], none⟩, none⟩
    (settle (applyLoss 4 3 50 77 { s with engine := e })).engine.active.map (·.request.record) = some 1 := by decide +kernel

/-- R45: a deferral backoff and a build that end together. The backoff is taken first; the build finds the frame WAITING again
and supersedes it, and the new frame makes its first attempt. -/
theorem test_backoff_before_build :
    let f : Frame := ⟨air 300 false [], 1, some 1, []⟩
    let s := { active with chan := { active.chan with timer := some 1, bufA := .waiting f }, pins := { active.pins with ccCs := true } }
    let t := after (.announcementTimerExpiry true) (after (.deferralBackoffEnd true) s)
    dueCommands s = [.deferralBackoffEnd true, .announcementTimerExpiry true] ∧
      (match t.chan.bufA with | .waiting g => g.deferrals | _ => 0) = 1 := by decide +kernel

/-- Words that spell requests of the link, the code byte lowest (R165): READ_STATUS, SET_DATA 12 9, SET_DATA without
its argument bytes and with one, which make no request; a code in no row; no word at all. -/
theorem test_decodeTableWord : decodeTableWord 8 0x01 = some .readStatus ∧
    decodeTableWord 24 0x090C10 = some (.setData 12 9) ∧ decodeTableWord 8 0x10 = none ∧ decodeTableWord 16 0x0C10 = none ∧
    decodeTableWord 8 0x55 = some (.badCode 0x55) ∧ decodeTableWord 0 0 = none ∧
    (State.reset.withFetchWord 8 0x31).pending = [.join] := by decide +kernel

/-- A commit to a run whose tile 21 turned NOISY after the re-check (R31, R120): the record is committed, meets its noise notice
and seeks again under a new generation, its placement requested. -/
theorem test_commit_meets_noise :
    let s := withClaims [(4, claim .voice 1 .seeking 3 none 2)] active
    let u := { s with scan := { s.scan with tiles := s.scan.tiles.set 21 ⟨200, .noisy, 0⟩ } }
    ((after (.commit 4 3 ⟨20, 2⟩) u).claim 4).phase = .seeking ∧ ((after (.commit 4 3 ⟨20, 2⟩) u).claim 4).generation = 4 ∧
      (after (.commit 4 3 ⟨20, 2⟩) u).engine.active.map (·.request.generation) = some 4 ∧
      (after (.commit 4 3 ⟨20, 2⟩) u).outbox = [.commitAnswer 4 3 .taken] := by decide +kernel

/-- The ceiling lowered to 4 while tile 64 was out (R160, R147): its return widens record 2 to [60, 64], and the trim that follows leaves
[60, 63] under a new generation; the data grant shows two changes, the second TRIMMED. -/
theorem test_closeCall_trims :
    let lent := after (.lendRequest 5 3 2 4 64) { beforeLoan with claims := beforeLoan.claims.set 6 ClaimRecord.reset }
    let t := after (.closeCall 0) { lent with demand := ⟨0, 4⟩ }
    (t.claim 2).run = some ⟨60, 4⟩ ∧ (t.claim 2).generation = 5 ∧ (t.claim 5).phase = .free ∧ t.loans = [] ∧
      t.grants.data = ⟨23, [some ⟨60, 4⟩, none, none, none, none], some ⟨.trimmed, 41, none⟩⟩ := by decide +kernel

/-- The end of a drain on the top entry, above the RETURNED entry of record 5 (R157 to R159): both are popped, and tile 64, which no
longer lies beside [60, 62], is released with its record FREE. -/
theorem test_drainEnd_pops :
    let s := after (.closeCall 0) afterLoans
    let t := after (.drainEnd 6) { s with claims := s.claims.modify 6 (fun c => { c with phase := .draining, drainCount := 2 }) }
    t.loans = [] ∧ (t.claim 5).phase = .free ∧ (t.claim 6).phase = .free ∧ (t.claim 2).run = some ⟨60, 3⟩ ∧
      t.grants.data.generation = 22 := by decide +kernel

/-- A commit to a run on whose tile 51 peer 120 has claimed VIDEO HELD since the re-check (R17, R120): the record is committed, meets its
loss notice and seeks again under a new generation with one TENTATIVE loss (R88), its placement requested. -/
theorem test_commit_meets_claim :
    let s := withClaims [(4, claim .video 1 .seeking 3 none 2)] active
    let u := { s with tiles := s.tiles.set 51 { s.tile 51 with claimants := [⟨120, .video, .held, .held⟩] } }
    let t := after (.commit 4 3 ⟨50, 2⟩) u
    (t.claim 4).phase = .seeking ∧ (t.claim 4).generation = 4 ∧ (t.claim 4).tentativeLosses = 1 ∧ (t.claim 4).run = none ∧
      t.engine.active.map (·.request.generation) = some 4 ∧ t.outbox = [.commitAnswer 4 3 .taken] := by decide +kernel

/-! ### Part 3: states that meet the hypotheses of the statements -/

/-- The station with one message on its way. -/
def withMessage : State := { active with outbox := [.roomAnswer 4 1 .done] }

theorem witness_EmptyQueueDeliversOrPassesTime : active.pending = [] ∧ active.outbox = [] ∧ withMessage.pending = [] ∧
    withMessage.outbox ≠ [] := by decide +kernel

theorem witness_CommandWithNothingToActOnChangesNothing : State.reset.loader.inReset = true ∧
    active.loader.reading = false ∧ State.reset.clock.ageing = none ∧ State.reset.chan.timer = none ∧
    active.chan.urgentBackoff = none ∧ active.chan.bufA = .empty ∧ active.chan.bufB = .empty ∧
    reading.loader.part = .loading ∧ active.chan.reception = none ∧ State.reset.scan.measuring = none ∧
    State.reset.growth.left = none ∧ active.loader.part ≠ .leaving ∧ (active.claim 19).retry = none ∧
    (active.claim 0).phase ≠ .draining ∧ peer active 120 = none ∧ EngineLaw active ∧ active.loader.part ≠ .warmListen ∧
    (active.noise 119).state ≠ .recovering ∧ active.link.state ≠ .response ∧ active.link.state ≠ .spent ∧ State.reset.link.state = .idle := by
  decide +kernel

theorem witness_ReleaseOfResetStartsTheRead : State.reset.loader.inReset = true ∧ active.loader.inReset = false ∧
    reading.loader.reading = true := by decide

theorem witness_AcceptedRecordEntersWarmListen : reading.loader.inReset = false ∧ reading.loader.reading = true ∧
    reading.loader.part = .loading ∧ byteAt record 0 = 0xC5 ∧
    crc16 (record.take 30) = BitVec.ofNat 16 (value16 (byteAt record 30) (byteAt record 31)) ∧
    value16 (byteAt record 1) (byteAt record 2) ≠ 0 ∧ value16 (byteAt record 1) (byteAt record 2) ≠ 65535 ∧
    (byteAt record 3).toNat ≤ (byteAt record 4).toNat ∧ (byteAt record 4).toNat ≤ 119 := by decide +kernel

/-- One record for each ground of refusal of R181. -/
theorem witness_RefusedRecordEntersFault : byteAt (record.set 0 0xC4) 0 ≠ 0xC5 ∧
    crc16 ((record.set 13 1).take 30) ≠
      BitVec.ofNat 16 (value16 (byteAt (record.set 13 1) 30) (byteAt (record.set 13 1) 31)) ∧
    value16 (byteAt [0xC5, 0, 0] 1) (byteAt [0xC5, 0, 0] 2) = 0 ∧ value16 (byteAt [] 1) (byteAt [] 2) = 65535 ∧
    (byteAt [0xC5, 1, 44, 10, 9] 4).toNat < (byteAt [0xC5, 1, 44, 10, 9] 3).toNat ∧
    119 < (byteAt [0xC5, 1, 44, 10, 120] 4).toNat := by decide +kernel

/-- WARM_LISTEN with a number of ticks counted, line 2 asserted and line 0 not. -/
def warm (n : Nat) : State :=
  { inPart .warmListen with
    loader := { (inPart .warmListen).loader with warmCount := n }
    pins := { active.pins with calls := [false, false, true, false] }
    peers := [⟨120, .fresh, 7, [⟨⟨68, 4⟩, .video, .held⟩]⟩, ⟨130, .stale, 29, []⟩] }

theorem witness_WarmListenEndEntersActive : (warm 30).loader.inReset = false ∧ (warm 30).loader.part = .warmListen ∧
    30 ≤ (warm 30).loader.warmCount ∧ (warm 30).lines.length = 4 ∧ isEdgeLevel (warm 30) 2 = true ∧
    callLevel (warm 30) 2 = true ∧ ((warm 30).line 2).latch = false ∧ callLevel (warm 30) 0 = false ∧
    slotOpen (warm 30) .voice 2 = false ∧ ((warm 30).claim 7).phase = .free ∧ (warm 30).engine = Engine.reset := by decide +kernel

/-- A record that seeks at entry to ACTIVE, the engine empty. -/
theorem witness_WarmListenEnd_seeking :
    let s := withClaims [(3, claim .video 0 .seeking 1 none 2)] (warm 30)
    (s.claim 3).phase = .seeking ∧ s.engine = Engine.reset ∧ s.loader.part = .warmListen := by decide +kernel

/-- LEAVING with a number of frames counted. -/
def leaving (n : Nat) : State := { inPart .leaving with loader := { (inPart .leaving).loader with leavingCount := n } }

/-- Counts one short of what their rows ask for. -/
theorem witness_CommandWithNothingToActOn_counts : (warm 29).loader.warmCount < 30 ∧ EngineLaw (warm 29) ∧
    (leaving 2).loader.leavingCount < 3 ∧ peer (warm 29) 120 = some ⟨120, .fresh, 7, [⟨⟨68, 4⟩, .video, .held⟩]⟩ ∧ 7 < 8 ∧
    peer (warm 29) 130 = some ⟨130, .stale, 29, []⟩ ∧ 29 < 30 := by decide +kernel

theorem witness_LeavingCompleteEntersQuiet : (leaving 3).loader.inReset = false ∧ (leaving 3).loader.part = .leaving ∧
    3 ≤ (leaving 3).loader.leavingCount := by decide

theorem witness_LeaveFreesEverything : active.loader.inReset = false ∧ active.link.state = .code ∧
    active.loader.part = .active ∧ (inPart .warmListen).loader.part = .warmListen ∧
    (inPart .warmListen).link.state = .code := by decide

theorem witness_JoinEntersWarmListen : (inPart .quiet).loader.inReset = false ∧ (inPart .quiet).link.state = .code ∧
    (inPart .quiet).loader.part = .quiet ∧ ownId (inPart .quiet) = some 300 := by decide

theorem witness_AgeingTickAgesEveryPeer : (warm 29).loader.inReset = false ∧ (warm 29).clock.ageing.isSome = true ∧
    PeerLaw (warm 29) ∧ (warm 29).loader.warmCount + 1 = 30 ∧ PeerLaw (warm 28) ∧ (warm 28).loader.warmCount + 1 < 30 ∧
    PeerLaw beforeFrame ∧ beforeFrame.clock.ageing.isSome = true ∧ beforeFrame.loader.part ≠ .warmListen := by
  decide +kernel

/-- Peer 120 at an age, with [72, 75] VIDEO HELD over the own record 6. -/
def aged (age : Nat) (x : PeerState) : State :=
  { beforeFrame with
    peers := [⟨120, x, age, [⟨⟨72, 4⟩, .video, .held⟩]⟩]
    tiles := beforeFrame.tiles.mapIdx (fun n y => { y with
      claimants := if 72 ≤ n ∧ n ≤ 75 then [⟨120, .video, .held, if x = .fresh then .held else .tentative⟩] else [] }) }

theorem witness_PeerStaleWeakensHeldEntries : (aged 8 .fresh).loader.inReset = false ∧
    peer (aged 8 .fresh) 120 = some ⟨120, .fresh, 8, [⟨⟨72, 4⟩, .video, .held⟩]⟩ ∧
    72 ∈ heldTiles ⟨120, .fresh, 8, [⟨⟨72, 4⟩, .video, .held⟩]⟩ ∧
    76 ∉ heldTiles ⟨120, .fresh, 8, [⟨⟨72, 4⟩, .video, .held⟩]⟩ ∧ ClaimantLaw (aged 8 .fresh) := by decide +kernel

theorem witness_PeerGoneDeletesRecordAndEntries : (aged 30 .stale).loader.inReset = false ∧
    peer (aged 30 .stale) 120 = some ⟨120, .stale, 30, [⟨⟨72, 4⟩, .video, .held⟩]⟩ := by decide +kernel

/-- The Peer Table full, one record in the state given. -/
def fullTable (x : PeerState) : State :=
  { beforeFrame with
    peers := (List.range 24).map (fun n => ⟨400 + n, if n = 23 then x else .fresh, if n = 23 ∧ x = .stale then 8 else 0, []⟩)
    tiles := flagTiles config State.reset.tiles }

theorem witness_LeavingFrameDeletesItsPeer : beforeFrame.loader.inReset = false ∧ beforeFrame.chan.reception = some [] ∧
    parseFrame (air 120 true []) = some ⟨120, true, []⟩ ∧ ownId beforeFrame ≠ some 120 ∧ EngineLaw beforeFrame ∧
    AgreementLaw beforeFrame := by decide +kernel

theorem witness_FrameReplacesItsPeersClaims : AgreementLaw beforeFrame ∧ (peer beforeFrame 120).isSome = true ∧
    parseFrame (air 120 false [⟨⟨70, 3⟩, .video, .held⟩]) = some ⟨120, false, [⟨⟨70, 3⟩, .video, .held⟩]⟩ ∧
    peer beforeFrame 99 = none ∧ beforeFrame.peers.length < 24 ∧ runHas ⟨70, 3⟩ 72 = true ∧ 72 < beforeFrame.tiles.length ∧
    ((beforeFrame.tile 72).claimants.filter (fun e => decide (e.station ≠ 120))).length < 3 := by decide +kernel

/-- Tile 30 with the entries of three stations, and a frame in reception. -/
def fullTile : State :=
  let runs (k : ServiceClass) (p : ClaimPhase) : List HeardRun := [⟨⟨30, 1⟩, k, p⟩]
  { active with
    peers := [⟨80, .fresh, 0, runs .voice .held⟩, ⟨90, .fresh, 0, runs .video .held⟩, ⟨95, .fresh, 0, runs .data .tentative⟩]
    tiles := active.tiles.set 30 { active.tile 30 with
      claimants := [⟨80, .voice, .held, .held⟩, ⟨90, .video, .held, .held⟩, ⟨95, .data, .tentative, .tentative⟩] }
    chan := { active.chan with reception := some [] } }

/-- Station 120 with VIDEO HELD, which beats the third entry, and with DATA TENTATIVE, which beats none. -/
theorem witness_FrameReplaces_full_tile : AgreementLaw fullTile ∧
    parseFrame (air 120 false [⟨⟨30, 1⟩, .video, .held⟩]) = some ⟨120, false, [⟨⟨30, 1⟩, .video, .held⟩]⟩ ∧
    parseFrame (air 120 false [⟨⟨30, 1⟩, .data, .tentative⟩]) = some ⟨120, false, [⟨⟨30, 1⟩, .data, .tentative⟩]⟩ ∧
    (∀ e ∈ (fullTile.tile 30).claimants, e.station ≠ 120 ∧
      (peer (after (.receptionEnd (air 120 false [⟨⟨30, 1⟩, .video, .held⟩])) fullTile) e.station).isSome = true ∧
      (peer (after (.receptionEnd (air 120 false [⟨⟨30, 1⟩, .data, .tentative⟩])) fullTile) e.station).isSome = true) ∧
    beats ⟨.video, .held, 120⟩ ⟨.data, .tentative, 95⟩ = true ∧
    (∀ e ∈ (fullTile.tile 30).claimants, beats ⟨.data, .tentative, 120⟩ e.contender = false) ∧ runHas ⟨30, 1⟩ 31 = false := by
  decide +kernel

theorem witness_FrameReplaces_evicting : AgreementLaw (fullTable .stale) ∧
    (∃ x ∈ (fullTable .stale).peers, x.state = .stale) ∧ (fullTable .stale).chan.reception = some [] ∧
    peer (fullTable .stale) 120 = none ∧ 24 ≤ (fullTable .stale).peers.length := by decide +kernel

theorem witness_FullTableDropsNewPeer : (fullTable .fresh).loader.inReset = false ∧
    (fullTable .fresh).chan.reception = some [] ∧ parseFrame (air 120 false []) = some ⟨120, false, []⟩ ∧
    ownId (fullTable .fresh) ≠ some 120 ∧ peer (fullTable .fresh) 120 = none ∧ (fullTable .fresh).peers.length = 24 ∧
    (∀ x ∈ (fullTable .fresh).peers, x.state = .fresh) ∧ EngineLaw (fullTable .fresh) := by decide +kernel

/-- The station in FAULT, receiving. -/
def faulted : State :=
  { inPart .fault with
    loader := { (inPart .fault).loader with faultCause := .duplicateId }
    chan := { Transceiver.reset with lfsr := 300, reception := some [] } }

theorem witness_DuplicateIdEntersFault : parseFrame (air 300 false []) = some ⟨300, false, []⟩ ∧
    ownId beforeFrame = some 300 ∧ beforeFrame.chan.reception = some [] ∧ beforeFrame.loader.part ≠ .fault ∧
    faulted.loader.inReset = false ∧ faulted.chan.reception = some [] ∧ ownId faulted = some 300 ∧
    faulted.loader.part = .fault ∧ EngineLaw faulted := by decide +kernel

/-- One frame for each check of R50, and the entry count 21 of R49. -/
theorem witness_InvalidFrameIsDropped : beforeFrame.loader.inReset = false ∧ beforeFrame.chan.reception = some [] ∧
    ([0xA1, 0, 5, 0, 0, 7] : List Byte).length < 7 + 2 * 0 ∧ ([0xA1] : List Byte).length < 5 ∧
    20 < (byteAt [0xA1, 0, 5, 0, 21] 4).toNat ∧ 5 ≤ ([0xA1, 0, 5, 0, 21] : List Byte).length ∧
    crc16 ([0xA1, 0, 5, 0, 0, 0, 0].take 5) ≠ BitVec.ofNat 16 (value16 0 0) ∧ byteAt (withCrc [0xA2, 0, 5, 0, 0]) 0 ≠ 0xA1 ∧
    value16 (byteAt (air 0 false []) 1) (byteAt (air 0 false []) 2) = 0 ∧
    value16 (byteAt (air 65535 false []) 1) (byteAt (air 65535 false []) 2) = 65535 ∧
    1 < (byteAt (withCrc [0xA1, 0, 5, 2, 0]) 3).toNat ∧ 119 < (byteAt (withCrc [0xA1, 0, 5, 0, 1, 119, 0x09]) 5).toNat +
      (byteAt (withCrc [0xA1, 0, 5, 0, 1, 119, 0x09]) 6).toNat % 8 ∧
    (byteAt (withCrc [0xA1, 0, 5, 0, 1, 5, 0x21]) 6).toNat / 8 % 4 = 0 ∧
    64 ≤ (byteAt (withCrc [0xA1, 0, 5, 0, 1, 5, 0x48]) 6).toNat := by decide +kernel

/-- A waiting frame without entries. -/
def waiting (deferrals : Nat) : Frame := ⟨air 300 true [], deferrals, some 7, []⟩

/-- The station with its frame buffers as given. -/
def buffered (a b : FrameBuffer) (s : State) : State := { s with chan := { s.chan with bufA := a, bufB := b } }

theorem witness_SyncWordBeginsReception : active.loader.inReset = false ∧ active.loader.part ≠ .loading ∧
    active.chan.isSending = false ∧ active.chan.reception = none ∧
    (buffered (.sending (waiting 0) 5) .empty active).chan.isSending = true ∧ beforeFrame.chan.reception = some [] ∧
    5 ≤ ([0xA1, 0, 5, 0, 20] : List Byte).length ∧ (byteAt [0xA1, 0, 5, 0, 20] 4).toNat ≤ 20 := by decide +kernel

theorem witness_LeavingFrameIsBuilt : (leaving 0).loader.inReset = false ∧ (leaving 0).loader.part = .leaving ∧
    (leaving 0).chan.timer.isSome = true ∧ ownId (leaving 0) = some 300 ∧ (leaving 0).chan.isSending = false ∧
    (leaving 0).chan.reception = none ∧ (∃ g m, (buffered (.sending (waiting 0) 5) .empty (leaving 0)).chan.bufA = .sending g m) ∧
    (∃ g m, (buffered .empty (.sending (waiting 0) 5) (leaving 0)).chan.bufB = .sending g m) :=
  ⟨by decide, by decide, by decide, by decide, by decide, by decide, ⟨_, _, rfl⟩, ⟨_, _, rfl⟩⟩

theorem witness_ActiveFrameCarriesEveryRun : active.loader.inReset = false ∧ active.loader.part = .active ∧
    ownId active = some 300 ∧ active.chan.timer.isSome = true ∧ active.chan.isSending = false ∧ active.chan.reception = none ∧
    { active.chan with urgentBackoff := some 3 }.urgentBackoff.isSome = true ∧ beforeFrame.chan.reception.isSome = true ∧
    (buffered (.sending (waiting 0) 5) .empty active).loader = active.loader := by decide +kernel

/-- The data example with record 9 due on a tile, beside none or one of [60, 64] and [65, 71], and a claimant on tile 40. -/
def due (n : Nat) : State :=
  { dataHolding with
    claims := dataHolding.claims.set 9 { claim .data 2 .tentative 1 (some ⟨n, 1⟩) 1 with seekReason := .grow, listenCount := 3 }
    tiles := dataHolding.tiles.set 40 { dataHolding.tile 40 with claimants := [⟨77, .video, .held, .held⟩] } }

/-- Record 9 alone is due; on tile 40 it loses to station 77, on 72 and 59 it has a lower and an upper neighbour, on 80 none. -/
theorem witness_ActiveFrame_due : (∀ r < 20, (active.claim r).due = false) ∧ ((due 72).claim 9).due = true ∧
    (∀ q < 20, q ≠ 9 → ((due 72).claim q).due = false) ∧ firstWinner (due 40) .data 40 = some 77 ∧
    runHas ⟨40, 1⟩ 40 = true ∧ (∀ n < 120, n ≠ 40 → firstWinner (due 72) .data n = none) ∧
    ((due 72).claim 1).run = some ⟨65, 7⟩ ∧ ((due 72).claim 1).phase = .held ∧ ((due 72).claim 1).cls = .data ∧ 7 < 8 ∧
    65 + 7 = 72 ∧ ((due 59).claim 9).run = some ⟨59, 1⟩ ∧ ((due 59).claim 0).run = some ⟨60, 5⟩ ∧
    ((due 59).claim 0).phase = .held ∧ ((due 59).claim 0).cls = .data ∧ 60 = 59 + 1 ∧
    (∀ q < 20, ∀ z ∈ ((due 59).claim q).run, z.first + z.width ≠ 59) ∧
    (∀ q < 20, ∀ z ∈ ((due 80).claim q).run, z.first + z.width ≠ 80 ∧ z.first ≠ 80 + 1) := by decide +kernel

theorem witness_ActiveFrame_runs : OwnRunsLaw (due 72) ∧ OwnRunsLaw (due 59) ∧ OwnRunsLaw (due 80) :=
  ⟨by decide +kernel, by decide +kernel, by decide +kernel⟩

/-- Record 4 due for video, as a primary and as the successor of record 0. -/
theorem witness_ActiveFrame_places :
    let c := { claim .video 0 .tentative 3 (some ⟨50, 2⟩) 2 with listenCount := 3 }
    let s := withClaims [(0, { claim .video 0 .moving 1 (some ⟨20, 2⟩) 2 with successor := some 4 }), (4, c)] active
    let u := withClaims [(0, s.claim 0), (4, { c with predecessor := some 0 })] active
    (s.claim 4).due = true ∧ (s.claim 4).predecessor = none ∧ (s.claim 4).cls ≠ .data ∧
      (u.claim 4).due = true ∧ (u.claim 4).predecessor = some 0 ∧ (∀ q < 20, q ≠ 4 → (u.claim q).due = false) ∧
      firstWinner u .video 50 = none ∧ firstWinner u .video 51 = none := by decide +kernel

theorem witness_Deferral_onAir : (buffered (.sending (waiting 0) 5) .empty active).chan.bufA = .sending (waiting 0) 5 ∧
    (buffered .empty (.sending (waiting 0) 88) active).chan.bufB = .sending (waiting 0) 88 ∧
    83 + 5 = 32 + 8 * (waiting 0).bytes.length ∧ 0 + 88 = 32 + 8 * (waiting 0).bytes.length ∧
    active.chan.isSending = false := by decide +kernel

theorem witness_DeferralEndMakesAnAttempt : (waiting 5).backoff = some 7 ∧ (waiting 5).deferrals < 6 ∧
    6 ≤ (waiting 6).deferrals ∧ (buffered (.waiting (waiting 5)) .empty active).chan.bufA = .waiting (waiting 5) ∧
    (buffered (.waiting (waiting 5)) .empty active).chan.bufB = .empty ∧
    (buffered .empty (.waiting (waiting 6)) beforeFrame).chan.bufB = .waiting (waiting 6) ∧
    (buffered .empty (.waiting (waiting 6)) beforeFrame).chan.bufA = .empty ∧
    beforeFrame.chan.reception.isSome = true ∧ active.chan.reception.isSome = false := by decide +kernel

/-- A frame that carries the TENTATIVE record 9. -/
def carrying : Frame := ⟨air 300 false [⟨⟨40, 1⟩, .data, .tentative⟩], 0, none, [⟨9, 1, .tentative⟩]⟩

theorem witness_SentFrameIsCounted :
    (buffered (.sending carrying 0) .empty dataHolding).chan.endSending = some (carrying, dataHolding.chan) ∧
    (byteAt carrying.bytes 3).getLsbD 0 = false ∧ (carrying.carried.map (·.record)).Nodup ∧
    (∀ i ∈ carrying.carried, (dataHolding.claim i.record).phase ≠ .draining) ∧
    (dataHolding.claim 9).phase = .tentative ∧ (byteAt (waiting 0).bytes 3).getLsbD 0 = true ∧
    (leaving 1).loader.leavingCount + 1 < 3 ∧ (leaving 2).loader.leavingCount + 1 = 3 ∧
    (buffered (.sending (waiting 0) 0) .empty (leaving 2)).chan.endSending = some (waiting 0, (leaving 2).chan) := by
  decide +kernel

/-- Record 5 lends alone: its entry is the bottom and the top of the stack. -/
def oneLoan : State := after (.lendRequest 5 3 2 4 64) { beforeLoan with claims := beforeLoan.claims.set 6 ClaimRecord.reset }

/-- Record 5 of the loan example drains its borrowed tile, below the entry of record 6. -/
def draining : State :=
  { afterLoans with claims := afterLoans.claims.modify 5 (fun c => { c with phase := .draining, drainCount := 2 }) }

/-- Record 0 of the data example drains. -/
def drainingAlone : State :=
  { dataHolding with claims := dataHolding.claims.modify 0 (fun c => { c with phase := .draining, drainCount := 2 }) }

theorem witness_DrainEndFreesTheRecord : draining.loader.inReset = false ∧ 5 < draining.claims.length ∧
    (draining.claim 5).phase = .draining ∧ (draining.claim 5).run.isSome = true ∧ 2 ≤ (draining.claim 5).drainCount ∧
    (draining.claim 5).onLoan = some 0 ∧ draining.loans[0]? = some ⟨some 2, 4, 5, 3, 64, .out⟩ ∧
    (3 : BitVec 4) = (draining.claim 5).generation ∧ 0 + 1 < draining.loans.length ∧
    (drainingAlone.claim 0).phase = .draining ∧ (drainingAlone.claim 0).run.isSome = true ∧
    2 ≤ (drainingAlone.claim 0).drainCount ∧ (drainingAlone.claim 0).onLoan = none := by decide +kernel

/-- Record 5 drains the tile of the one entry, and record 6 that of the top of two, above the RETURNED entry of record 5. -/
theorem witness_DrainEnd_top :
    let s := { oneLoan with claims := oneLoan.claims.modify 5 (fun c => { c with phase := .draining, drainCount := 2 }) }
    let p := after (.closeCall 0) afterLoans
    let u := { p with claims := p.claims.modify 6 (fun c => { c with phase := .draining, drainCount := 2 }) }
    (s.claim 5).phase = .draining ∧ (s.claim 5).onLoan = some 0 ∧ s.loans[0]? = some ⟨some 2, 4, 5, 3, 64, .out⟩ ∧
      (3 : BitVec 4) = (s.claim 5).generation ∧ 0 + 1 = s.loans.length ∧ s.loans.dropLast.getLast? = none ∧
      s.grants.data.entries = grantEntries (s.claims.set 5 (s.claim 5).ended) .data ∧
      (u.claim 6).phase = .draining ∧ (u.claim 6).run.isSome = true ∧ (u.claim 6).onLoan = some 1 ∧
      u.loans = [⟨some 2, 4, 5, 3, 64, .returned⟩, ⟨some 2, 4, 6, 1, 63, .out⟩] ∧ (u.claim 6).generation = 1 := by decide +kernel

/-- Record 0 drains and has been sent once; a frame carries it as HELD. -/
theorem witness_SentFrame_drains :
    let s := { dataHolding with claims := dataHolding.claims.modify 0 (fun c => { c with phase := .draining, drainCount := 1 }) }
    let f : Frame := ⟨air 300 false [⟨⟨60, 5⟩, .data, .held⟩], 0, none, [⟨0, 1, .held⟩]⟩
    (buffered (.sending f 0) .empty s).chan.endSending = some (f, s.chan) ∧ (byteAt f.bytes 3).getLsbD 0 = false ∧
      (f.carried.map (·.record)).Nodup ∧ (s.claim 0).phase = .draining ∧ (s.claim 0).onLoan = none ∧
      (s.claim 0).run.isSome = true ∧ (⟨0, (s.claim 0).generation, .held⟩ : CarriedItem) ∈ f.carried ∧
      1 ≤ (s.claim 0).drainCount := by decide +kernel

theorem witness_FirstSampleOfADwellIsTaken : active.loader.inReset = false ∧
    active.scan.measuring = some ⟨0, .sweep, none, 250⟩ ∧
    (sweeping 100 .noisy 0 2).scan.measuring = some ⟨12, .sweep, some 2, 0⟩ ∧ State.reset.scan.measuring = none := by decide +kernel

theorem witness_SweepDwellFiltersAndDrives : (sweeping 100 .noisy 0 2).loader.inReset = false ∧
    (sweeping 100 .noisy 0 2).scan.measuring = some ⟨12, .sweep, some 2, 0⟩ ∧ 12 < (sweeping 100 .noisy 0 2).scan.tiles.length ∧
    (sweeping 100 .noisy 0 2).scan.spots = [] ∧ active.scan.measuring = some ⟨0, .sweep, none, 250⟩ ∧
    0 < active.scan.tiles.length := by decide +kernel

/-- Tile 12, in the run of record 3, at the end of the sweep dwell that makes it NOISY. -/
def turning (c : ClaimRecord) (full : Bool) : State :=
  let s := withClaims [(3, c)] (sweeping 504 .quiet 0 63)
  { s with claims := if full then s.claims.mapIdx (fun r _ => if r = 3 then c else claim .voice 3 .parked 0 none 1) else s.claims }

theorem witness_SweepDwell_noise :
    let s := turning (claim .video 0 .held 1 (some ⟨12, 2⟩) 2) false
    s.scan.measuring = some ⟨12, .sweep, some 63, 0⟩ ∧ (s.noise 12).state ≠ .noisy ∧
      (sweptNoise (noiseOn s) (noiseOff s) (s.noise 12) (504 - 504 / 8 + 63)).state = .noisy ∧ ownRecord s 12 = some 3 ∧
      (s.claim 3).run = some ⟨12, 2⟩ ∧ (s.claim 3).phase = .held ∧ (s.claim 3).cls ≠ .data ∧ (s.claim 3).successor = none ∧
      (s.claim 3).retry = none ∧ takable .video (some 3) s = some 0 ∧
      takable .video (some 3) (turning (claim .video 0 .held 1 (some ⟨12, 2⟩) 2) true) = none := by decide +kernel

/-- The engine obeys its law, its queue in order; a sample that moves no state, and a tile in no own run. -/
theorem witness_SweepDwell_requests :
    let s := turning (claim .video 0 .held 1 (some ⟨12, 2⟩) 2) false
    s.loader.part = .active ∧ EngineLaw s ∧ s.engine.queue = [] ∧ EngineLaw (sweeping 100 .quiet 0 2) ∧
      (sweptNoise (noiseOn s) (noiseOff s) ⟨100, .quiet, 0⟩ (100 - 100 / 8 + 2)).state = .quiet ∧
      ownRecord (sweeping 504 .quiet 0 63) 12 = none := by decide +kernel

/-- Tile 12 enters QUIET from RECOVERING in the run of record 3: with its retry timer running, with a successor that seeks, and beside a
tile that is not QUIET. -/
theorem witness_SweepDwell_recovers :
    let c := claim .video 0 .held 1 (some ⟨12, 2⟩) 2
    let s := withClaims [(3, { c with retry := some 9 })] (sweeping 0 .recovering 3 0)
    let u := withClaims [(3, { c with successor := some 5 }), (5, { claim .video 0 .seeking 1 none 2 with predecessor := some 3 })]
      (sweeping 0 .recovering 3 0)
    let v := { s with scan := { s.scan with tiles := s.scan.tiles.set 13 ⟨200, .noisy, 0⟩ } }
    s.scan.measuring = some ⟨12, .sweep, some 0, 0⟩ ∧ (s.noise 12).state = .recovering ∧
      (sweptNoise (noiseOn s) (noiseOff s) (s.noise 12) (0 - 0 / 8 + 0)).state = .quiet ∧ ownRecord s 12 = some 3 ∧
      (s.noise 13).state = .quiet ∧ (s.claim 3).successor = none ∧ ownRecord u 12 = some 3 ∧ (u.claim 3).successor = some 5 ∧
      (u.claim 5).run = none ∧ (v.noise 13).state ≠ .quiet := by decide +kernel

/-- The other phases, and the three cases of a trim: [12], [12, 14] and [10, 12]. -/
theorem witness_SweepDwell_phases :
    (∀ c ∈ [claim .voice 0 .tentative 1 (some ⟨12, 1⟩) 1, claim .data 0 .held 1 (some ⟨12, 1⟩) 1,
        claim .data 0 .held 1 (some ⟨12, 3⟩) 3, claim .data 0 .held 1 (some ⟨10, 3⟩) 3,
        { claim .video 0 .held 1 (some ⟨12, 1⟩) 1 with retry := some 9 }, claim .video 0 .moving 1 (some ⟨12, 1⟩) 1,
        claim .video 0 .draining 1 (some ⟨12, 1⟩) 1, claim .voice 0 .parked 1 (some ⟨12, 1⟩) 1],
      ownRecord (turning c false) 12 = some 3 ∧ c.predecessor = none) ∧
    12 - 12 < 12 + 3 - 1 - 12 ∧ 10 + 3 - 1 - 12 ≤ 12 - 10 := by decide +kernel

/-- A TENTATIVE successor on tile 12 that turns NOISY; its predecessor's run is QUIET, or has another NOISY tile. -/
theorem witness_SweepDwell_successor :
    let c := { claim .video 0 .tentative 1 (some ⟨12, 1⟩) 1 with predecessor := some 5 }
    let s := turning c false
    let u := { s with claims := s.claims.set 5 { claim .video 0 .moving 2 (some ⟨30, 1⟩) 1 with successor := some 3 } }
    let v := { u with scan := { u.scan with tiles := u.scan.tiles.set 30 ⟨200, .noisy, 0⟩ } }
    ownRecord u 12 = some 3 ∧ (u.claim 3).phase = .tentative ∧ (u.claim 3).predecessor = some 5 ∧
      (u.claim 5).successor = some 3 ∧ (u.claim 5).run = some ⟨30, 1⟩ ∧ (u.noise 30).state = .quiet ∧ 30 ≠ 12 ∧
      (v.noise 30).state = .noisy := by decide +kernel

/-- A placement that waits in CONFIRM for the spot results of tiles 43 and 44. -/
def confirming : Placement := ⟨⟨4, 1, .video, 2, .new, none⟩, .confirm, 0, [], some ⟨43, 2⟩, [43, 44], none⟩

/-- The measurement of the spot check of tile 43, with the spot queue given. -/
def spotting (m : Measurement) (spots : List SpotEntry) (p : Option Placement) : State :=
  { active with
    scan := { active.scan with spots := spots, measuring := some m }
    engine := ⟨[], p, none⟩ }

theorem witness_SpotDwellUpdatesTheLevelAlone :
    let e : SpotEntry := ⟨43, ⟨4, 1⟩⟩
    let s := spotting ⟨43, .spot, some 17, 0⟩ [e, ⟨44, ⟨4, 1⟩⟩] (some confirming)
    s.loader.inReset = false ∧ EngineLaw s ∧ s.scan.measuring = some ⟨43, .spot, some 17, 0⟩ ∧ 43 < s.scan.tiles.length ∧
      s.scan.spots = e :: [⟨44, ⟨4, 1⟩⟩] ∧ s.engine.active = some confirming ∧ confirming.request.tag = e.tag ∧
      confirming.stage = .confirm ∧ 17 < noiseOn s ∧ e.tile ∈ confirming.pendingSpots ∧
      confirming.pendingSpots.filter (fun n => decide (n ≠ e.tile)) = 44 :: [] ∧
      confirming.request.tag ≠ (⟨4, 2⟩ : SpotTag) ∧
      (spotting ⟨43, .withdrawnSpot, none, 0⟩ [] none).scan.measuring = some ⟨43, .withdrawnSpot, none, 0⟩ ∧
      (spotting ⟨43, .spot, none, 0⟩ [e] none).scan.spots = [e] := by decide +kernel

/-- A placement that waits for the spot result of tile 43 alone. -/
def lastSpot (k : ServiceClass) (width attempts : Nat) (x : Run) : Placement :=
  ⟨⟨4, 1, k, width, .new, none⟩, .confirm, attempts, [], some x, [43], none⟩

theorem witness_SpotDwell_result :
    let e : SpotEntry := ⟨43, ⟨4, 1⟩⟩
    let s := fun (p : Placement) => spotting ⟨43, .spot, some 17, 0⟩ [e] (some p)
    let p := lastSpot .data 2 1 ⟨43, 2⟩
    noiseOn active ≤ 18 ∧ 17 < noiseOn (s p) ∧ (s p).engine.active = some p ∧ p.request.tag = e.tag ∧ p.stage = .confirm ∧
      e.tile ∈ p.pendingSpots ∧ p.pendingSpots.filter (fun n => decide (n ≠ e.tile)) = [] ∧ p.chosen = some ⟨43, 2⟩ ∧
      p.attempts < 3 ∧ 3 ≤ (lastSpot .data 2 3 ⟨43, 2⟩).attempts ∧ ¬holdLimit (s p) < heldTotal (s p) + 2 ∧
      holdLimit (s (lastSpot .data 30 1 ⟨43, 2⟩)) < heldTotal (s (lastSpot .data 30 1 ⟨43, 2⟩)) + 30 ∧
      (∀ n ∈ runTiles ⟨43, 2⟩, eligible (s p) .data n = true) ∧ eligible (s p) .data 47 = false ∧ 47 ∈ runTiles ⟨43, 5⟩ ∧
      (lastSpot .video 2 1 ⟨43, 2⟩).request.cls = .video ∧ (lastSpot .video 2 1 ⟨43, 2⟩).request.predecessor = none ∧
      (∀ n ∈ runTiles ⟨43, 2⟩, eligible (s (lastSpot .video 2 1 ⟨43, 2⟩)) .video n = true) := by decide +kernel

theorem witness_RecoveredTileIsQuiet : (sweeping 66 .recovering 4 2).loader.inReset = false ∧
    12 < (sweeping 66 .recovering 4 2).scan.tiles.length ∧ ((sweeping 66 .recovering 4 2).noise 12).state = .recovering ∧
    4 ≤ ((sweeping 66 .recovering 4 2).noise 12).recovery ∧ ownRecord (sweeping 66 .recovering 4 2) 12 = none := by
  decide +kernel

/-- Record 3, HELD on tile 12 with a successor that seeks, or degraded, or with another tile NOISY, or MOVING. -/
theorem witness_RecoveredTile_quiet :
    let s := withClaims [(3, { claim .video 0 .held 1 (some ⟨12, 2⟩) 2 with successor := some 6 }),
      (6, { claim .video 0 .seeking 1 none 2 with predecessor := some 3 })] (sweeping 66 .recovering 4 2)
    let u := { s with scan := { s.scan with tiles := s.scan.tiles.set 13 ⟨200, .noisy, 0⟩ } }
    let d := withClaims [(3, { claim .video 0 .held 1 (some ⟨12, 2⟩) 2 with retry := some 9 })] (sweeping 66 .recovering 4 2)
    ownRecord s 12 = some 3 ∧ (s.claim 3).phase = .held ∧ (s.claim 3).cls ≠ .data ∧ (s.claim 3).successor = some 6 ∧
      (s.claim 6).run = none ∧ (s.noise 13).state = .quiet ∧ (u.noise 13).state = .noisy ∧ (d.claim 3).successor = none ∧
      (d.claim 3).run = some ⟨12, 2⟩ := by decide +kernel

/-- The data example with record 4 SEEKING for a program, under a HOLD_LIMIT. -/
def seeking (limit : Nat) : State :=
  let s := { dataHolding with claims := dataHolding.claims.set 4 (claim .video 1 .seeking 1 none 3) }
  { s with loader := { s.loader with config := some { config with holdLimit := limit } } }

/-- The held total and the data count are 13; the width is 3. -/
theorem witness_RoomRequestTrimsTheExcessOrNothing : (seeking 16).loader.inReset = false ∧
    ((seeking 16).claim 4).phase = .seeking ∧ ((seeking 16).claim 4).generation = 1 ∧
    heldTotal (seeking 16) + 3 ≤ holdLimit (seeking 16) ∧ dataCount (seeking 2) < heldTotal (seeking 2) + 3 - holdLimit (seeking 2) ∧
    0 < heldTotal (seeking 3) + 3 - holdLimit (seeking 3) ∧
    heldTotal (seeking 3) + 3 - holdLimit (seeking 3) ≤ dataCount (seeking 3) ∧
    (∀ c ∈ (seeking 3).claims, c.isData = true → c.predecessor = none) ∧ ((seeking 16).claim 0).phase ≠ .seeking := by
  decide +kernel

theorem witness_RoomRequest_runs : OwnRunsLaw (seeking 3) := by decide +kernel

theorem witness_AnswersReachTheWaitingPlacement :
    let p : Placement := ⟨⟨4, 1, .video, 3, .new, none⟩, .commit, 3, [], some ⟨50, 3⟩, [], some .requested⟩
    let q : Placement := ⟨⟨9, 1, .data, 1, .grow, none⟩, .commit, 2, [], some ⟨50, 1⟩, [], none⟩
    let v : Placement := ⟨⟨5, 3, .voice, 1, .new, none⟩, .choose, 0, [], none, [], none⟩
    active.loader.inReset = false ∧ (spotting ⟨0, .sweep, none, 250⟩ [] (some p)).engine.active = some p ∧ p.stage = .commit ∧
      p.room = some .requested ∧ p.chosen = some ⟨50, 3⟩ ∧ q.stage = .commit ∧ q.request.cls ≠ .video ∧ q.attempts < 3 ∧
      q.request.cls = .data ∧ p.attempts = 3 ∧ v.stage = .choose ∧ v.attempts < 3 ∧ v.request.cls ≠ .data ∧ (4 : Nat) ≠ 5 := by
  decide +kernel

/-- Answers that find their placement in another stage, or its room field otherwise. -/
theorem witness_Answers_ignored :
    let p : Placement := ⟨⟨4, 1, .video, 3, .new, none⟩, .commit, 3, [], some ⟨50, 3⟩, [], some .requested⟩
    confirming.stage ≠ .commit ∧ confirming.stage ≠ .choose ∧ p.request.cls = .video ∧ p.request.predecessor = none ∧
      p.room ≠ some .done ∧ (lastSpot .voice 1 3 ⟨43, 1⟩).request.cls ≠ .data ∧ (lastSpot .voice 1 3 ⟨43, 1⟩).attempts = 3 := by
  decide +kernel

theorem witness_CommitIsTakenOrRefused : (seeking 16).loader.inReset = false ∧ (seeking 16).loader.part = .active ∧
    ((seeking 16).claim 0).phase ≠ .seeking ∧ ((seeking 16).claim 4).phase = .seeking ∧ ((seeking 16).claim 4).generation = 1 ∧
    isOwn (seeking 16) 64 = true ∧ (∀ n ∈ runTiles ⟨50, 3⟩, isOwn (seeking 16) n = false) ∧
    heldTotal (seeking 16) + 3 ≤ holdLimit (seeking 16) ∧ ¬heldTotal (seeking 15) + 3 ≤ holdLimit (seeking 15) ∧
    ((seeking 16).claim 4).predecessor = none ∧
    ∀ n ∈ runTiles ⟨50, 3⟩, ((seeking 16).tile n).claimants = [] ∧ ((seeking 16).noise n).state = .quiet := by decide +kernel

/-- Record 4 seeks as the successor of record 0, and of the FREE record 10. -/
def succeeding (p : Nat) : State :=
  { seeking 3 with claims := (seeking 3).claims.set 4 { claim .video 1 .seeking 1 none 3 with predecessor := some p } }

theorem witness_Commit_successor : ((succeeding 0).claim 4).predecessor = some 0 ∧ ((succeeding 0).claim 0).phase = .held ∧
    ((succeeding 10).claim 4).predecessor = some 10 ∧ ((succeeding 10).claim 10).phase ≠ .held := by decide +kernel

/-- Record 0 HELD with the successor 4 that seeks, MOVING with the successor 4 that is TENTATIVE, and the pair's tile NOISY. -/
def pair (p q : Phase) (run : Option Run) : State :=
  let s := withClaims [(0, { claim .video 0 p 1 (some ⟨20, 2⟩) 2 with successor := some 4 }),
    (4, { claim .video 0 q 3 run 2 with predecessor := some 0 })] active
  { s with scan := { s.scan with tiles := s.scan.tiles.set 20 ⟨200, .noisy, 0⟩ } }

/-- Commits to a run with a NOISY tile: of a primary, and of a successor beside a clean and an unclean predecessor. -/
theorem witness_Commit_noise :
    let s := { seeking 16 with scan := { (seeking 16).scan with tiles := (seeking 16).scan.tiles.set 51 ⟨200, .noisy, 0⟩ } }
    let u := pair .held .seeking none
    let v := { u with scan := { u.scan with tiles := (u.scan.tiles.set 51 ⟨200, .noisy, 0⟩).set 20 ⟨0, .quiet, 0⟩ } }
    4 < s.claims.length ∧ 51 ∈ runTiles ⟨50, 3⟩ ∧ (s.noise 51).state ≠ .quiet ∧ (s.claim 4).predecessor = none ∧
      (s.claim 4).phase = .seeking ∧ (u.claim 4).phase = .seeking ∧ (u.claim 4).generation = 3 ∧
      (u.claim 4).predecessor = some 0 ∧ (u.claim 0).successor = some 4 ∧ (u.claim 0).phase = .held ∧
      (u.claim 0).run = some ⟨20, 2⟩ ∧ (u.noise 20).state = .noisy ∧ isOwn u 51 = false ∧ isOwn u 20 = true ∧
      (v.noise 20).state = .quiet ∧ (v.noise 21).state = .quiet ∧ (v.noise 51).state = .noisy := by decide +kernel

/-- The state with the claim of peer 120, VIDEO HELD, on tile 51. -/
def outclaimed (s : State) : State :=
  { s with tiles := s.tiles.set 51 { s.tile 51 with claimants := [⟨120, .video, .held, .held⟩] } }

/-- Commits to a run with a stronger claim on it: of a primary at its first and at its fourth loss, and of a successor beside an unclean
and a clean predecessor. -/
theorem witness_Commit_contended :
    let s := outclaimed (seeking 16)
    let w := { s with claims := s.claims.modify 4 (fun c => { c with tentativeLosses := 3 }) }
    EngineLaw s ∧
    let u := outclaimed (pair .held .seeking none)
    let v := { u with scan := { u.scan with tiles := u.scan.tiles.set 20 ⟨0, .quiet, 0⟩ } }
    51 ∈ runTiles ⟨50, 2⟩ ∧ beats ⟨.video, .held, 120⟩ ⟨(s.claim 4).cls, .tentative, (ownId s).getD 0⟩ = true ∧
      4 < s.claims.length ∧ (s.claim 4).phase = .seeking ∧ (s.claim 4).predecessor = none ∧ (s.claim 4).tentativeLosses < 3 ∧
      (w.claim 4).phase = .seeking ∧ 3 ≤ (w.claim 4).tentativeLosses ∧ judgeCommit 4 1 ⟨50, 2⟩ s = .taken ∧
      judgeCommit 4 1 ⟨50, 2⟩ w = .taken ∧ (u.claim 4).predecessor = some 0 ∧ judgeCommit 4 3 ⟨50, 2⟩ u = .taken ∧
      beats ⟨.video, .held, 120⟩ ⟨(u.claim 4).cls, .tentative, (ownId u).getD 0⟩ = true ∧ anyNoisy u 0 = true ∧
      judgeCommit 4 3 ⟨50, 2⟩ v = .taken ∧ anyNoisy v 0 = false := by decide +kernel

theorem witness_LendPassesTheLastTile : beforeLoan.loader.inReset = false ∧ beforeLoan.loader.part = .active ∧
    beforeLoan.loans.length < 4 ∧ (beforeLoan.claim 5).cls = .voice ∧ (beforeLoan.claim 5).phase = .seeking ∧
    (beforeLoan.claim 5).generation = 3 ∧ (beforeLoan.claim 5).predecessor = none ∧ (beforeLoan.claim 2).cls = .data ∧
    (beforeLoan.claim 2).phase = .held ∧ (beforeLoan.claim 2).generation = 4 ∧
    (beforeLoan.claim 2).run = some ⟨60, 5⟩ ∧ 2 ≤ 5 ∧ 60 + 5 = 64 + 1 ∧ (beforeLoan.claim 5).generation ≠ 2 := by decide +kernel

theorem witness_OutcomeWithoutRoom : (seeking 16).loader.inReset = false ∧ (seeking 16).loader.part = .active ∧
    ((seeking 16).claim 4).phase = .seeking ∧ ((seeking 16).claim 4).run = none ∧ ((seeking 16).claim 4).predecessor = none ∧
    ((seeking 16).claim 4).seekReason ≠ .grow ∧ (growing.claim 8).phase = .seeking ∧ (growing.claim 8).generation = 1 ∧
    (growing.claim 8).seekReason = .grow ∧ (growing.claim 8).predecessor = none ∧ (growing.claim 8).run = none ∧
    ((succeeding 0).claim 4).predecessor = some 0 ∧ 0 < (succeeding 0).claims.length ∧
    ((seeking 16).claim 0).phase ≠ .seeking := by decide +kernel

/-- Record 1, VIDEO HELD and degraded, on a tile in the noise state given; every record taken or not. -/
def degraded (x : NoiseState) (full : Bool) : State :=
  let s := withClaims [(1, { claim .video 0 .held 1 (some ⟨20, 2⟩) 2 with retry := some 1 })] active
  { s with
    claims := if full then s.claims.mapIdx (fun r c => if r = 1 then c else claim .voice 3 .parked 0 none 1) else s.claims
    scan := { s.scan with tiles := s.scan.tiles.set 20 ⟨200, x, 0⟩ } }

theorem witness_RetryExpiryTriesAgain : (degraded .noisy false).loader.inReset = false ∧
    (degraded .noisy false).loader.part = .active ∧ 1 < (degraded .noisy false).claims.length ∧
    ((degraded .noisy false).claim 1).retry.isSome = true ∧ ((degraded .noisy false).claim 1).phase = .held ∧
    anyNoisy (degraded .noisy false) 1 = true ∧ ((degraded .noisy false).claim 1).successor = none ∧
    takable .video (some 1) (degraded .noisy false) = some 0 ∧ takable .video (some 1) (degraded .noisy true) = none ∧
    EngineLaw (degraded .noisy true) ∧ EngineLaw (degraded .noisy false) ∧ (degraded .noisy false).engine.queue = [] ∧ anyNoisy (degraded .quiet false) 1 = false ∧ EngineLaw (degraded .quiet false) := by
  decide +kernel

/-- Record 4 SEEKING with its retry timer running. -/
theorem witness_RetryExpiry_seeking :
    let s := { seeking 16 with claims := (seeking 16).claims.modify 4 (fun c => { c with retry := some 1 }) }
    4 < s.claims.length ∧ (s.claim 4).retry.isSome = true ∧ (s.claim 4).phase = .seeking := by decide +kernel

/-- The station with a demand and a pace count. -/
def demanding (floor ceiling pace : Nat) (s : State) : State := { s with demand := ⟨floor, ceiling⟩, growth := ⟨some 0, pace⟩ }

/-- The data count of the loan example is 5, its held total at HOLD_LIMIT 12; that of the growth example is 1. -/
theorem witness_GrowthExpiryComparesDemand : (demanding 0 5 0 beforeLoan).loader.inReset = false ∧
    (demanding 0 5 0 beforeLoan).growth.left.isSome = true ∧
    (demanding 0 5 0 beforeLoan).demand.ceiling ≤ dataCount (demanding 0 5 0 beforeLoan) ∧
    dataCount (demanding 5 6 0 beforeLoan) < 6 ∧ ¬dataCount (demanding 5 6 0 beforeLoan) < 5 ∧
    dataCount (demanding 6 6 0 beforeLoan) < 6 ∧ heldTotal (demanding 6 6 0 beforeLoan) = holdLimit (demanding 6 6 0 beforeLoan) ∧
    min 4 ((demanding 0 2 3 growing).growth.pace + 1) = 4 ∧ dataCount (demanding 0 2 3 growing) < 2 ∧
    growthExists (demanding 0 2 3 growing) = true ∧ growthExists (demanding 6 6 0 beforeLoan) = false ∧
    (freeRecord (demanding 1 1 0 active)).isSome = true ∧ dataCount (demanding 1 1 0 active) < 1 ∧
    heldTotal (demanding 1 1 0 active) ≠ holdLimit (demanding 1 1 0 active) ∧ dataRecords (demanding 1 1 0 active) < 5 := by
  decide +kernel

/-- Data slot 0 is taken, so that 1 is the lowest free one. -/
theorem witness_GrowthExpiry_slot :
    let s := demanding 2 2 0 { growing with claims := growing.claims.set 8 ClaimRecord.reset }
    s.growth.left.isSome = true ∧ dataCount s < 2 ∧ growthExists s = false ∧ heldTotal s ≠ holdLimit s ∧ dataRecords s < 5 ∧
      (freeRecord s).isSome = true ∧ s.loader.part = .active ∧ EngineLaw s ∧ s.engine.queue = [] ∧ (s.claim 7).cls = .data ∧ (s.claim 7).phase ≠ .free ∧ (s.claim 7).slot = 0 := by
  decide +kernel

/-- Record 0 VIDEO HELD, record 9 TENTATIVE, and record 1 DATA HELD. -/
theorem witness_LossNoticeByPhaseAndClass : 0 < beforeLoan.claims.length ∧ (beforeLoan.claim 0).run = some ⟨42, 7⟩ ∧
    runHas ⟨42, 7⟩ 48 = true ∧ (beforeLoan.claim 0).phase = .held ∧ (beforeLoan.claim 0).cls ≠ .data ∧
    (beforeLoan.claim 0).successor = none ∧ (beforeLoan.claim 0).onLoan = none ∧ (dataHolding.claim 9).phase = .tentative ∧
    (dataHolding.claim 9).run = some ⟨40, 1⟩ ∧ runHas ⟨40, 1⟩ 40 = true ∧ (dataHolding.claim 9).predecessor = none ∧
    (dataHolding.claim 1).phase = .held ∧ (dataHolding.claim 1).cls = .data ∧ (dataHolding.claim 1).run = some ⟨65, 7⟩ ∧
    runHas ⟨65, 7⟩ 68 = true ∧ 65 + 7 - 1 - 68 ≤ 68 - 65 ∧ 67 - 65 < 65 + 7 - 1 - 67 ∧ (growing.claim 7).run = some ⟨30, 1⟩ ∧
    (growing.claim 7).phase = .held ∧ (growing.claim 7).cls = .data := by decide +kernel

/-- Record 9 at its first loss and at its fourth. -/
theorem witness_LossNotice_fourth :
    let s := { dataHolding with claims := dataHolding.claims.modify 9 (fun c => { c with tentativeLosses := 3 }) }
    dataHolding.loader.part = .active ∧ (dataHolding.claim 9).tentativeLosses + 1 < 4 ∧ (s.claim 9).phase = .tentative ∧
      (s.claim 9).run = some ⟨40, 1⟩ ∧ (s.claim 9).predecessor = none ∧ ¬(s.claim 9).tentativeLosses + 1 < 4 := by decide +kernel

theorem witness_LossNotice_successors :
    let s := pair .held .seeking none
    let u := pair .moving .tentative (some ⟨50, 2⟩)
    (s.claim 0).phase = .held ∧ (s.claim 0).cls ≠ .data ∧ (s.claim 0).successor = some 4 ∧ (s.claim 4).run = none ∧
      (s.claim 4).cls = (s.claim 0).cls ∧ (u.claim 0).phase = .moving ∧ (u.claim 0).successor = some 4 ∧
      (u.claim 4).phase = .tentative ∧ (u.claim 4).predecessor = some 0 ∧ (u.claim 4).run = some ⟨50, 2⟩ ∧
      runHas ⟨50, 2⟩ 51 = true ∧ anyNoisy u 0 = true ∧ (u.claim 0).onLoan = none := by decide +kernel

/-- Record 5 of the loan examples: its entry the top of the stack, and below another; parked on it, and draining it. -/
theorem witness_LossNotice_loans : (oneLoan.claim 5).run = some ⟨64, 1⟩ ∧ (oneLoan.claim 5).onLoan = some 0 ∧
    0 + 1 = oneLoan.loans.length ∧ oneLoan.loans.dropLast.getLast? = none ∧
    oneLoan.grants.data.entries = grantEntries oneLoan.claims .data ∧ (afterLoans.claim 5).onLoan = some 0 ∧
    0 + 1 ≠ afterLoans.loans.length ∧ ((after (.closeCall 0) afterLoans).claim 5).phase = .parked ∧
    ((after (.closeCall 0) afterLoans).claim 5).run = some ⟨64, 1⟩ ∧
    ((after (.closeCall 0) afterLoans).claim 5).onLoan = some 0 ∧ (draining.claim 5).run = some ⟨64, 1⟩ := by decide +kernel

/-- The voice request of record 5, where the held total is at the limit, where it is not, and with no record that lends. -/
theorem witness_WinningRunIsCheapest :
    let p : Placement := ⟨⟨5, 3, .voice, 1, .new, none⟩, .choose, 0, [], none, [], none⟩
    let none' := { beforeLoan with claims := beforeLoan.claims.set 2 ClaimRecord.reset }
    p.request.reason ≠ .grow ∧ p.request.predecessor = none ∧ heldTotal beforeLoan = holdLimit beforeLoan ∧
      beforeLoan.loans.length < 4 ∧ (beforeLoan.claim 2).cls = .data ∧ (beforeLoan.claim 2).phase = .held ∧
      2 ≤ (beforeLoan.claim 2).runWidth ∧ winningRun p active = some ⟨110, 1⟩ ∧ heldTotal active ≠ holdLimit active ∧
      (∀ n ∈ runTiles ⟨110, 1⟩, (active.tile n).claimants = []) ∧ heldTotal none' ≠ holdLimit none' ∧
      (∀ q < 20, ¬((active.claim q).cls = .data ∧ (active.claim q).phase = .held)) ∧
      winningRun { p with request := { p.request with width := 8 }, excluded := List.range 120 } active = none := by decide +kernel

/-- A growth request with tiles beside record 7, with none but few DATA records, and with four. -/
theorem witness_WinningRun_growth :
    let p : Placement := ⟨⟨8, 1, .data, 1, .grow, none⟩, .choose, 0, [], none, [], none⟩
    let four := withClaims ((List.range 4).map (fun n => (n, claim .data n .held 1 (some ⟨20 + 10 * n, 8⟩) 8))) active
    p.request.reason = .grow ∧ p.request.width = 1 ∧ (growing.claim 7).run = some ⟨30, 1⟩ ∧
      eligible growing .data 29 = true ∧ (active.claims.filter (fun c => c.cls == .data && c.phase == .held)).length < 4 ∧
      ¬(four.claims.filter (fun c => c.cls == .data && c.phase == .held)).length < 4 := by decide +kernel

theorem witness_LinkTransactionRuns : reading.loader.inReset = false ∧ reading.pins.linkSelected = false ∧
    State.reset.loader.inReset = true ∧ active.pins.linkSelected = true ∧
    (after .readStatus active).link.state = .response ∧ (after .readStatus active).link.response[0]? = some 0xA0 := by
  decide +kernel

theorem witness_LinkTransaction_spent : requestBytes .readStatus = some [0x01] ∧
    (after .linkTimeout active).link.state = .spent ∧ (after .linkTimeout active).loader.inReset = false ∧
    (after .readStatus active).loader.inReset = false ∧ (after (.badCode 0x10) active).link.state = .args ∧
    active.link.state = .code := by decide +kernel

theorem witness_LinkTransaction_timeout : active.loader.inReset = false ∧ active.pins.linkSelected = true ∧
    active.link.state ≠ .idle ∧ active.link.timedOut = false ∧ (after .linkTimeout active).link.timedOut = true ∧
    (after .linkTimeout active).link.state ≠ .idle ∧ (after .linkTimeout active).pins.linkSelected = true := by decide +kernel

/-- The station with every record taken by a call of slot 3, and with call 0 and program 1 open. -/
def crowded : State := { active with claims := active.claims.map (fun _ => claim .voice 3 .held 0 none 1) }
def opened : State := withClaims [(1, claim .video 1 .held 1 (some ⟨20, 2⟩) 2), (2, claim .voice 0 .held 1 (some ⟨80, 1⟩) 1)] active

theorem witness_RefusedRequestHasNoEffect : active.loader.inReset = false ∧ active.link.state = .code ∧
    requestCodes.contains 0x55 = false ∧ faulted.loader.part = .fault ∧ faulted.link.state = .code ∧
    (inPart .loading).loader.part = .loading ∧ (inPart .quiet).loader.part ≠ .warmListen ∧
    active.loader.part ≠ .quiet ∧ (0x80 : Byte).getLsbD 7 = true ∧ 2 < (3 : Byte).toNat ∧ 119 < (120 : Byte).toNat ∧
    120 < (121 : Byte).toNat ∧ 3 < (4 : Byte).toNat ∧ 8 < (9 : Byte).toNat ∧ slotOpen opened .video 1 = true ∧
    slotOpen opened .voice 0 = true ∧ slotOpen active .video 3 = false ∧ (active.line 3).latch = false ∧
    freeRecord crowded = none ∧ slotOpen crowded .voice 0 = false := by decide +kernel

theorem witness_ReadsAnswerFromASnapshot : active.loader.inReset = false ∧ active.link.state = .code ∧
    serviceByte .data = 0 ∧ serviceByte .video = 1 ∧ serviceByte .voice = 2 ∧ (119 : Byte).toNat ≤ 119 ∧
    1 ≤ (1 : Byte).toNat ∧ (120 : Byte).toNat ≤ 120 := by decide

theorem witness_AckAttnClearsNamedCauses : active.loader.inReset = false ∧ active.link.state = .code ∧
    (0x7F : Byte).getLsbD 7 = false := by decide

theorem witness_SetDataReplacesTheDemand : active.loader.inReset = false ∧ active.link.state = .code ∧
    active.loader.part ≠ .loading ∧ active.loader.part ≠ .fault ∧ EngineLaw dataHolding ∧ dataHolding.loader.part = .active ∧
    EngineLaw (inPart .quiet) ∧ (inPart .quiet).loader.part ≠ .active ∧ dataCount dataHolding < 32 ∧ 9 ≤ dataCount dataHolding ∧
    growing.claims.findIdx? (fun c => c.cls == .data && c.phase == .seeking) = some 8 ∧ 1 ≤ dataCount growing := by
  decide +kernel

theorem witness_SetData_runs : OwnRunsLaw dataHolding := by decide +kernel

theorem witness_OpenTakesARecord : active.loader.inReset = false ∧ active.link.state = .code ∧ active.loader.part ≠ .loading ∧
    active.loader.part ≠ .fault ∧ active.loader.part = .active ∧ (3 : Byte).toNat ≤ 3 ∧ 1 ≤ (8 : Byte).toNat ∧ (8 : Byte).toNat ≤ 8 ∧
    freeRecord active = some 0 ∧ slotOpen active .video 3 = false ∧ openCount active .video < classMax active .video ∧
    slotOpen active .voice 3 = false ∧ openCount active .voice < classMax active .voice ∧
    (inPart .quiet).loader.part ≠ .active ∧ EngineLaw (inPart .quiet) := by decide +kernel

theorem witness_CloseProgramEndsItsRecords : opened.loader.inReset = false ∧ opened.link.state = .code ∧
    opened.loader.part = .active ∧ slotOpen opened .video 1 = true ∧ opened.claims.length = 20 ∧
    (opened.claim 1).cls = .video ∧ (opened.claim 1).slot = 1 ∧ (opened.claim 1).phase = .held ∧
    (opened.claim 1).run.isSome = true := by decide +kernel

/-- A program whose record seeks, so that no record of it has a run. -/
theorem witness_CloseProgram_seeking :
    let s := withClaims [(1, claim .video 1 .seeking 1 none 2)] active
    slotOpen s .video 1 = true ∧ s.claims.length = 20 ∧
      ∀ r < 20, (s.claim r).cls = .video → (s.claim r).slot = 1 → (s.claim r).phase ≠ .free → (s.claim r).run = none := by decide +kernel

theorem witness_CloseCall_parks : afterLoans.loader.inReset = false ∧ afterLoans.link.state = .code ∧
    afterLoans.claims.length = 20 ∧ slotOpen afterLoans .voice 0 = true ∧ (afterLoans.claim 5).cls = .voice ∧
    (afterLoans.claim 5).slot = 0 ∧ (afterLoans.claim 5).phase = .held ∧ (afterLoans.claim 5).predecessor = none ∧
    (afterLoans.claim 5).onLoan = some 0 ∧
    (∀ q < 20, q ≠ 5 → (afterLoans.claim q).cls = .voice → (afterLoans.claim q).slot = 0 → (afterLoans.claim q).phase = .free) ∧
    afterLoans.loans[0]? = some ⟨some 2, 4, 5, 3, 64, .out⟩ ∧ (3 : BitVec 4) = (afterLoans.claim 5).generation ∧
    (afterLoans.claim 5).run = some ⟨64, 1⟩ ∧ 0 + 1 < afterLoans.loans.length ∧
    afterLoans.loans.getLast? = some ⟨some 2, 4, 6, 1, 63, .out⟩ ∧ dataCount afterLoans ≤ afterLoans.demand.ceiling := by
  decide +kernel

theorem witness_CloseCall_returns : oneLoan.loader.inReset = false ∧ oneLoan.link.state = .code ∧
    oneLoan.claims.length = 20 ∧ (oneLoan.claim 5).cls = .voice ∧ (oneLoan.claim 5).slot = 0 ∧ (oneLoan.claim 5).phase = .held ∧
    (oneLoan.claim 5).predecessor = none ∧ (oneLoan.claim 5).onLoan = some 0 ∧
    (∀ q < 20, q ≠ 5 → (oneLoan.claim q).cls = .voice → (oneLoan.claim q).slot = 0 → (oneLoan.claim q).phase = .free) ∧
    oneLoan.loans[0]? = some ⟨some 2, 4, 5, 3, 64, .out⟩ ∧ (oneLoan.claim 5).run = some ⟨64, 1⟩ ∧
    0 + 1 = oneLoan.loans.length ∧ (oneLoan.claim 2).cls = .data ∧ (oneLoan.claim 2).phase = .held ∧
    (oneLoan.claim 2).generation = 4 ∧ (oneLoan.claim 2).run = some ⟨60, 4⟩ ∧ 60 + 4 = 64 ∧ 4 < 8 ∧
    dataCount oneLoan < oneLoan.demand.ceiling := by decide +kernel

theorem witness_CloseCall_runs : OwnRunsLaw oneLoan ∧ OwnRunsLaw afterLoans := ⟨by decide +kernel, by decide +kernel⟩

/-- Record 6 of the loan example: its entry is the top, above the OUT entry of record 5, and can go home. -/
theorem witness_CloseCall_above : (afterLoans.claim 6).cls = .voice ∧ (afterLoans.claim 6).slot = 1 ∧
    (afterLoans.claim 6).phase = .held ∧ (afterLoans.claim 6).onLoan = some 1 ∧ slotOpen afterLoans .voice 1 = true ∧
    (∀ q < 20, q ≠ 6 → (afterLoans.claim q).cls = .voice → (afterLoans.claim q).slot = 1 → (afterLoans.claim q).phase = .free) ∧
    afterLoans.loans[1]? = some ⟨some 2, 4, 6, 1, 63, .out⟩ ∧ (1 : BitVec 4) = (afterLoans.claim 6).generation ∧
    (afterLoans.claim 6).run = some ⟨63, 1⟩ ∧ 1 + 1 = afterLoans.loans.length ∧
    afterLoans.loans.dropLast.getLast? = some ⟨some 2, 4, 5, 3, 64, .out⟩ ∧ (afterLoans.claim 2).cls = .data ∧
    (afterLoans.claim 2).phase = .held ∧ (afterLoans.claim 2).generation = 4 ∧ (afterLoans.claim 2).run = some ⟨60, 3⟩ ∧
    60 + 3 = 63 ∧ 3 < 8 ∧ dataCount afterLoans < afterLoans.demand.ceiling := by decide +kernel

/-- The lender of the one loan has moved to another generation, so that the tile cannot go home. -/
theorem witness_CloseCall_releases :
    let s := { oneLoan with claims := oneLoan.claims.modify 2 (fun c => { c with generation := 5 }) }
    (s.claim 5).phase = .held ∧ (s.claim 5).onLoan = some 0 ∧ slotOpen s .voice 0 = true ∧ 0 + 1 = s.loans.length ∧
      s.loans.dropLast.getLast? = none ∧ s.loans[0]? = some ⟨some 2, 4, 5, 3, 64, .out⟩ ∧ (s.claim 5).run = some ⟨64, 1⟩ ∧
      (s.claim 2).generation ≠ 4 ∧ dataCount s ≤ s.demand.ceiling := by decide +kernel

/-- The claim records and entries that the unwinding leaves of the one loan, the data count 5 above a ceiling of 4 and within 8; and two
entries popped together. -/
theorem witness_ReturnsGranted :
    let v := { oneLoan with
      claims := (oneLoan.claims.set 2 { oneLoan.claim 2 with run := some ⟨60, 5⟩, width := 5 }).set 5 (oneLoan.claim 5).ended
      loans := [] }
    let e : LoanEntry := ⟨some 2, 4, 5, 3, 64, .returned⟩
    grantEntries v.claims .data ≠ v.grants.data.entries ∧ 4 < dataCount v ∧ dataCount v ≤ v.demand.ceiling ∧
      grantEntries opened.claims .data = opened.grants.data.entries ∧ poppedEntries [e, { e with tile := 63 }] = [{ e with tile := 63 }, e] ∧
      remainingEntries [e, { e with state := .out }, e, e] = [e, { e with state := .out }] ∧
      (oneLoan.claim 5).closes 0 = true ∧ holdsLoan oneLoan 5 = true := by decide +kernel

theorem witness_ReturnsGranted_runs : OwnRunsLaw { oneLoan with
    claims := (oneLoan.claims.set 2 { oneLoan.claim 2 with run := some ⟨60, 5⟩, width := 5 }).set 5 (oneLoan.claim 5).ended
    loans := [] } := by decide +kernel

/-- Call 2, of record 8 and its successor, without a loan, while the loans of calls 0 and 1 are out. -/
theorem witness_CloseCall_others_out :
    let s := { afterLoans with claims := (afterLoans.claims.set 8 { claim .voice 2 .held 1 (some ⟨80, 1⟩) 1 with
      successor := some 9 }).set 9 { claim .voice 2 .seeking 1 none 1 with predecessor := some 8 } }
    slotOpen s .voice 2 = true ∧ s.loans ≠ [] ∧ (∀ q < 20, (s.claim q).cls = .voice → (s.claim q).slot = 2 → (s.claim q).onLoan = none) ∧
      s.loans.getLast? = some ⟨some 2, 4, 6, 1, 63, .out⟩ ∧ (s.claim 8).run.isSome = true ∧ dataCount s ≤ s.demand.ceiling := by
  decide +kernel

theorem witness_CloseCall_without_loan : slotOpen opened .voice 0 = true ∧ opened.loans = [] ∧
    dataCount opened ≤ opened.demand.ceiling ∧ opened.claims.length = 20 ∧ slotOpen opened .voice 3 = false := by decide +kernel

/-- Lines 1 (EDGE) and 2 (EDGE_LEVEL) taken; line 2 asserted or not. -/
def taken (level : Bool) : State :=
  { active with
    lines := [⟨false, false⟩, ⟨true, false⟩, ⟨true, false⟩, ⟨false, false⟩]
    pins := { active.pins with calls := [false, false, level, false] } }

theorem witness_AckCallLineBySensitivity : (taken true).loader.inReset = false ∧ (taken true).link.state = .code ∧
    (taken true).loader.part = .active ∧ EngineLaw (taken true) ∧ ((taken true).line 1).latch = true ∧
    isEdgeLevel (taken true) 1 = false ∧ ((taken true).line 2).latch = true ∧ isEdgeLevel (taken true) 2 = true ∧
    callLevel (taken true) 2 = true ∧ callLevel (taken false) 2 = false ∧ slotOpen (taken false) .voice 2 = false ∧
    EngineLaw (taken false) ∧ (taken false).claims.length = 20 := by decide +kernel

theorem witness_CallLineEdgesOpenAndClose : active.loader.inReset = false ∧ active.loader.part = .active ∧ EngineLaw active ∧
    callLevel active 3 = false ∧ (active.line 3).latch = false ∧ ((taken false).line 2).latch = true ∧
    callLevel (taken false) 2 = false ∧ slotOpen active .voice 3 = false ∧ openCount active .voice < classMax active .voice ∧
    freeRecord active = some 0 ∧ slotOpen opened .voice 0 = true ∧ callLevel opened 0 = false ∧ (opened.line 0).latch = false ∧
    freeRecord crowded = none ∧ slotOpen crowded .voice 0 = false ∧ callLevel offHook 2 = true ∧ isEdgeLevel offHook 2 = true ∧
    (offHook.line 2).latch = true ∧ (offHook.line 2).ack = true ∧ callLevel (taken true) 2 = true ∧
    ((taken true).line 2).ack = false := by decide +kernel

/-- Where a line is not watched, and where its call waits for entry to ACTIVE. -/
theorem witness_CallLine_level : State.reset.loader.inReset = true ∧ (inPart .loading).loader.part = .loading ∧
    (inPart .fault).loader.part = .fault ∧ callLevel State.reset 0 = false ∧ callLevel (inPart .fault) 1 = false ∧
    (inPart .quiet).loader.part ≠ .active ∧ EngineLaw (inPart .quiet) ∧ callLevel (inPart .quiet) 3 = false ∧
    ((inPart .quiet).line 3).latch = false ∧ slotOpen (inPart .quiet) .voice 3 = false ∧
    openCount (inPart .quiet) .voice < classMax (inPart .quiet) .voice ∧ freeRecord (inPart .quiet) = some 0 := by decide +kernel

theorem witness_CallLine_engine : offHook.claims.length = 20 ∧ EngineLaw offHook ∧ EngineLaw crowded ∧ EngineLaw opened := by decide +kernel

theorem witness_StepKeepsClaimantLists : ClaimantLaw beforeFrame ∧ ∃ t, step beforeFrame = .next t :=
  ⟨by decide +kernel, _, rfl⟩

theorem witness_StepKeepsPeerTable : PeerLaw (warm 29) ∧ ∃ t, step (warm 29) = .next t := ⟨by decide +kernel, _, rfl⟩

theorem witness_StepKeepsMapAgreement : AgreementLaw beforeFrame ∧ ∃ t, step beforeFrame = .next t :=
  ⟨by decide +kernel, _, rfl⟩

theorem witness_StepKeepsOwnRunsApart : (∀ c, { oneLoan with pending := [.closeCall 0] }.pending.head? = some c →
    wellFormed c = true) ∧ OwnRunsLaw { oneLoan with pending := [.closeCall 0] } :=
  ⟨by intro c h; cases h; rfl, by decide +kernel⟩

theorem witness_StepKeepsEngineBusy : EngineLaw (spotting ⟨43, .spot, some 17, 0⟩ [⟨43, ⟨4, 1⟩⟩] (some confirming)) := by
  decide +kernel

/-- An engine with record 4 in CONFIRM, record 0 queued and record 9 suspended. -/
def working : State :=
  { spotting ⟨43, .spot, some 17, 0⟩ [⟨43, ⟨4, 1⟩⟩] none with
    claims := (threeSeeking.claims.set 4 (claim .video 1 .seeking 2 none 2)).set 9 (claim .data 2 .seeking 1 none 1)
    engine := ⟨[⟨0, 1, .video, 2, .new, none⟩], some confirming, some ⟨⟨9, 1, .data, 1, .grow, none⟩, 3, []⟩⟩ }

/-- Record 1 is new and VOICE, record 2 new and DATA; record 0 is queued, record 4 active under an older generation, and record 9
suspended under its own. -/
theorem witness_EngineBusy_requests : EngineLaw working ∧ working.loader.part = .active ∧
    (working.claim 1).cls = .voice ∧ confirming.stage = .confirm ∧ confirming.request.cls ≠ .voice ∧
    1 ∉ working.engine.records ∧ 2 ∉ working.engine.records ∧ (working.claim 2).cls = .data ∧
    (∃ h ∈ working.engine.queue, h.record = 0) ∧ confirming.request.record = 4 ∧
    confirming.request.generation ≠ (working.claim 4).generation ∧ (working.claim 9).generation = 1 ∧
    threeSeeking.engine.active = none ∧ EngineLaw threeSeeking := by decide +kernel

/-- The ends of CHOOSE, and the starts of an engine without an active placement. -/
theorem witness_EngineBusy_choices :
    let v : Placement := ⟨⟨5, 3, .voice, 1, .new, none⟩, .choose, 0, [], none, [], none⟩
    let d : Placement := ⟨⟨2, 1, .data, 1, .new, none⟩, .choose, 0, [], none, [], none⟩
    choose v active = .confirm ⟨110, 1⟩ ∧ active.scan.spots = [] ∧ choose v beforeLoan = .lend 2 4 64 ∧
      choose { d with excluded := List.range 120 } active = .noRoom ∧ choose d beforeLoan = .limit ∧
      choose d working = .confirm ⟨10, 1⟩ ∧ (∀ h ∈ working.engine.queue, h.cls ≠ .voice) ∧ (3 : Nat) ≤ 3 ∧
      (∃ h ∈ (⟨1, 1, .voice, 1, .new, none⟩ : Request) :: working.engine.queue, h.cls = .voice) := by decide +kernel

theorem witness_StepKeepsScanner : ScannerLaw (spotting ⟨43, .spot, some 17, 0⟩ [⟨43, ⟨4, 1⟩⟩] (some confirming)) := by
  decide +kernel

theorem witness_StepKeepsPartState : PartLaw beforeLoan := by decide +kernel

theorem witness_StepKeepsConfiguration : ConfigLaw beforeLoan ∧ InterfaceLaw (after .readStatus active) ∧
    ∃ t, step (after .readStatus active) = .next t := ⟨by decide +kernel, by decide +kernel, _, rfl⟩

/-- The loan example, its lend answers delivered, with a close of the call in front, and with a commit for record 4 of the
successor example. -/
def closing : State := { oneLoan with outbox := [], pending := [.closeCall 0] }
def committing : State :=
  { withClaims [(4, claim .video 1 .seeking 1 none 3)] active with pending := [.commit 4 1 ⟨50, 3⟩] }

theorem witness_StepKeepsClaimTable : ClaimTableLaw closing := by
  refine ⟨?_, ?_, ?_, ?_, ?_, ?_, ?_⟩ <;> decide +kernel

theorem witness_StepKeepsClaimTable_commit : ClaimTableLaw committing := by
  refine ⟨?_, ?_, ?_, ?_, ?_, ?_, ?_⟩ <;> decide +kernel

theorem witness_StepKeepsClaimTable_command : (∀ c, closing.pending.head? = some c → wellFormed c = true) ∧
    (∀ r g x, committing.pending.head? = some (.commit r g x) → x.width = (committing.claim r).width) ∧
    HoldLaw closing ∧ ∀ c ∈ closing.claims, c.phase = .draining → c.onLoan = none :=
  ⟨by intro c h; cases h; rfl, by intro r g x h; cases h; rfl, by decide +kernel, by decide +kernel⟩

theorem witness_FrameLayoutRoundTrip : (0 < 1 ∧ 65534 < 65535) ∧
    (List.replicate 20 (⟨⟨112, 8⟩, .voice, .tentative⟩ : HeardRun)).length ≤ 20 ∧
    ∀ h ∈ List.replicate 20 (⟨⟨112, 8⟩, .voice, .tentative⟩ : HeardRun),
      1 ≤ h.run.width ∧ h.run.width ≤ 8 ∧ h.run.first + h.run.width ≤ 120 := by decide

end Sys2Proof.Tests
end

/-! The form of the claimant lists is kept by every step (R4, O51). A command that does not move the part leaves the map, the
receiver and the part state alone (`exec_keepsPart`), so only the commands of `movesPart` need an argument. -/

namespace Sys2Proof.Machine

/-! ### Steps that leave the map alone -/

/-- The configuration, the map and the receiver are as they were, and the part has not come into LOADING: all that the law of the
claimant lists speaks of. -/
structure KeepsLists (s t : State) : Prop where
  config : t.loader.config = s.loader.config
  tiles : t.tiles = s.tiles
  reception : t.chan.reception = s.chan.reception
  loading : t.loader.part = .loading → s.loader.part = .loading

theorem KeepsMap.keepsLists {s t : State} (h : KeepsMap s t) (k : t.loader.part = .loading → s.loader.part = .loading) :
    KeepsLists s t := ⟨h.config, h.tiles, h.reception, k⟩

theorem KeepsPart.keepsLists {s t : State} (h : KeepsPart s t) : KeepsLists s t :=
  h.keepsMap.keepsLists fun k => h.loader ▸ k

theorem KeepsLists.claimantLaw {s t : State} (k : KeepsLists s t) (h : ClaimantLaw s) : ClaimantLaw t := by
  obtain ⟨hlists, hloading⟩ := h
  obtain ⟨hc, ht, hr, hp⟩ := k
  have ho : ownId t = ownId s := by rw [ownId, ownId, hc]
  rw [← ht] at hlists hloading
  exact ⟨ho ▸ hlists, fun l => hr ▸ hloading (hp l)⟩

/-- Outside LOADING the law is that of the lists alone. -/
theorem claimantLaw_of_mapLaw {s : State} (h : MapLaw s) (k : s.loader.part ≠ .loading) : ClaimantLaw s :=
  ⟨h, fun l => absurd l k⟩

/-- A state with a reception in progress is not in LOADING. -/
theorem part_ne_loading_of_reception {s : State} {got : List Byte} (h : ClaimantLaw s) (k : s.chan.reception = some got) :
    s.loader.part ≠ .loading := fun l => by simp [(h.2 l).1] at k

/-- A change of the receiver that leaves the rest keeps the law where it is made outside LOADING. -/
theorem chan_claimantLaw {s t : State} (h : ClaimantLaw s) (hl : t.loader = s.loader) (ht : t.tiles = s.tiles)
    (k : s.loader.part ≠ .loading) : ClaimantLaw t :=
  claimantLaw_of_mapLaw (mapLaw_of h.1 hl ht) (hl ▸ k)

theorem settle_claimantLaw {s : State} (h : ClaimantLaw s) : ClaimantLaw (settle s) :=
  (settle_frame s).keepsPart.keepsLists.claimantLaw h

theorem settleFrom_claimantLaw {s : State} (e : Engine) (h : ClaimantLaw s) : ClaimantLaw (settleFrom e s) :=
  (settleFrom_frame e s).keepsPart.keepsLists.claimantLaw h

/-- What holds of a state and of an event's effect on it holds after the event, whether or not RESET_N is held. -/
theorem outOfReset_keeps {P : State → Prop} {s t : State} {f : State → State} (h : outOfReset s f = .next t) (hs : P s)
    (hf : P (f s)) : P t := by
  unfold outOfReset at h; cases h; split
  · exact hs
  · exact hf

/-! ### An empty map stays empty as peers age -/

/-- No tile has a claimant. -/
abbrev Unclaimed (tiles : List TileRecord) : Prop := ∀ x ∈ tiles, x.claimants = []

theorem tile_claimants_of_unclaimed {s : State} (h : Unclaimed s.tiles) (t : Nat) : (s.tile t).claimants = [] := by
  unfold State.tile
  by_cases ht : t < s.tiles.length
  · rw [List.getD_eq_getElem _ _ ht]; exact h _ (List.getElem_mem ht)
  · rw [List.getD_eq_default _ _ (by omega)]; rfl

theorem changeClaimants_unclaimed {f : List ClaimantEntry → List ClaimantEntry} {tiles : List TileRecord} (t : Nat)
    (hf : f [] = []) (h : Unclaimed tiles) : Unclaimed (changeClaimants t f tiles) := by
  intro x hx
  obtain ⟨n, hn, rfl⟩ := List.mem_iff_getElem.mp hx
  have hn' : n < tiles.length := by simpa [changeClaimants] using hn
  have hc := h _ (List.getElem_mem hn')
  simp only [changeClaimants, List.getElem_modify]
  split
  · rw [hc, hf]
  · exact hc

theorem removeClaims_unclaimed (p : Nat) (runs : List HeardRun) {tiles : List TileRecord} (h : Unclaimed tiles) :
    Unclaimed (removeClaims p runs tiles) := by
  unfold removeClaims
  generalize runs.flatMap (fun h => runTiles h.run) = l
  induction l generalizing tiles with
  | nil => exact h
  | cons t l ih => exact ih (changeClaimants_unclaimed t rfl h)

/-- On an empty map there is no entry to weaken. -/
theorem weakenOn_unclaimed (p : Nat) {s : State} (t : Nat) (h : Unclaimed s.tiles) : weakenOn p s t = s := by
  unfold weakenOn weakenable; rw [tile_claimants_of_unclaimed h]; rfl

theorem turnStale_unclaimed (p : Nat) {s : State} (h : Unclaimed s.tiles) : Unclaimed (turnStale p s).tiles := by
  unfold turnStale; split
  · split
    · refine foldl_keeps (P := fun u => Unclaimed u.tiles) (fun u t hu => ?_) _ _ h
      rwa [weakenOn_unclaimed p t hu]
    · exact h
  · exact h

theorem turnGone_unclaimed (p : Nat) {s : State} (h : Unclaimed s.tiles) : Unclaimed (turnGone p s).tiles := by
  unfold turnGone; split
  · split
    · exact removeClaims_unclaimed _ _ h
    · exact h
  · exact h

theorem agePeers_unclaimed {s : State} (h : Unclaimed s.tiles) : Unclaimed (agePeers s).tiles := by
  refine foldl_keeps (P := fun u => Unclaimed u.tiles) (fun u p hu => ?_) _ s h
  unfold agePeer; split
  · exact turnGone_unclaimed p (turnStale_unclaimed p hu)
  · exact hu

/-- An event at the Peer Table keeps the law where it keeps the form of the lists and leaves an empty map empty. -/
theorem OnlyPeers.claimantLaw {s t : State} (k : OnlyPeers s t) (hm : MapLaw t)
    (hu : Unclaimed s.tiles → Unclaimed t.tiles) (h : ClaimantLaw s) : ClaimantLaw t := by
  refine ⟨hm, fun l => ?_⟩
  obtain ⟨hr, he⟩ := h.2 (k.loader ▸ l)
  exact ⟨k.reception.trans hr, hu he⟩

theorem agePeers_claimantLaw {s : State} (h : ClaimantLaw s) : ClaimantLaw (agePeers s) :=
  (agePeers_frame s).claimantLaw (agePeers_law h.1) agePeers_unclaimed h

theorem turnStale_claimantLaw (p : Nat) {s : State} (h : ClaimantLaw s) : ClaimantLaw (turnStale p s) :=
  (turnStale_frame p s).claimantLaw (turnStale_law h.1) (turnStale_unclaimed p) h

theorem turnGone_claimantLaw (p : Nat) {s : State} (h : ClaimantLaw s) : ClaimantLaw (turnGone p s) :=
  (turnGone_frame p s).claimantLaw (turnGone_law h.1) (turnGone_unclaimed p) h

/-! ### The changes of part state -/

theorem endWarmListen_claimantLaw {s : State} (h : ClaimantLaw s) : ClaimantLaw (endWarmListen s) := by
  refine ((endWarmListen_keepsMap s).keepsLists fun l => ?_).claimantLaw h
  rcases endWarmListen_part s with k | ⟨-, k⟩
  · exact k ▸ l
  · simp [k] at l

theorem countWarmTick_claimantLaw {s : State} (h : ClaimantLaw s) : ClaimantLaw (countWarmTick s) :=
  ((countWarmTick_keepsMap s).keepsLists fun l => countWarmTick_part s ▸ l).claimantLaw h

theorem completeLeaving_claimantLaw {s : State} (h : ClaimantLaw s) : ClaimantLaw (completeLeaving s) := by
  unfold completeLeaving; split
  · exact ((enterQuiet_keepsMap s).keepsLists fun l => nomatch l).claimantLaw h
  · exact h

theorem enterFault_claimantLaw (c : FaultCause) {s : State} (h : ClaimantLaw s) : ClaimantLaw (enterFault c s) :=
  ((enterFault_keepsMap c s).keepsLists fun l => nomatch l).claimantLaw h

theorem enterLeaving_claimantLaw {s : State} (h : ClaimantLaw s) : ClaimantLaw (enterLeaving s) :=
  ((enterLeaving_keepsMap s).keepsLists fun l => nomatch l).claimantLaw h

theorem enterWarmListen_claimantLaw {s : State} (h : ClaimantLaw s) : ClaimantLaw (enterWarmListen s) :=
  ((enterWarmListen_keepsMap s).keepsLists fun l => nomatch l).claimantLaw h

theorem giveSentNotice_claimantLaw (f : Frame) {s : State} (h : ClaimantLaw s) : ClaimantLaw (giveSentNotice f s) := by
  refine ((giveSentNotice_keepsMap f s).keepsLists fun l => ?_).claimantLaw h
  rcases giveSentNotice_part f s with k | ⟨-, k⟩
  · exact k ▸ l
  · simp [k] at l

/-- The flags of a configuration record leave an empty map empty. -/
theorem flagTiles_unclaimed (v : ConfigValues) {tiles : List TileRecord} (h : Unclaimed tiles) :
    Unclaimed (flagTiles v tiles) := by
  intro x hx
  obtain ⟨n, hn, rfl⟩ := List.mem_iff_getElem.mp hx
  have hn' : n < tiles.length := by simpa [flagTiles] using hn
  simpa [flagTiles] using h _ (List.getElem_mem hn')

/-- An empty claimant list has its form, whatever the own id. -/
theorem listsLaw_of_unclaimed (own : Option Nat) {tiles : List TileRecord} (h : Unclaimed tiles) : ListsLaw own tiles := by
  intro x hx; rw [h x hx]; exact ⟨Nat.zero_le _, .nil, by simp⟩

/-- A record is accepted in LOADING, where the lists are empty, so that the new own id meets no entry. -/
theorem acceptConfig_claimantLaw (v : ConfigValues) {s : State} (h : ClaimantLaw s) (k : s.loader.part = .loading) :
    ClaimantLaw (acceptConfig v s) :=
  claimantLaw_of_mapLaw (listsLaw_of_unclaimed _ (flagTiles_unclaimed v (h.2 k).2)) (fun l => nomatch l)

theorem refuseConfig_claimantLaw {s : State} (h : ClaimantLaw s) : ClaimantLaw (refuseConfig s) :=
  KeepsLists.claimantLaw (s := s) ⟨rfl, rfl, rfl, fun l => nomatch l⟩ h

/-! ### Receptions and transmissions -/

theorem handOn_claimantLaw (f : ReceivedFrame) {s : State} (h : ClaimantLaw s) (k : s.loader.part ≠ .loading) :
    ClaimantLaw (handOn f s) := by
  unfold handOn; split
  · split
    · exact h
    · exact enterFault_claimantLaw _ h
  · exact claimantLaw_of_mapLaw (applyFrame_law h.1) ((applyFrame_frame f s).loader ▸ k)

theorem endSending_reception {c d : Transceiver} {f : Frame} (h : c.endSending = some (f, d)) :
    d.reception = c.reception := by
  unfold Transceiver.endSending at h; split at h <;> cases h <;> rfl

theorem receptionEnd_claimantLaw {bs : List Byte} {s t : State} (h : ClaimantLaw s) (e : execReceptionEnd bs s = .next t) :
    ClaimantLaw t := by
  unfold execReceptionEnd at e
  refine outOfReset_keeps e h ?_; dsimp only; split
  · rename_i got hr
    have hp := part_ne_loading_of_reception h hr
    have hu : ClaimantLaw (setReception none (sampleCarrier false s)) := chan_claimantLaw h rfl rfl hp
    split
    · exact settle_claimantLaw (handOn_claimantLaw _ hu hp)
    · exact chan_claimantLaw hu rfl rfl hp
  · exact h

theorem receptionOverrun_claimantLaw {s t : State} (h : ClaimantLaw s) (e : execReceptionOverrun s = .next t) :
    ClaimantLaw t := by
  unfold execReceptionOverrun at e
  refine outOfReset_keeps e h ?_; split
  · rename_i hr; exact chan_claimantLaw h rfl rfl (part_ne_loading_of_reception h hr)
  · exact h

theorem entryCountAssembled_claimantLaw {bs : List Byte} {s t : State} (h : ClaimantLaw s)
    (e : execEntryCountAssembled bs s = .next t) : ClaimantLaw t := by
  unfold execEntryCountAssembled at e
  refine outOfReset_keeps e h ?_; split
  · rename_i hr
    have hp := part_ne_loading_of_reception h hr
    split
    · exact chan_claimantLaw h rfl rfl hp
    · exact chan_claimantLaw h rfl rfl hp
  · exact h

theorem syncDetected_claimantLaw {s t : State} (h : ClaimantLaw s) (e : execSyncDetected s = .next t) : ClaimantLaw t := by
  unfold execSyncDetected at e
  refine outOfReset_keeps e h ?_; split
  · rename_i k
    have hp : s.loader.part ≠ .loading := by simpa [receiverOn] using k.1
    exact chan_claimantLaw h rfl rfl hp
  · exact h

theorem transmissionEnd_claimantLaw {b : Bool} {s t : State} (h : ClaimantLaw s) (e : execTransmissionEnd b s = .next t) :
    ClaimantLaw t := by
  unfold execTransmissionEnd at e
  refine outOfReset_keeps e h ?_; split
  · rename_i f c hc
    have hs : ClaimantLaw (sampleCarrier b { s with chan := c }) :=
      KeepsLists.claimantLaw (s := s) ⟨rfl, rfl, endSending_reception hc, id⟩ h
    exact settleFrom_claimantLaw _
      ((attemptSend_keepsPart _).keepsLists.claimantLaw (giveSentNotice_claimantLaw f hs))
  · exact h

/-! ### LEAVE and JOIN -/

/-- A request of one byte does what it does when it is taken, or its byte is clocked, or it changes nothing. -/
theorem transact_single {c : Instr} {b : Byte} (h : requestBytes c = some [b]) (w : wellFormed c = true) (s : State) :
    transact [b] s = s ∨ transact [b] s = clockBytes [b] s ∨ transact [b] s = serve c (clockBytes [b] s) := by
  cases k : s.link.state with
  | idle => left; unfold transact; rw [k]
  | code => exact .inr (.inr (transact_code h w k))
  | args =>
    left; unfold transact; rw [k]; dsimp only; split
    · rw [List.drop_of_length_le (by simp)]; rfl
    · rfl
  | response => exact .inr (.inl (transact_ignored _ (.inl k)))
  | spent => exact .inr (.inl (transact_ignored _ (.inr k)))

theorem takeRequest_claimantLaw (check : State → LinkResult) (effect : State → State) (reply : State → List Byte)
    {s : State} (h : ClaimantLaw s) (k : ClaimantLaw (effect s)) : ClaimantLaw (takeRequest check effect reply s) := by
  unfold takeRequest; split
  · exact (respond_keepsPart _ _ _).keepsLists.claimantLaw k
  · exact (respond_keepsPart _ _ _).keepsLists.claimantLaw h

theorem transact_single_claimantLaw {c : Instr} {b : Byte} (hb : requestBytes c = some [b]) (w : wellFormed c = true)
    (hc : ∀ u, ClaimantLaw u → ClaimantLaw (serve c u)) {s : State} (h : ClaimantLaw s) :
    ClaimantLaw (transact [b] s) := by
  have hu := (clockBytes_keepsPart [b] s).keepsLists.claimantLaw h
  rcases transact_single hb w s with e | e | e <;> rw [e]
  · exact h
  · exact hu
  · exact hc _ hu

theorem leave_claimantLaw {s t : State} (h : ClaimantLaw s) (e : execLeave s = .next t) : ClaimantLaw t :=
  outOfReset_keeps e h (transact_single_claimantLaw (c := .leave) rfl rfl
    (fun _ hu => takeRequest_claimantLaw _ _ _ hu (enterLeaving_claimantLaw hu)) h)

theorem join_claimantLaw {s t : State} (h : ClaimantLaw s) (e : execJoin s = .next t) : ClaimantLaw t :=
  outOfReset_keeps e h (transact_single_claimantLaw (c := .join) rfl rfl
    (fun _ hu => takeRequest_claimantLaw _ _ _ hu (enterWarmListen_claimantLaw hu)) h)

/-! ### Reset, the configuration read and the ticks -/

theorem reset_unclaimed : Unclaimed State.reset.tiles := fun _ hx => by rw [List.eq_of_mem_replicate hx]; rfl

theorem reset_claimantLaw : ClaimantLaw State.reset :=
  ⟨listsLaw_of_unclaimed _ reset_unclaimed, fun _ => ⟨rfl, reset_unclaimed⟩⟩

theorem execReset_claimantLaw {s t : State} (e : execReset s = .next t) : ClaimantLaw t := by
  cases e; exact KeepsLists.claimantLaw ⟨rfl, rfl, rfl, id⟩ reset_claimantLaw

theorem resetRelease_claimantLaw {s t : State} (h : ClaimantLaw s) (e : execResetRelease s = .next t) : ClaimantLaw t := by
  cases e; split
  · exact KeepsLists.claimantLaw (s := s) ⟨rfl, rfl, rfl, id⟩ h
  · exact h

theorem configReadComplete_claimantLaw {bs : List Byte} {s t : State} (h : ClaimantLaw s)
    (e : execConfigReadComplete bs s = .next t) : ClaimantLaw t := by
  unfold execConfigReadComplete at e
  refine outOfReset_keeps e h ?_; split
  · rename_i k
    split
    · exact acceptConfig_claimantLaw _ h k.2
    · exact refuseConfig_claimantLaw h
  · exact h

theorem ageingTick_claimantLaw {s t : State} (h : ClaimantLaw s) (e : execAgeingTick s = .next t) : ClaimantLaw t := by
  unfold execAgeingTick at e
  refine outOfReset_keeps e h ?_; split
  · have hs : ClaimantLaw (stampTick s) := KeepsLists.claimantLaw (s := s) ⟨rfl, rfl, rfl, id⟩ h
    exact settle_claimantLaw (endWarmListen_claimantLaw (countWarmTick_claimantLaw (agePeers_claimantLaw hs)))
  · exact h

theorem peerStale_claimantLaw {p : Nat} {s t : State} (h : ClaimantLaw s) (e : execPeerStale p s = .next t) :
    ClaimantLaw t :=
  outOfReset_keeps e h (settle_claimantLaw (turnStale_claimantLaw p h))

theorem warmListenEnd_claimantLaw {s t : State} (h : ClaimantLaw s) (e : execWarmListenEnd s = .next t) : ClaimantLaw t :=
  outOfReset_keeps e h (settle_claimantLaw (endWarmListen_claimantLaw h))

/-! ### Every command and every step -/

theorem exec_claimantLaw {c : Instr} {s t : State} (h : ClaimantLaw s) (e : exec c s = .next t) : ClaimantLaw t := by
  cases hm : movesPart c with
  | false => exact (exec_keepsPart hm e).keepsLists.claimantLaw h
  | true =>
    cases c with
    | reset => exact execReset_claimantLaw e
    | resetRelease => exact resetRelease_claimantLaw h e
    | configReadComplete bytes => exact configReadComplete_claimantLaw h e
    | ageingTick => exact ageingTick_claimantLaw h e
    | peerStale p => exact peerStale_claimantLaw h e
    | peerGone p => exact outOfReset_keeps e h (turnGone_claimantLaw p h)
    | warmListenEnd => exact warmListenEnd_claimantLaw h e
    | transmissionEnd ccCs => exact transmissionEnd_claimantLaw h e
    | leavingComplete => exact outOfReset_keeps e h (completeLeaving_claimantLaw h)
    | syncDetected => exact syncDetected_claimantLaw h e
    | receptionEnd bytes => exact receptionEnd_claimantLaw h e
    | receptionOverrun => exact receptionOverrun_claimantLaw h e
    | entryCountAssembled bytes => exact entryCountAssembled_claimantLaw h e
    | leave => exact leave_claimantLaw h e
    | join => exact join_claimantLaw h e
    | _ => simp [movesPart] at hm

theorem idle_keepsLists (s : State) : KeepsLists s (idle s) := by
  unfold idle; split
  · exact ⟨rfl, rfl, rfl, id⟩
  · exact ⟨rfl, rfl, rfl, id⟩

/-- Settles O51: the commands that move the part one by one, every other one by its frame, and the passing of time. -/
theorem stepKeepsClaimantLists : Obligations.StepKeepsClaimantLists := by
  intro s t h e
  unfold step at e
  split at e
  · rename_i rest _; exact exec_claimantLaw (s := { s with pending := rest }) h e
  · cases e; exact (idle_keepsLists s).claimantLaw h

end Sys2Proof.Machine

/-! Precedence compares class rank, then effective phase, then station id (R10, O39). -/

namespace Sys2Proof.Machine

/-- No two classes have one rank. -/
theorem rank_injective : Function.Injective rank := by
  intro a b h; cases a <;> cases b <;> simp_all [rank]

/-- The three stages of R10 side by side. -/
theorem beats_iff (a b : Contender) : beats a b = true ↔
    rank b.cls < rank a.cls ∨
      a.cls = b.cls ∧ (a.phase = .held ∧ b.phase = .tentative ∨ a.phase = b.phase ∧ a.station < b.station) := by
  unfold beats
  by_cases hr : rank a.cls = rank b.cls
  · have hc : a.cls = b.cls := rank_injective hr
    rw [if_neg (not_not_intro hr)]
    by_cases hp : a.phase = b.phase
    · rw [if_neg (not_not_intro hp)]; simp +contextual [hc, hp]
    · cases ha : a.phase <;> cases hb : b.phase <;> simp_all
  · have hc : a.cls ≠ b.cls := fun h => hr (congrArg rank h)
    simp [hr, hc]

/-- Settles O39: the three stages, and the order they make. -/
theorem precedenceIsAStrictTotalOrder : Obligations.PrecedenceIsAStrictTotalOrder := by
  refine ⟨beats_iff, fun _ _ => beats_asymm, fun _ _ _ => beats_trans, fun a b h => ?_⟩
  cases hab : beats a b with
  | true => exact .inl rfl
  | false => exact .inr (beats_total h hab)

end Sys2Proof.Machine

/-! CHOOSE (R105 to R111, R143, O38): eligibility, the candidates, the cost, and the two selections that run through a list and
keep the best so far, of the winning run and of the lender. -/

namespace Sys2Proof.Machine

/-! ### Selections -/

/-- Of the best so far, `b`, and the next element `a`, the one that is kept. -/
def keepBest {α : Type} (before : α → α → Bool) (b a : α) : α := if before a b then a else b

/-- The element that a run through a list keeps; none of an empty list. -/
def selectBest {α : Type} (before : α → α → Bool) : List α → Option α
  | [] => none
  | a :: l => some (l.foldl (keepBest before) a)

/-- Element `a`, met after `b`, takes its place where it is at least as good, and otherwise `b` is. -/
abbrev Decides {α : Type} (before : α → α → Bool) (R : α → α → Prop) (b a : α) : Prop :=
  if before a b = true then R a b else R b a

theorem keepBest_spec {α : Type} {before : α → α → Bool} {R : α → α → Prop} (refl : ∀ a, R a a) {b a : α}
    (h : Decides before R b a) : R (keepBest before b a) b ∧ R (keepBest before b a) a := by
  unfold Decides at h; unfold keepBest
  split at h
  · rename_i k; rw [if_pos k]; exact ⟨h, refl a⟩
  · rename_i k; rw [if_neg k]; exact ⟨refl b, h⟩

theorem keepBest_eq {α : Type} (before : α → α → Bool) (b a : α) :
    keepBest before b a = b ∨ keepBest before b a = a := by
  unfold keepBest; split
  · exact .inr rfl
  · exact .inl rfl

theorem foldl_keepBest_spec {α : Type} {before : α → α → Bool} {R : α → α → Prop} (refl : ∀ a, R a a)
    (trans : ∀ a b c, R a b → R b c → R a c) (l : List α) :
    ∀ b, (b :: l).Pairwise (Decides before R) →
      l.foldl (keepBest before) b ∈ b :: l ∧ ∀ y ∈ b :: l, R (l.foldl (keepBest before) b) y := by
  induction l with
  | nil => exact fun b _ => ⟨.head _, by simp [refl]⟩
  | cons a l ih =>
    intro b hp
    obtain ⟨hb, ha⟩ := List.pairwise_cons.mp hp
    have hkeep := keepBest_eq before b a
    have hnext : (keepBest before b a :: l).Pairwise (Decides before R) := by
      rcases hkeep with k | k <;> rw [k]
      · exact hp.sublist (.cons_cons _ (.cons _ (.refl _)))
      · exact ha
    obtain ⟨hRb, hRa⟩ := keepBest_spec refl (hb a (.head _))
    obtain ⟨hm, hx⟩ := ih _ hnext
    rw [List.foldl_cons]
    refine ⟨?_, fun y hy => ?_⟩
    · rcases List.mem_cons.mp hm with e | hm
      · rw [e]; rcases hkeep with k | k <;> simp [k]
      · exact .tail _ (.tail _ hm)
    · have hkept := hx _ (.head _)
      rcases List.mem_cons.mp hy with rfl | hy
      · exact trans _ _ _ hkept hRb
      rcases List.mem_cons.mp hy with rfl | hy
      · exact trans _ _ _ hkept hRa
      · exact hx y (.tail _ hy)

/-- A selection keeps an element of the list that is at least as good as every one. -/
theorem selectBest_spec {α : Type} {before : α → α → Bool} {R : α → α → Prop} (refl : ∀ a, R a a)
    (trans : ∀ a b c, R a b → R b c → R a c) {l : List α} (hl : l.Pairwise (Decides before R)) {x : α}
    (h : selectBest before l = some x) : x ∈ l ∧ ∀ y ∈ l, R x y := by
  cases l with
  | nil => cases h
  | cons a l => cases h; exact foldl_keepBest_spec refl trans l a hl

theorem selectBest_eq_none {α : Type} {before : α → α → Bool} {l : List α} :
    selectBest before l = none ↔ l = [] := by
  cases l <;> simp [selectBest]

/-! ### Eligibility -/

theorem beatsClaimants_iff (own : Nat) (k : ServiceClass) (l : List ClaimantEntry) :
    beatsClaimants own k l = true ↔
      ∀ e ∈ l.head?, rank e.cls < rank k ∨ e.cls = k ∧ e.effective = .tentative ∧ own < e.station := by
  cases l with
  | nil => simp [beatsClaimants]
  | cons e l => simp [beatsClaimants, beats_iff, ClaimantEntry.contender, eq_comm (a := k), eq_comm (b := e.effective)]

/-- The five conditions of R13, with R14. -/
theorem eligible_iff (s : State) (k : ServiceClass) (n : Nat) : eligible s k n = true ↔
    (s.tile n).inWindow = true ∧ (s.tile n).locked = false ∧ (s.noise n).state = .quiet ∧ isOwn s n = false ∧
      ∀ e ∈ (s.tile n).claimants.head?,
        rank e.cls < rank k ∨ e.cls = k ∧ e.effective = .tentative ∧ (ownId s).getD 0 < e.station := by
  simp only [eligible, Bool.and_eq_true, beatsClaimants_iff, Bool.not_eq_true', beq_iff_eq, and_assoc]

/-! ### Candidates -/

theorem mem_runTiles {x : Run} {n : Nat} : n ∈ runTiles x ↔ runHas x n = true := by
  simp [runTiles, runHas]

/-- The tiles that a placement may take: eligible, and not excluded (R105). -/
def openTiles (p : Placement) (s : State) : List Nat :=
  (List.range Config.tileCount).filter (fun t => eligible s p.request.cls t && !p.excluded.contains t)

/-- The first tiles of the runs of open tiles (R105), before the narrowing for growth. -/
def openStarts (p : Placement) (s : State) : List Nat :=
  candidateStarts p.request.width (fun t => (openTiles p s).contains t)

theorem candidates_eq (p : Placement) (s : State) :
    candidates p s = if p.request.reason = .grow then growthStarts s (openStarts p s) else openStarts p s := rfl

theorem mem_openTiles {p : Placement} {s : State} {n : Nat} :
    n ∈ openTiles p s ↔ n < 120 ∧ eligible s p.request.cls n = true ∧ n ∉ p.excluded := by
  simp [openTiles]

theorem mem_openStarts {p : Placement} {s : State} {a : Nat} : a ∈ openStarts p s ↔
    a + p.request.width ≤ 120 ∧ ∀ n, runHas ⟨a, p.request.width⟩ n = true → n ∈ openTiles p s := by
  have hb : a < Config.tileCount + 1 - p.request.width ↔ a + p.request.width ≤ 120 := by
    rw [Config.tileCount]; omega
  simp [openStarts, candidateStarts, hb, mem_runTiles]

/-- A candidate of a placement that is not for growth: a run within the band of eligible tiles, none of them excluded. -/
theorem mem_candidates {p : Placement} {s : State} (h : p.request.reason ≠ .grow) {a : Nat} : a ∈ candidates p s ↔
    a + p.request.width ≤ 120 ∧
      ∀ n, runHas ⟨a, p.request.width⟩ n = true → eligible s p.request.cls n = true ∧ n ∉ p.excluded := by
  rw [candidates_eq, if_neg h, mem_openStarts]
  refine and_congr_right fun hb => forall₂_congr fun n hn => ?_
  have hn' : n < 120 := by simp [runHas] at hn; omega
  rw [mem_openTiles, and_iff_right hn']

/-- With width 1 the open starts are the open tiles. -/
theorem mem_openStarts_one {p : Placement} {s : State} (h : p.request.width = 1) {n : Nat} :
    n ∈ openStarts p s ↔ n ∈ openTiles p s := by
  rw [mem_openStarts, h]
  constructor
  · exact fun k => k.2 n (by simp [runHas])
  · intro k
    refine ⟨(mem_openTiles.mp k).1, fun m hm => ?_⟩
    have hm' : m = n := by simp [runHas] at hm; omega
    exact hm' ▸ k

theorem mem_besideTiles {c : ClaimRecord} {n : Nat} : n ∈ c.besideTiles ↔
    c.cls = .data ∧ c.phase = .held ∧
      ∃ z, c.run = some z ∧ z.width < 8 ∧ (n + 1 = z.first ∨ n = z.first + z.width) := by
  unfold ClaimRecord.besideTiles
  cases hr : c.run with
  | none => simp
  | some z =>
    by_cases hc : c.cls = .data ∧ c.phase = .held ∧ z.width < Config.maxRunWidth
    · have hn : n ∈ (if z.first = 0 then [] else [z.first - 1]) ++ [z.first + z.width] ↔
          n + 1 = z.first ∨ n = z.first + z.width := by
        split <;> simp <;> omega
      simp only [if_pos hc, hn]; simp [hc]
    · simp only [if_neg hc, List.not_mem_nil, false_iff]
      rintro ⟨hcls, hphase, _, hz, hw, -⟩
      cases hz; exact hc ⟨hcls, hphase, hw⟩

/-- The narrowing for growth: the starts beside a HELD DATA record where there are any, and else all, while there are few
records (R143). -/
theorem mem_growthStarts {s : State} {l : List Nat} {n : Nat} : n ∈ growthStarts s l ↔
    n ∈ l ∧ (n ∈ s.claims.flatMap (·.besideTiles) ∨
      (∀ m ∈ l, m ∉ s.claims.flatMap (·.besideTiles)) ∧ heldDataRecords s < 4) := by
  unfold growthStarts; dsimp only
  split
  · rename_i h
    obtain ⟨m, hm⟩ := List.exists_mem_of_ne_nil _ h
    have hm' : m ∈ l ∧ m ∈ s.claims.flatMap (·.besideTiles) := by simpa using hm
    rw [or_iff_left fun k => k.1 m hm'.1 hm'.2, List.mem_filter, List.contains_iff_mem]
  · rename_i h
    have hno : ∀ m ∈ l, m ∉ s.claims.flatMap (·.besideTiles) := by simpa using h
    have hin : n ∈ l ∧ n ∈ s.claims.flatMap (·.besideTiles) ↔ False := iff_false_intro fun k => hno n k.1 k.2
    rw [and_or_left, hin, false_or, and_iff_right hno]
    split
    · rename_i hd; rw [and_iff_left hd]
    · rename_i hd; simp [hd]

/-- A candidate for growth (R143). -/
theorem mem_candidates_growth {p : Placement} {s : State} (h : p.request.reason = .grow) (hw : p.request.width = 1)
    {n : Nat} : n ∈ candidates p s ↔ n ∈ openTiles p s ∧ (n ∈ s.claims.flatMap (·.besideTiles) ∨
      (∀ m ∈ openTiles p s, m ∉ s.claims.flatMap (·.besideTiles)) ∧ heldDataRecords s < 4) := by
  rw [candidates_eq, if_pos h, mem_growthStarts]
  simp only [mem_openStarts_one hw]

/-- The candidates ascend. -/
theorem candidates_sorted (p : Placement) (s : State) : (candidates p s).Pairwise (· < ·) := by
  have ho : (openStarts p s).Pairwise (· < ·) := List.pairwise_lt_range.filter _
  rw [candidates_eq]; unfold growthStarts; dsimp only
  split
  · split
    · exact ho.filter _
    · split
      · exact ho
      · exact .nil
  · exact ho

/-! ### The cost and the winning run -/

theorem crowds_iff (s : State) (n : Nat) : crowds s n = true ↔
    n < 120 ∧ ((s.tile n).claimants ≠ [] ∨ isOwn s n = true ∨ (s.tile n).locked = true) := by
  simp [crowds, or_assoc]

/-- The crowded neighbours of a run: the tile below it, where there is one, and the tile above it. -/
theorem neighbours_countP (s : State) (a w : Nat) : (neighbours ⟨a, w⟩).countP (crowds s) =
    (if 0 < a ∧ crowds s (a - 1) = true then 1 else 0) + (if crowds s (a + w) = true then 1 else 0) := by
  rw [neighbours, List.countP_append]
  by_cases ha : a = 0
  · simp [ha, List.countP_cons]
  · simp [ha, List.countP_cons, Nat.pos_of_ne_zero ha]

/-- Run `⟨a, w⟩` wins over `⟨b, w⟩`: it costs less, or as much and lies on the side that the class prefers (R107). -/
abbrev WinsOver (k : ServiceClass) (cost : Nat → Nat) (a b : Nat) : Prop :=
  cost a ≤ cost b ∧ (cost b = cost a → if k = .voice then b ≤ a else a ≤ b)

theorem winsOver_refl (k : ServiceClass) (cost : Nat → Nat) (a : Nat) : WinsOver k cost a a := by simp [WinsOver]

theorem winsOver_trans (k : ServiceClass) (cost : Nat → Nat) (a b c : Nat) (h : WinsOver k cost a b)
    (g : WinsOver k cost b c) : WinsOver k cost a c := by
  unfold WinsOver at *
  by_cases hk : k = .voice
  · simp only [hk, if_true] at *; omega
  · simp only [hk, if_false] at *; omega

theorem takesPlace_iff (k : ServiceClass) (n m : Nat) : takesPlace k n m = true ↔ n < m ∨ k = .voice ∧ n = m := by
  simp [takesPlace]

/-- Of two candidates the later takes the place of the earlier exactly where it wins over it (R107). -/
theorem takesPlace_decides (k : ServiceClass) (cost : Nat → Nat) {a b : Nat} (h : b < a) :
    Decides (fun a b => takesPlace k (cost a) (cost b)) (WinsOver k cost) b a := by
  unfold Decides WinsOver
  by_cases hk : k = .voice
  · simp only [takesPlace_iff, hk, if_true, eq_self, true_and]; split <;> omega
  · simp only [takesPlace_iff, hk, if_false, false_and, or_false]; split <;> omega

theorem cheapest_eq (k : ServiceClass) (w : Nat) (s : State) (l : List Nat) : cheapest k w s l =
    (selectBest (fun a b => takesPlace k (runCost s ⟨a, w⟩) (runCost s ⟨b, w⟩)) l).map
      (fun a => (a, runCost s ⟨a, w⟩)) := by
  cases l with
  | nil => rfl
  | cons a l =>
    refine List.foldl_hom (fun b => some (b, runCost s ⟨b, w⟩)) (init := a) fun b c => ?_
    unfold keepBest; dsimp only; split <;> rfl

/-- The winning run is the selection among the candidates (R107). -/
theorem winningRun_eq (p : Placement) (s : State) : winningRun p s =
    (selectBest (fun a b => takesPlace p.request.cls (runCost s ⟨a, p.request.width⟩) (runCost s ⟨b, p.request.width⟩))
      (candidates p s)).map (fun a => ⟨a, p.request.width⟩) := by
  rw [winningRun, cheapest_eq, Option.map_map]; rfl

theorem candidates_of_no_winningRun {p : Placement} {s : State} (h : winningRun p s = none) : candidates p s = [] := by
  rwa [winningRun_eq, Option.map_eq_none_iff, selectBest_eq_none] at h

theorem winningRun_spec {p : Placement} {s : State} {x : Run} (h : winningRun p s = some x) :
    x.width = p.request.width ∧ x.first ∈ candidates p s ∧ ∀ a ∈ candidates p s,
      WinsOver p.request.cls (fun a => runCost s ⟨a, p.request.width⟩) x.first a := by
  rw [winningRun_eq, Option.map_eq_some_iff] at h
  obtain ⟨a, ha, rfl⟩ := h
  exact ⟨rfl, selectBest_spec (winsOver_refl _ _) (winsOver_trans _ _)
    ((candidates_sorted p s).imp fun h => takesPlace_decides _ (fun a => runCost s ⟨a, p.request.width⟩) h) ha⟩

/-! ### The lender -/

/-- Lender `a` is preferred to `b` or as good: wider, or of equal width and no higher slot (R110). -/
abbrev LendsOver (a b : ClaimRecord) : Prop := b.runWidth < a.runWidth ∨ b.runWidth = a.runWidth ∧ a.slot ≤ b.slot

theorem lenderBefore_iff (a b : ClaimRecord) : lenderBefore a b = true ↔
    b.runWidth < a.runWidth ∨ a.runWidth = b.runWidth ∧ a.slot < b.slot := by
  simp [lenderBefore]

theorem lenderBefore_decides (s : State) (b a : Nat) :
    Decides (fun a b => lenderBefore (s.claim a) (s.claim b)) (fun a b => LendsOver (s.claim a) (s.claim b)) b a := by
  unfold Decides LendsOver; simp only [lenderBefore_iff]; split <;> omega

theorem canLend_iff (c : ClaimRecord) : c.canLend = true ↔ c.cls = .data ∧ c.phase = .held ∧ 2 ≤ c.runWidth := by
  simp [ClaimRecord.canLend, and_assoc]

/-- The lender is the selection among the records that can lend (R110). -/
theorem chooseLender_eq (s : State) : chooseLender s =
    selectBest (fun a b => lenderBefore (s.claim a) (s.claim b))
      ((List.range 20).filter fun r => (s.claim r).canLend) := by
  unfold chooseLender
  rw [← List.foldl_filter]
  cases (List.range 20).filter fun r => (s.claim r).canLend with
  | nil => rfl
  | cons a l =>
    refine List.foldl_hom some (init := a) fun b c => ?_
    unfold keepBest; dsimp only; split <;> rfl

theorem chooseLender_spec {s : State} {l : Nat} (h : chooseLender s = some l) : l < 20 ∧ (s.claim l).canLend = true ∧
    ∀ q < 20, (s.claim q).canLend = true → LendsOver (s.claim l) (s.claim q) := by
  rw [chooseLender_eq] at h
  obtain ⟨hm, hbest⟩ := selectBest_spec (R := fun a b => LendsOver (s.claim a) (s.claim b)) (fun _ => .inr ⟨rfl, le_rfl⟩)
    (fun _ _ _ h g => by unfold LendsOver at *; omega) (List.pairwise_of_forall fun b a => lenderBefore_decides s b a) h
  simp only [List.mem_filter, List.mem_range] at hm hbest
  exact ⟨hm.1, hm.2, fun q hq hc => hbest q ⟨hq, hc⟩⟩

/-- There is a lender unless no record can lend. -/
theorem chooseLender_eq_none (s : State) : chooseLender s = none ↔ ∀ q < 20, ¬(s.claim q).canLend = true := by
  rw [chooseLender_eq, selectBest_eq_none, List.filter_eq_nil_iff]; simp

/-- A loan is offered where the stack has room and a record can lend: the last tile of the lender's run (R109, R110). -/
theorem loanOffer_of_lender {s : State} (hroom : s.loans.length < 4) (h : ∃ q < 20, (s.claim q).canLend = true) :
    ∃ l < 20, ∃ x, loanOffer s = some (.lend l (s.claim l).generation (runLast x)) ∧ (s.claim l).canLend = true ∧
      (s.claim l).run = some x ∧ ∀ q < 20, (s.claim q).canLend = true → LendsOver (s.claim l) (s.claim q) := by
  cases hl : chooseLender s with
  | none => obtain ⟨q, hq, hc⟩ := h; exact absurd hc ((chooseLender_eq_none s).mp hl q hq)
  | some l =>
    obtain ⟨hlt, hlend, hbest⟩ := chooseLender_spec hl
    cases hx : (s.claim l).run with
    | none => simp [canLend_iff, ClaimRecord.runWidth, hx] at hlend
    | some x => exact ⟨l, hlt, x, by simp [loanOffer, hroom, hl, hx], hlend, hx, hbest⟩

theorem loanOffer_eq_none {s : State} (h : 4 ≤ s.loans.length ∨ ∀ q < 20, ¬(s.claim q).canLend = true) :
    loanOffer s = none := by
  unfold loanOffer; split
  · rename_i hroom
    rw [(chooseLender_eq_none s).mpr (h.resolve_left (by simpa using hroom))]
  · rfl

/-! ### Run or loan -/

/-- What becomes of a winning run, where there is one. -/
def confirmBest : Option Run → Choice
  | some x => .confirm x
  | none => .noRoom

theorem claimedTiles_pos (s : State) (x : Run) :
    0 < claimedTiles s x ↔ ∃ n ∈ runTiles x, (s.tile n).claimants ≠ [] := by
  simp [claimedTiles, List.countP_pos_iff]

/-- Below the limit, with an unclaimed winning run, a VOICE primary is confirmed on it (R109). -/
theorem runOrLoan_run {best : Option Run} {s : State} (hl : heldTotal s ≠ holdLimit s)
    (hc : ¬∀ x ∈ best, 0 < claimedTiles s x) : runOrLoan best s = confirmBest best := by
  cases best with
  | none => simp at hc
  | some x =>
    have hx : claimedTiles s x = 0 := by simpa using hc
    simp [runOrLoan, confirmBest, hl, hx]

/-- At the limit, or with no winning run without a claimant, a loan comes first; without one the limit ends the placement, and
below it the winning run is confirmed (R109 to R111). -/
theorem runOrLoan_loan {best : Option Run} {s : State}
    (h : heldTotal s = holdLimit s ∨ ∀ x ∈ best, 0 < claimedTiles s x) : runOrLoan best s =
      (loanOffer s).getD (if heldTotal s = holdLimit s then .limit else confirmBest best) := by
  cases best with
  | none => cases ho : loanOffer s <;> simp [runOrLoan, confirmBest, ho]
  | some x =>
    have hx : heldTotal s = holdLimit s ∨ 0 < claimedTiles s x := by simpa using h
    cases ho : loanOffer s <;> simp [runOrLoan, confirmBest, ho, hx]

/-- Where no loan is possible, the limit ends the placement, and below it the winning run is confirmed (R111). -/
theorem runOrLoan_unlent {best : Option Run} {s : State} (h : loanOffer s = none) :
    runOrLoan best s = if heldTotal s = holdLimit s then .limit else confirmBest best := by
  by_cases hc : heldTotal s = holdLimit s ∨ ∀ x ∈ best, 0 < claimedTiles s x
  · rw [runOrLoan_loan hc, h]; rfl
  · obtain ⟨hl, hb⟩ := not_or.mp hc
    rw [runOrLoan_run hl hb, if_neg hl]

theorem choose_voice {p : Placement} {s : State} (hk : p.request.cls = .voice) (hp : p.request.predecessor = none) :
    choose p s = runOrLoan (winningRun p s) s := if_pos ⟨hk, hp⟩

/-- A placement that is no VOICE primary is confirmed on its winning run, unless it is DATA and would pass the limit (R111). -/
theorem choose_other {p : Placement} {s : State} (h : p.request.cls ≠ .voice ∨ p.request.predecessor ≠ none) :
    choose p s = (winningRun p s).elim .noRoom fun x =>
      if p.request.cls = .data ∧ holdLimit s < heldTotal s + p.request.width then .limit else .confirm x := by
  rw [choose, if_neg fun k => h.elim (· k.1) (· k.2)]
  cases winningRun p s <;> rfl

/-- Settles O38, clause by clause: eligibility, the candidates, the cost, the winning run, and the decision. -/
theorem winningRunIsCheapest : Obligations.WinningRunIsCheapest := by
  intro p s k width own cost crowded
  refine ⟨eligible_iff s k, fun h a => mem_candidates h, fun h hw => ?growth, fun a => ?cost,
    candidates_of_no_winningRun, fun x h => winningRun_spec h, ?decision⟩
  case growth =>
    intro isOpen beside n
    have hopen : ∀ m, m ∈ openTiles p s ↔ isOpen m := fun m => mem_openTiles
    have hbeside : ∀ m, m ∈ s.claims.flatMap (·.besideTiles) ↔ beside m := fun m => by
      simp only [List.mem_flatMap, mem_besideTiles]; rfl
    rw [mem_candidates_growth h hw, hopen, hbeside, ← List.countP_eq_length_filter]
    simp only [hopen, hbeside]; rfl
  case cost =>
    have hbelow : 0 < a ∧ crowds s (a - 1) = true ↔ 0 < a ∧ a ≤ 120 ∧ crowded (a - 1) := by
      rw [crowds_iff]; refine and_congr_right fun ha => and_congr_left' ?_; omega
    have habove : crowds s (a + width) = true ↔ a + width < 120 ∧ crowded (a + width) := crowds_iff s _
    have hn := neighbours_countP s a width
    simp only [hbelow, habove] at hn
    change runCost s ⟨a, width⟩ = _
    rw [runCost, hn]; rfl
  case decision =>
    intro best limited claimed lends
    have hclaimed : (∀ x ∈ best, 0 < claimedTiles s x) ↔ claimed :=
      forall₂_congr fun x _ => claimedTiles_pos s x
    have hlends : ∀ q, (s.claim q).canLend = true ↔ lends q := fun q => canLend_iff _
    refine ⟨fun hk hp => ⟨fun hl hc x hx => ?run, fun h hroom hq => ?lend, fun h => ?unlent⟩, fun h => ?other⟩
    case run =>
      rw [choose_voice hk hp, runOrLoan_run hl (hclaimed.not.mpr hc)]
      exact congrArg confirmBest hx
    case lend =>
      simp only [← hlends] at hq ⊢
      obtain ⟨l, hlt, x, hoffer, hl, hx, hbest⟩ := loanOffer_of_lender hroom hq
      have hw : 2 ≤ x.width := by simpa [ClaimRecord.runWidth, hx] using ((canLend_iff _).mp hl).2.2
      refine ⟨l, hlt, _, runLast x, x, ?_, hl, rfl, hx, ?_, hbest⟩
      · rw [choose_voice hk hp, runOrLoan_loan (h.imp_right hclaimed.mpr), hoffer]; rfl
      · rw [runLast]; omega
    case unlent =>
      have hno : loanOffer s = none := loanOffer_eq_none (h.imp_right fun h q hq => (hlends q).not.mpr (h q hq))
      rw [choose_voice hk hp, runOrLoan_unlent hno]
      refine ⟨fun hl => if_pos hl, fun hl x hx => ?_, fun hl hx => ?_⟩
      · rw [if_neg hl]; exact congrArg confirmBest hx
      · rw [if_neg hl]; exact congrArg confirmBest hx
    case other =>
      rw [choose_other h]
      refine ⟨fun hb => ?_, fun x hb => ?_⟩
      · rw [show winningRun p s = none from hb, Option.elim_none]
      · rw [show winningRun p s = some x from hb, Option.elim_some]

end Sys2Proof.Machine

/-! The laws of the blocks right after reset (O50): every table is empty or holds reset values alone. -/

namespace Sys2Proof.Machine

/-! ### Reads of the reset state -/

@[simp] theorem reset_claim (r : Nat) : State.reset.claim r = ClaimRecord.reset := by
  simp [State.claim, State.reset, List.getD_eq_getElem?_getD, List.getElem?_replicate]; split <;> rfl

theorem eq_reset_of_mem_claims {c : ClaimRecord} (h : c ∈ State.reset.claims) : c = ClaimRecord.reset :=
  List.eq_of_mem_replicate h

/-- A record after reset owns no tile. -/
@[simp] theorem ownsTile_reset (n : Nat) : ClaimRecord.reset.ownsTile n = false := rfl

/-- No slot is granted after reset. -/
theorem grantEntries_reset (k : ServiceClass) :
    grantEntries State.reset.claims k = List.replicate (slotCount k) none := by
  have h : ∀ slot, grantEntry State.reset.claims k slot = none := fun slot => by
    have hf : State.reset.claims.find? (fun c => c.cls == k && c.slot == slot && c.phase.granted) = none :=
      List.find?_eq_none.mpr fun c hc => by rw [eq_reset_of_mem_claims hc]; simp [ClaimRecord.reset, Phase.granted]
    rw [grantEntry, hf]
  rw [grantEntries, funext h, List.map_const', List.length_range]

/-- After reset no record counts in the held total (R79). -/
theorem heldTotal_reset : heldTotal State.reset = 0 := by
  have h : State.reset.claims.filter (·.counted) = [] :=
    List.filter_eq_nil_iff.mpr fun c hc => by rw [eq_reset_of_mem_claims hc]; decide
  rw [heldTotal, h]; rfl

/-! ### The laws, block by block -/

theorem reset_peerLaw : PeerLaw State.reset := ⟨Nat.zero_le _, .nil, nofun, fun _ => ⟨rfl, rfl⟩⟩

theorem reset_agreementLaw : AgreementLaw State.reset := by
  refine ⟨reset_peerLaw, fun n _ e he => ?_⟩
  rw [tile_claimants_of_unclaimed reset_unclaimed] at he
  cases he

theorem reset_ownRunsLaw : OwnRunsLaw State.reset := by
  refine ⟨List.length_replicate .., fun c hc => ?_, fun q _ r _ n _ h => ?_⟩
  · rw [eq_reset_of_mem_claims hc]; exact ⟨fun _ => rfl, nofun⟩
  · simp at h

theorem reset_engineLaw : EngineLaw State.reset := ⟨fun _ => rfl, nofun, .nil⟩

theorem reset_scannerLaw : ScannerLaw State.reset := by
  refine ⟨List.length_replicate .., fun x hx => ?_, by decide, Nat.zero_le _, .nil, nofun, nofun⟩
  rw [List.eq_of_mem_replicate hx]; decide

/-- The part is in LOADING with RESET_N held: no timer runs, and nothing is claimed, queued or lent. -/
theorem reset_partLaw : PartLaw State.reset := by
  refine ⟨by decide, by decide, fun _ => ⟨fun c hc => ?_, rfl, rfl, rfl, rfl, rfl⟩⟩
  rw [eq_reset_of_mem_claims hc]; exact ⟨rfl, rfl⟩

theorem reset_configLaw : ConfigLaw State.reset := ⟨nofun, fun _ => rfl, le_rfl, le_rfl⟩

theorem reset_interfaceLaw : InterfaceLaw State.reset :=
  ⟨⟨rfl, rfl, rfl⟩, rfl, rfl, Nat.zero_le _, fun _ => rfl, nofun, Nat.zero_le _, rfl, rfl, nofun⟩

theorem reset_recordLaw : RecordLaw ClaimRecord.reset := by
  refine ⟨by decide, nofun, nofun, fun _ => ⟨.inl rfl, nofun, nofun⟩⟩

theorem reset_linkLaw (r : Nat) : LinkLaw State.reset r := by
  rw [LinkLaw, reset_claim]; exact ⟨nofun, nofun, nofun⟩

/-- A FREE record keeps no slot, so no two records share one. -/
theorem reset_slotLaw : SlotLaw State.reset := by
  intro q _ r _ _ h; rw [reset_claim, reset_claim] at h; cases h

theorem reset_borrowerLaw (r : Nat) : BorrowerLaw State.reset r := by
  rw [BorrowerLaw, reset_claim]; exact ⟨nofun, nofun⟩

theorem reset_loanLaw : LoanLaw State.reset := ⟨Nat.zero_le _, nofun, nofun⟩

theorem reset_grantLaw : GrantLaw State.reset :=
  ⟨(grantEntries_reset .data).symm, (grantEntries_reset .video).symm, (grantEntries_reset .voice).symm⟩

theorem reset_claimTableLaw : ClaimTableLaw State.reset :=
  ⟨List.length_replicate .., fun c hc => by rw [eq_reset_of_mem_claims hc]; exact reset_recordLaw,
    fun r _ => reset_linkLaw r, reset_slotLaw, fun r _ => reset_borrowerLaw r, reset_loanLaw, reset_grantLaw⟩

theorem reset_holdLaw : HoldLaw State.reset := ⟨by rw [heldTotal_reset]; exact Nat.zero_le _, fun _ => rfl⟩

/-- Settles O50: the laws of the blocks one by one. -/
theorem lawsHoldAtReset : Obligations.LawsHoldAtReset :=
  ⟨reset_claimantLaw, reset_agreementLaw, reset_peerLaw, reset_ownRunsLaw, reset_engineLaw, reset_scannerLaw,
    reset_partLaw, reset_configLaw, reset_interfaceLaw, reset_claimTableLaw, reset_holdLaw⟩

end Sys2Proof.Machine

/-! The Band Scanner's law (R21, R32) as a law of the scanner alone, and what it is kept by: a measurement's start, and the withdrawals
and requests of spot checks, which are all that the Placement Engine does to a scanner (R32, R34). -/

namespace Sys2Proof.Machine

/-! ### The law of the scanner -/

/-- The scanner's ranges (R21, R32) without those of the measurement in progress. -/
structure BandLaw (sc : Scanner) : Prop where
  length : sc.tiles.length = Config.tileCount
  tiles : ∀ x ∈ sc.tiles, TileNoiseLaw x
  sweep : sc.sweep < Config.tileCount
  capacity : sc.spots.length ≤ Config.spotCapacity
  distinct : (sc.spots.map (·.tile)).Nodup
  inBand : ∀ e ∈ sc.spots, e.tile < Config.tileCount

/-- The scanner's law: its ranges, and the measurement in progress. -/
abbrev ScanLaw (sc : Scanner) : Prop := BandLaw sc ∧ ∀ m ∈ sc.measuring, MeasurementLaw sc m

theorem scannerLaw_iff (s : State) : ScannerLaw s ↔ ScanLaw s.scan := by
  constructor
  · rintro ⟨length, tiles, sweep, capacity, distinct, inBand, measuring⟩
    exact ⟨⟨length, tiles, sweep, capacity, distinct, inBand⟩, measuring⟩
  · rintro ⟨⟨length, tiles, sweep, capacity, distinct, inBand⟩, measuring⟩
    exact ⟨length, tiles, sweep, capacity, distinct, inBand, measuring⟩

/-- A shorter spot queue is within the ranges. -/
theorem BandLaw.sublist {sc : Scanner} {l : List SpotEntry} (h : BandLaw sc) (hl : l.Sublist sc.spots) :
    BandLaw { sc with spots := l } where
  length := h.length
  tiles := h.tiles
  sweep := h.sweep
  capacity := hl.length_le.trans h.capacity
  distinct := h.distinct.sublist (hl.map _)
  inBand := fun e he => h.inBand e (hl.subset he)

/-- The ranges do not speak of the measurement in progress. -/
theorem BandLaw.remeasured {sc : Scanner} (h : BandLaw sc) (m : Option Measurement) :
    BandLaw { sc with measuring := m } := by
  obtain ⟨length, tiles, sweep, capacity, distinct, inBand⟩ := h
  exact ⟨length, tiles, sweep, capacity, distinct, inBand⟩

/-- The next measurement is of the oldest spot entry or of the tile at the sweep position (R24). -/
theorem start_scanLaw {sc : Scanner} (h : BandLaw sc) : ScanLaw sc.start := by
  unfold Scanner.start
  split
  · rename_i e rest hs
    refine ⟨h.remeasured _, fun m hm => ?_⟩
    cases hm
    exact ⟨h.inBand e (by simp [hs]), nofun, le_rfl, nofun, fun _ => by simp [hs]⟩
  · rename_i hs
    refine ⟨h.remeasured _, fun m hm => ?_⟩
    cases hm
    exact ⟨h.sweep, nofun, le_rfl, fun _ => rfl, nofun⟩

/-! ### Withdrawals -/

theorem orphaned_tile (m : Measurement) : m.orphaned.tile = m.tile := by
  unfold Measurement.orphaned; split <;> rfl

theorem orphaned_of_sweep {m : Measurement} (h : m.serves = .sweep) : m.orphaned = m := by
  unfold Measurement.orphaned; rw [if_neg (by simp [h])]

theorem orphaned_serves_ne_spot (m : Measurement) : m.orphaned.serves ≠ .spot := by
  unfold Measurement.orphaned; split
  · nofun
  · assumption

/-- An orphaned measurement serves no entry, so it fits any spot queue (R34). -/
theorem orphaned_law {sc : Scanner} {m : Measurement} (h : MeasurementLaw sc m) (l : List SpotEntry)
    (k : Option Measurement) : MeasurementLaw { sc with spots := l, measuring := k } m.orphaned := by
  obtain ⟨htile, hsample, hleft, hsweep, -⟩ := h
  refine ⟨by rwa [orphaned_tile], ?_, ?_, ?_, fun hs => absurd hs (orphaned_serves_ne_spot m)⟩
  all_goals unfold Measurement.orphaned; split
  · exact hsample
  · exact hsample
  · exact hleft
  · exact hleft
  · nofun
  · exact hsweep

theorem withdraw_scanLaw {sc : Scanner} (g : SpotTag) (h : ScanLaw sc) : ScanLaw (sc.withdraw g) := by
  obtain ⟨hb, hm⟩ := h
  refine ⟨(hb.sublist List.filter_sublist).remeasured _, fun m k => ?_⟩
  unfold Scanner.withdraw at k ⊢
  cases hs : sc.spots with
  | nil =>
    rw [hs] at k
    obtain ⟨htile, hsample, hleft, hsweep, hspot⟩ := hm m k
    exact ⟨htile, hsample, hleft, hsweep, fun e => by simpa [hs] using hspot e⟩
  | cons e rest =>
    simp only [hs, List.head?_cons] at k
    split at k
    · obtain ⟨m', hm', rfl⟩ := Option.mem_map.mp k
      exact orphaned_law (hm m' hm') _ _
    · rename_i hg
      obtain ⟨htile, hsample, hleft, hsweep, hspot⟩ := hm m k
      exact ⟨htile, hsample, hleft, hsweep, fun k => by simpa [hs, hg] using hspot k⟩

/-- Withdrawals leave a sweep measurement in progress. -/
theorem withdraw_sweeping {sc : Scanner} (g : SpotTag) {m : Measurement} (h : sc.measuring = some m)
    (k : m.serves = .sweep) : (sc.withdraw g).measuring = some m := by
  unfold Scanner.withdraw; dsimp only
  split
  · split
    · rw [h, Option.map_some, orphaned_of_sweep k]
    · exact h
  · exact h

theorem withdraw_empty {sc : Scanner} (g : SpotTag) (h : sc.spots = []) : (sc.withdraw g).spots = [] := by
  simp [Scanner.withdraw, h]

theorem empty_scanLaw {sc : Scanner} (h : ScanLaw sc) : ScanLaw sc.empty := by
  obtain ⟨hb, hm⟩ := h
  refine ⟨(hb.sublist (List.nil_sublist _)).remeasured _, fun m k => ?_⟩
  obtain ⟨m', hm', rfl⟩ := Option.mem_map.mp k
  exact orphaned_law (hm m' hm') _ _

/-! ### Requests -/

/-- A spot check of a tile that has one gives its entry the new tag; a new one joins the end of the queue (R32). -/
theorem request_eq_some {sc sc' : Scanner} {t : Nat} {g : SpotTag} (h : sc.request t g = some sc') :
    (sc' = { sc with spots := sc.spots.map (fun e => if e.tile = t then { e with tag := g } else e) }) ∨
      (sc.spots.length < Config.spotCapacity ∧ (∀ e ∈ sc.spots, e.tile ≠ t) ∧
        sc' = { sc with spots := sc.spots ++ [⟨t, g⟩] }) := by
  unfold Scanner.request at h
  split at h
  · cases h; exact .inl rfl
  · rename_i hn
    split at h
    · rename_i hl
      cases h; exact .inr ⟨hl, by simpa using hn, rfl⟩
    · cases h

theorem request_scanLaw {sc sc' : Scanner} {t : Nat} {g : SpotTag} (ht : t < Config.tileCount)
    (h : sc.request t g = some sc') (hs : ScanLaw sc) : ScanLaw sc' := by
  obtain ⟨hb, hm⟩ := hs
  rcases request_eq_some h with rfl | ⟨hl, hn, rfl⟩
  · have htiles : (sc.spots.map (fun e => if e.tile = t then { e with tag := g } else e)).map (·.tile) =
        sc.spots.map (·.tile) := by
      rw [List.map_map]; refine List.map_congr_left fun e _ => ?_
      dsimp only [Function.comp]; split <;> rfl
    refine ⟨⟨hb.length, hb.tiles, hb.sweep, by simpa using hb.capacity, by rw [htiles]; exact hb.distinct, ?_⟩,
      fun m k => ?_⟩
    · intro e he
      have : e.tile ∈ sc.spots.map (·.tile) := htiles ▸ List.mem_map_of_mem he
      obtain ⟨e', he', hte⟩ := List.mem_map.mp this
      exact hte ▸ hb.inBand e' he'
    · obtain ⟨htile, hsample, hleft, hsweep, hspot⟩ := hm m k
      refine ⟨htile, hsample, hleft, hsweep, fun e => ?_⟩
      rw [← hspot e, ← List.head?_map, ← List.head?_map]; exact congrArg List.head? htiles
  · refine ⟨⟨hb.length, hb.tiles, hb.sweep, ?_, ?_, ?_⟩, fun m k => ?_⟩
    · rw [List.length_append]; exact hl
    · rw [List.map_append, List.nodup_append]
      refine ⟨hb.distinct, by simp, fun a ha b hb' => ?_⟩
      obtain ⟨e, he, rfl⟩ := List.mem_map.mp ha
      simpa [List.mem_singleton.mp hb'] using hn e he
    · intro e he
      rcases List.mem_append.mp he with he | he
      · exact hb.inBand e he
      · rw [List.mem_singleton.mp he]; exact ht
    · obtain ⟨htile, hsample, hleft, hsweep, hspot⟩ := hm m k
      refine ⟨htile, hsample, hleft, hsweep, fun e => ?_⟩
      have := hspot e
      cases hq : sc.spots with
      | nil => simp [hq] at this
      | cons a l => simpa [hq] using this

theorem request_measuring {sc sc' : Scanner} {t : Nat} {g : SpotTag} (h : sc.request t g = some sc') :
    sc'.measuring = sc.measuring := by
  rcases request_eq_some h with rfl | ⟨-, -, rfl⟩ <;> rfl

/-! ### What the Placement Engine does to a scanner -/

/-- Withdrawals of spot checks, one tag after another. -/
def Withdrawn (sc sc' : Scanner) : Prop := ∃ gs : List SpotTag, sc' = gs.foldl Scanner.withdraw sc

/-- Withdrawals, and requests of spot checks within the band. -/
inductive SpotWork : Scanner → Scanner → Prop where
  | refl (sc : Scanner) : SpotWork sc sc
  | withdraw {sc sc' : Scanner} (g : SpotTag) : SpotWork sc sc' → SpotWork sc (sc'.withdraw g)
  | request {sc sc' sc'' : Scanner} {t : Nat} {g : SpotTag} : SpotWork sc sc' → t < Config.tileCount →
      sc'.request t g = some sc'' → SpotWork sc sc''

theorem Withdrawn.refl (sc : Scanner) : Withdrawn sc sc := ⟨[], rfl⟩

theorem Withdrawn.single (sc : Scanner) (g : SpotTag) : Withdrawn sc (sc.withdraw g) := ⟨[g], rfl⟩

theorem Withdrawn.trans {a b c : Scanner} (h : Withdrawn a b) (k : Withdrawn b c) : Withdrawn a c := by
  obtain ⟨gs, rfl⟩ := h; obtain ⟨hs, rfl⟩ := k
  exact ⟨gs ++ hs, List.foldl_append.symm⟩

theorem SpotWork.trans {a b c : Scanner} (h : SpotWork a b) (k : SpotWork b c) : SpotWork a c := by
  induction k with
  | refl => exact h
  | withdraw g _ ih => exact .withdraw g ih
  | request _ ht hr ih => exact .request ih ht hr

theorem Withdrawn.spotWork {a b : Scanner} (h : Withdrawn a b) : SpotWork a b := by
  obtain ⟨gs, rfl⟩ := h
  induction gs generalizing a with
  | nil => exact .refl _
  | cons g gs ih => exact (SpotWork.withdraw g (.refl a)).trans ih

theorem Withdrawn.empty {a b : Scanner} (h : Withdrawn a b) (k : a.spots = []) : b.spots = [] := by
  obtain ⟨gs, rfl⟩ := h
  induction gs generalizing a with
  | nil => exact k
  | cons g gs ih => exact ih (withdraw_empty g k)

theorem SpotWork.scanLaw {a b : Scanner} (h : SpotWork a b) (k : ScanLaw a) : ScanLaw b := by
  induction h with
  | refl => exact k
  | withdraw g _ ih => exact withdraw_scanLaw g ih
  | request _ ht hr ih => exact request_scanLaw ht hr ih

/-- A sweep measurement in progress goes on. -/
theorem SpotWork.sweeping {a b : Scanner} (h : SpotWork a b) {m : Measurement} (hm : a.measuring = some m)
    (k : m.serves = .sweep) : b.measuring = some m := by
  induction h with
  | refl => exact hm
  | withdraw g _ ih => exact withdraw_sweeping g ih k
  | request _ _ hr ih => rw [request_measuring hr]; exact ih

/-! ### Requests and cancellations of placements -/

theorem suspendFor_withdrawn (q : Request) (e : Engine) (sc : Scanner) : Withdrawn sc (suspendFor q e sc).2 := by
  unfold suspendFor; split
  · split
    · exact .single _ _
    · exact .refl _
  · exact .refl _

theorem cancelIn_withdrawn (r : Nat) (e : Engine) (sc : Scanner) : Withdrawn sc (cancelIn r e sc).2 := by
  unfold cancelIn discardActive; split
  · split
    · dsimp only; split
      · exact .single _ _
      · exact .refl _
    · exact .refl _
  · exact .refl _

theorem requestIn_withdrawn (q : Request) (e : Engine) (sc : Scanner) : Withdrawn sc (requestIn q e sc).2 := by
  unfold requestIn; split
  · exact suspendFor_withdrawn _ _ _
  · split
    · exact suspendFor_withdrawn _ _ _
    · split
      · exact .refl _
      · exact (cancelIn_withdrawn _ _ _).trans (suspendFor_withdrawn _ _ _)

theorem queuePlacement_withdrawn (r : Nat) (s : State) : Withdrawn s.scan (queuePlacement r s).scan := by
  unfold queuePlacement; dsimp only; split
  · exact requestIn_withdrawn _ _ _
  · exact .refl _

theorem requestPlacement_withdrawn (r : Nat) (s : State) : Withdrawn s.scan (requestPlacement r s).scan :=
  queuePlacement_withdrawn r s

theorem cancel_withdrawn (r : Nat) (s : State) : Withdrawn s.scan (cancel r s).scan := cancelIn_withdrawn r s.engine s.scan

/-! ### CHOOSE -/

/-- What is confirmed is the winning run (R109). -/
theorem winningRun_of_confirm {p : Placement} {s : State} {x : Run} (h : choose p s = .confirm x) :
    winningRun p s = some x := by
  have hbest : ∀ best, confirmBest best = .confirm x → best = some x := by
    rintro (_ | y) <;> simp [confirmBest]
  by_cases k : p.request.cls = .voice ∧ p.request.predecessor = none
  · rw [choose_voice k.1 k.2] at h
    by_cases hl : heldTotal s = holdLimit s ∨ ∀ y ∈ winningRun p s, 0 < claimedTiles s y
    · rw [runOrLoan_loan hl] at h
      cases ho : loanOffer s with
      | none =>
        rw [ho, Option.getD_none] at h
        split at h
        · cases h
        · exact hbest _ h
      | some c =>
        rw [ho, Option.getD_some] at h
        subst h
        unfold loanOffer at ho
        split at ho
        · split at ho
          · split at ho <;> cases ho
          · cases ho
        · cases ho
    · obtain ⟨hl, hc⟩ := not_or.mp hl
      rw [runOrLoan_run hl hc] at h
      exact hbest _ h
  · rw [choose_other (not_and_or.mp k)] at h
    cases hw : winningRun p s with
    | none => rw [hw] at h; cases h
    | some y =>
      rw [hw, Option.elim_some] at h
      split at h
      · cases h
      · cases h; rfl

theorem candidates_subset (p : Placement) (s : State) {a : Nat} (h : a ∈ candidates p s) : a ∈ openStarts p s := by
  rw [candidates_eq] at h
  split at h
  · exact (mem_growthStarts.mp h).1
  · exact h

/-- The tiles of a confirmed run lie in the band (R105). -/
theorem confirm_inBand {p : Placement} {s : State} {x : Run} (h : choose p s = .confirm x) :
    ∀ n ∈ runTiles x, n < Config.tileCount := by
  obtain ⟨hw, hx, -⟩ := winningRun_spec (winningRun_of_confirm h)
  have hopen := (mem_openStarts.mp (candidates_subset p s hx)).2
  intro n hn
  have hn : runHas ⟨x.first, p.request.width⟩ n = true := hw ▸ mem_runTiles.mp hn
  exact (mem_openTiles.mp (hopen n hn)).1

theorem requestAll_spotWork (g : SpotTag) (ts : List Nat) (h : ∀ n ∈ ts, n < Config.tileCount) (sc : Scanner) :
    SpotWork sc (Scanner.requestAll g ts sc).1 := by
  induction ts generalizing sc with
  | nil => exact .refl sc
  | cons t ts ih =>
    unfold Scanner.requestAll; split
    · rename_i sc' hr
      exact (SpotWork.request (.refl sc) (h t (.head _)) hr).trans (ih (fun n hn => h n (.tail _ hn)) sc')
    · exact .refl sc

end Sys2Proof.Machine

/-! What the Placement Engine's work does to the spot queue, the engine and its messages (R105 to R120): one account of CHOOSE, from which
the scanner's law, the engine's records and its answers to a request are read. -/

namespace Sys2Proof.Machine

/-! ### CHOOSE -/

/-- What CHOOSE can come to (R105 to R113): the placement ends, asks for a loan, is suspended, waits in CONFIRM, or enters CHOOSE again
after a refused spot check. -/
inductive Chooses : Placement → State → State → Prop where
  | ends (p : Placement) (s : State) (o : PlacementEnd) : Chooses p s (endPlacement p o s)
  | lends (p : Placement) (s : State) (l : Nat) (lg : BitVec 4) (t : Nat) : Chooses p s (requestLend p l lg t s)
  | suspends {p : Placement} {s : State} : p.request.cls ≠ .voice → voiceQueued s.engine = true →
      Chooses p s (suspend p s)
  | awaits (p : Placement) {s : State} (x : Run) {sc : Scanner} : SpotWork s.scan sc → Chooses p s (awaitSpots p x sc s)
  | again {p : Placement} {s t : State} {sc : Scanner} (n : Nat) : SpotWork s.scan sc →
      Chooses { p with attempts := n } { s with scan := sc } t → Chooses p s t

theorem enterChoose_chooses (more : Nat) : ∀ p s, Chooses p s (enterChoose more p s) := by
  induction more with
  | zero =>
    intro p s; unfold enterChoose; split
    · exact .ends p s _
    · exact .ends p s _
    · exact .lends p s _ _ _
    · rename_i x hx
      have hw := requestAll_spotWork p.request.tag _ (confirm_inBand hx) s.scan
      dsimp only; split
      · rename_i hv; exact .suspends hv.1 hv.2
      · split
        · exact .awaits p x hw
        · exact .again p.attempts (.withdraw _ hw) (.ends p _ _)
  | succ more ih =>
    intro p s; unfold enterChoose; split
    · exact .ends p s _
    · exact .ends p s _
    · exact .lends p s _ _ _
    · rename_i x hx
      have hw := requestAll_spotWork p.request.tag _ (confirm_inBand hx) s.scan
      dsimp only; split
      · rename_i hv; exact .suspends hv.1 hv.2
      · split
        · exact .awaits p x hw
        · exact .again (p.attempts + 1) (.withdraw _ hw) (ih _ _)

theorem reenter_chooses (p : Placement) (s : State) : Chooses p s (reenter p s) := by
  unfold reenter; split
  · exact .again (p.attempts + 1) (.refl _) (enterChoose_chooses _ _ s)
  · exact .ends p s _

/-- A placement that waits to enter CHOOSE does so, and without one nothing happens (R105). -/
theorem chooseNow_cases (s : State) : chooseNow s = s ∧ s.engine.enters = false ∨
    ∃ p, s.engine.active = some p ∧ p.stage = .entering ∧ Chooses { p with stage := .choose } s (chooseNow s) := by
  unfold chooseNow Engine.enters; split
  · rename_i p hp
    split
    · rename_i he; exact .inr ⟨p, hp, he, enterChoose_chooses _ _ s⟩
    · rename_i he; exact .inl ⟨rfl, by simpa using he⟩
  · exact .inl ⟨rfl, rfl⟩

/-! ### The spot queue -/

theorem Chooses.spotWork {p : Placement} {s t : State} (h : Chooses p s t) : SpotWork s.scan t.scan := by
  induction h with
  | ends | lends => exact .refl _
  | suspends => exact .withdraw _ (.refl _)
  | awaits _ _ hw => exact hw
  | again _ hw _ ih => exact hw.trans ih

theorem chooseNow_spotWork (s : State) : SpotWork s.scan (chooseNow s).scan := by
  rcases chooseNow_cases s with ⟨h, -⟩ | ⟨p, -, -, h⟩
  · rw [h]; exact .refl _
  · exact h.spotWork

theorem runEngine_spotWork (n : Nat) (s : State) : SpotWork s.scan (runEngine n s).scan := by
  induction n generalizing s with
  | zero => exact .refl _
  | succ n ih =>
    unfold runEngine; split
    · exact (chooseNow_spotWork s).trans (ih (takeUpIf true (chooseNow s)))
    · exact .refl _

theorem settle_spotWork (s : State) : SpotWork s.scan (settle s).scan := runEngine_spotWork _ (takeUpIf true s)

theorem settleFrom_spotWork (e : Engine) (s : State) : SpotWork s.scan (settleFrom e s).scan := by
  unfold settleFrom; split
  · exact .refl _
  · exact settle_spotWork s

theorem enterCommit_spotWork (p : Placement) (x : Run) (s : State) : SpotWork s.scan (enterCommit p x s).scan := by
  unfold enterCommit; dsimp only; split
  · exact .refl _
  · split
    · exact (reenter_chooses p s).spotWork
    · split <;> exact .refl _

theorem spotAdvances_spotWork (a : SpotAction) (s : State) : SpotWork s.scan (spotAdvances a s).scan := by
  cases a with
  | discard | wait => exact .refl _
  | commit p x => exact enterCommit_spotWork p x s
  | exclude p => exact (reenter_chooses p s).spotWork

theorem takeRoomAnswer_spotWork (p : Placement) (a : RoomAnswer) (s : State) :
    SpotWork s.scan (takeRoomAnswer p a s).scan := by
  unfold takeRoomAnswer; split
  · split <;> exact .refl _
  · exact .refl _
  · exact .refl _

theorem takeCommitAnswer_spotWork (p : Placement) (a : CommitAnswer) (s : State) :
    SpotWork s.scan (takeCommitAnswer p a s).scan := by
  unfold takeCommitAnswer; split
  · exact .refl _
  · exact .refl _
  · exact .refl _
  · exact (reenter_chooses p s).spotWork
  · split
    · exact .refl _
    · exact (reenter_chooses p s).spotWork

/-! ### The records that the engine holds work for -/

theorem mem_records {e : Engine} {r : Nat} : r ∈ e.records ↔
    (∃ q ∈ e.queue, q.record = r) ∨ (∃ p ∈ e.active, p.request.record = r) ∨ ∃ u ∈ e.suspended, u.request.record = r := by
  simp [Engine.records]

theorem takeHead_records {e : Engine} {r : Nat} (h : r ∈ e.takeHead.records) : r ∈ e.records := by
  unfold Engine.takeHead at h
  split at h
  · rename_i q rest hq
    rcases mem_records.mp h with ⟨k, hk, hr⟩ | ⟨p, hp, hr⟩ | hu
    · exact mem_records.mpr (.inl ⟨k, by simp [hq, hk], hr⟩)
    · cases hp; exact mem_records.mpr (.inl ⟨q, by simp [hq], hr⟩)
    · exact mem_records.mpr (.inr (.inr hu))
  · exact h

theorem resume_records {e : Engine} {u : Suspended} (hu : e.suspended = some u) {r : Nat}
    (h : r ∈ (e.resume u).1.records) : r ∈ e.records := by
  unfold Engine.resume at h
  split at h
  · rcases mem_records.mp h with hq | ⟨p, hp, hr⟩ | ⟨v, hv, -⟩
    · exact mem_records.mpr (.inl hq)
    · cases hp; exact mem_records.mpr (.inr (.inr ⟨u, hu, hr⟩))
    · cases hv
  · rcases mem_records.mp (takeHead_records h) with hq | hp | ⟨v, hv, -⟩
    · exact mem_records.mpr (.inl hq)
    · exact mem_records.mpr (.inr (.inl hp))
    · cases hv

/-- The start of the next placement brings no record to the engine. -/
theorem next_records {e : Engine} {r : Nat} (h : r ∈ e.next.1.records) : r ∈ e.records := by
  unfold Engine.next at h
  split at h
  · exact h
  · split at h
    · rename_i u hu
      split at h
      · exact takeHead_records h
      · exact resume_records hu h
    · exact takeHead_records h

theorem takeUpIf_records {b : Bool} {s : State} {r : Nat} (h : r ∈ (takeUpIf b s).engine.records) :
    r ∈ s.engine.records := by
  unfold takeUpIf at h; dsimp only at h
  split at h
  · exact next_records h
  · exact h

/-- CHOOSE ends the placement with its outcome, keeps it active past CHOOSE's door, or suspends it behind a VOICE request. -/
theorem Chooses.engine {p : Placement} {s t : State} (h : Chooses p s t) :
    (∃ o, t.engine = { s.engine with active := none } ∧
      t.outbox = s.outbox ++ [.placementOutcome p.request.record p.request.generation o]) ∨
    (∃ p' l, p'.request = p.request ∧ p'.stage ≠ .entering ∧ t.engine = { s.engine with active := some p' } ∧
      t.outbox = s.outbox ++ l) ∨
    (p.request.cls ≠ .voice ∧ voiceQueued s.engine = true ∧ ∃ u, u.request = p.request ∧
      t.engine = { s.engine with active := none, suspended := some u } ∧ t.outbox = s.outbox) := by
  induction h with
  | ends p s o => exact .inl ⟨o, rfl, rfl⟩
  | lends p s l lg n =>
    exact .inr (.inl ⟨{ p with stage := .choose, chosen := none, pendingSpots := [], room := none }, _, rfl, nofun, rfl, rfl⟩)
  | suspends hc hv => exact .inr (.inr ⟨hc, hv, _, rfl, rfl, rfl⟩)
  | awaits p x hw =>
    exact .inr (.inl ⟨{ p with stage := .confirm, chosen := some x, pendingSpots := runTiles x, room := none }, [], rfl, nofun,
      rfl, (List.append_nil _).symm⟩)
  | again n _ _ ih => exact ih

theorem Chooses.records {p : Placement} {s t : State} (h : Chooses p s t) {r : Nat} (k : r ∈ t.engine.records) :
    r ∈ s.engine.records ∨ r = p.request.record := by
  rw [mem_records, or_assoc, or_assoc]
  rcases h.engine with ⟨o, he, -⟩ | ⟨p', l, hp, -, he, -⟩ | ⟨-, -, u, hu, he, -⟩ <;>
    rcases mem_records.mp (he ▸ k) with hq | ⟨x, hx, hr⟩ | ⟨x, hx, hr⟩
  · exact .inl hq
  · cases hx
  · exact .inr (.inr (.inl ⟨x, hx, hr⟩))
  · exact .inl hq
  · cases hx; exact .inr (.inr (.inr (hp ▸ hr.symm)))
  · exact .inr (.inr (.inl ⟨x, hx, hr⟩))
  · exact .inl hq
  · cases hx
  · cases hx; exact .inr (.inr (.inr (hu ▸ hr.symm)))

theorem chooseNow_records {s : State} {r : Nat} (h : r ∈ (chooseNow s).engine.records) : r ∈ s.engine.records := by
  rcases chooseNow_cases s with ⟨k, -⟩ | ⟨p, hp, -, k⟩
  · rwa [k] at h
  · rcases k.records h with hr | hr
    · exact hr
    · exact mem_records.mpr (.inr (.inl ⟨p, hp, hr.symm⟩))

theorem runEngine_records (n : Nat) {s : State} {r : Nat} (h : r ∈ (runEngine n s).engine.records) :
    r ∈ s.engine.records := by
  induction n generalizing s with
  | zero => exact h
  | succ n ih =>
    unfold runEngine at h; split at h
    · exact chooseNow_records (takeUpIf_records (ih h))
    · exact h

/-- The engine's work at the end of a step brings no record to the engine. -/
theorem settle_records {s : State} {r : Nat} (h : r ∈ (settle s).engine.records) : r ∈ s.engine.records :=
  takeUpIf_records (runEngine_records _ h)

/-- A cancellation takes all work for its record out of the engine (R104). -/
theorem cancelIn_engine (r : Nat) (e : Engine) (sc : Scanner) : (cancelIn r e sc).1 =
    { queue := e.queue.filter (fun q => decide (q.record ≠ r))
      active := e.active.filter (fun p => decide (p.request.record ≠ r))
      suspended := e.suspended.filter (fun u => decide (u.request.record ≠ r)) } := by
  obtain ⟨queue, active, suspended⟩ := e
  have hs : ∀ q a, discardSuspended r ⟨q, a, suspended⟩ =
      ⟨q, a, suspended.filter (fun u => decide (u.request.record ≠ r))⟩ := by
    intro q a
    cases suspended with
    | none => rfl
    | some u => by_cases hu : u.request.record = r <;> simp [discardSuspended, Option.filter_some, hu]
  unfold cancelIn discardActive
  rw [hs]
  cases active with
  | none => rfl
  | some p => by_cases hp : p.request.record = r <;> simp [Option.filter_some, hp]

theorem cancelIn_records (r : Nat) (e : Engine) (sc : Scanner) : r ∉ (cancelIn r e sc).1.records := by
  rw [cancelIn_engine, mem_records]
  simp [Option.filter_eq_some_iff]

theorem cancel_records (r : Nat) (s : State) : r ∉ (cancel r s).engine.records := fun h =>
  cancelIn_records r s.engine s.scan (takeUpIf_records h)

end Sys2Proof.Machine

/-! What the Claim Table and the Peer Table ask of the Placement Engine: placement requests and cancellations, between changes that touch
neither the engine nor the scanner. Every law that requests and cancellations keep is kept by these operations. -/

namespace Sys2Proof.Machine

/-- An event whose only effects on the Placement Engine, the scanner and the messages on their way are those of the placement requests
and cancellations it makes (R101). -/
inductive ByRequests : State → State → Prop where
  | inert {s t : State} : t.loader = s.loader → t.engine = s.engine → t.scan = s.scan → t.outbox = s.outbox → ByRequests s t
  | request (r : Nat) (s : State) : ByRequests s (requestPlacement r s)
  | cancel (r : Nat) (s : State) : ByRequests s (cancel r s)
  | trans {s t u : State} : ByRequests s t → ByRequests t u → ByRequests s u

theorem ByRequests.refl (s : State) : ByRequests s s := .inert rfl rfl rfl rfl

/-- Requests and cancellations withdraw spot checks, and do nothing else to the scanner (R104, R114). -/
theorem ByRequests.withdrawn {s t : State} (h : ByRequests s t) : Withdrawn s.scan t.scan := by
  induction h with
  | inert _ _ hs => rw [hs]; exact .refl _
  | request r s => exact requestPlacement_withdrawn r s
  | cancel r s => exact cancel_withdrawn r s
  | trans _ _ ih ih' => exact ih.trans ih'

/-! ### The records, the data service and the Loan Stack -/

theorem setClaim_byRequests (r : Nat) (c : ClaimRecord) (s : State) : ByRequests s (setClaim r c s) :=
  .inert rfl rfl rfl rfl

theorem latch_byRequests (c : Cause) (s : State) : ByRequests s (latch c s) := .inert rfl rfl rfl rfl

theorem commitGrant_byRequests (k : ServiceClass) (c : GrantCause) (d : Option Nat) (s : State) :
    ByRequests s (commitGrant k c d s) := .inert rfl rfl rfl rfl

theorem urgentRequest_byRequests (s : State) : ByRequests s (urgentRequest s) := .inert rfl rfl rfl rfl

theorem releaseRun_byRequests (r : Nat) (s : State) : ByRequests s (releaseRun r s) := .inert rfl rfl rfl rfl

theorem trimTile_byRequests (r t : Nat) (s : State) : ByRequests s (trimTile r t s) := by
  unfold trimTile; split <;> exact .inert rfl rfl rfl rfl

theorem cancelCut_byRequests (r : Nat) (x : Option Run) (s : State) : ByRequests s (cancelCut r x s) := by
  unfold cancelCut; split
  · exact .cancel r s
  · exact .refl s

theorem cutTop_byRequests (r : Nat) (cut : List Nat) (s : State) : ByRequests s (cutTop r cut s) := by
  unfold cutTop; split
  · refine .trans ?_ (cancelCut_byRequests _ _ _)
    split <;> exact .inert rfl rfl rfl rfl
  · exact .refl s

theorem cutHighest_byRequests (k : Nat) (cut : List Nat) (s : State) : ByRequests s (cutHighest k cut s) := by
  induction k generalizing cut s with
  | zero => exact .refl s
  | succ k ih =>
    unfold cutHighest; split
    · exact (cutTop_byRequests _ _ s).trans (ih _ _)
    · exact .refl s

theorem topDownTrim_byRequests (k : Nat) (s : State) : ByRequests s (topDownTrim k s) := by
  unfold topDownTrim; split
  · exact .refl s
  · exact ((cutHighest_byRequests k [] s).trans (urgentRequest_byRequests _)).trans (commitGrant_byRequests _ _ _ _)

theorem trimToCeiling_byRequests (s : State) : ByRequests s (trimToCeiling s) := topDownTrim_byRequests _ s

theorem mergeGrowth_byRequests (r t : Nat) (s : State) : ByRequests s (mergeGrowth r t s) := by
  unfold mergeGrowth; split
  · exact .inert rfl rfl rfl rfl
  · split <;> exact .inert rfl rfl rfl rfl

theorem requestGrowth_byRequests (s : State) : ByRequests s (requestGrowth s) := by
  unfold requestGrowth; split
  · exact (setClaim_byRequests _ _ s).trans (.request _ _)
  · exact .refl s

theorem growWhenDue_byRequests (s : State) : ByRequests s (growWhenDue s) := by
  unfold growWhenDue; split
  · exact .refl s
  · split
    · split
      · exact latch_byRequests _ s
      · exact .refl s
    · exact (requestGrowth_byRequests s).trans (.inert rfl rfl rfl rfl)

theorem growthComparison_byRequests (s : State) : ByRequests s (growthComparison s) := by
  have hpace : ∀ n, ByRequests s (setPace n s) := fun n => .inert rfl rfl rfl rfl
  unfold growthComparison; split
  · exact hpace 0
  · dsimp only; split
    · exact (hpace _).trans (growWhenDue_byRequests _)
    · exact hpace _

theorem freeCaughtGrowth_byRequests (s : State) : ByRequests s (freeCaughtGrowth s) := by
  unfold freeCaughtGrowth; split
  · split
    · exact (setClaim_byRequests _ _ s).trans (.cancel _ _)
    · exact .refl s
  · exact .refl s

theorem applyDemand_byRequests (f c : Nat) (s : State) : ByRequests s (applyDemand f c s) := by
  have h : ByRequests s { s with demand := clampDemand (classMax s .data) f c } := .inert rfl rfl rfl rfl
  unfold applyDemand; dsimp only; split
  · exact (h.trans (trimToCeiling_byRequests _)).trans (freeCaughtGrowth_byRequests _)
  · exact h

theorem settleReturned_byRequests (e : LoanEntry) (s : State) : ByRequests s (settleReturned e s) := by
  unfold settleReturned; split
  · split <;> exact .inert rfl rfl rfl rfl
  · exact .refl s

theorem unwindStack_byRequests (n : Nat) (s : State) : ByRequests s (unwindStack n s) := by
  induction n generalizing s with
  | zero => exact .refl s
  | succ n ih =>
    have hpop : ByRequests s { s with loans := s.loans.dropLast } := .inert rfl rfl rfl rfl
    unfold unwindStack; split
    · split
      · exact .refl s
      · exact hpop.trans (ih _)
      · exact (hpop.trans (settleReturned_byRequests _ _)).trans (ih _)
    · exact .refl s

theorem unwind_byRequests (s : State) : ByRequests s (unwind s) := by
  have h := unwindStack_byRequests s.loans.length s
  unfold unwind; dsimp only; split
  · exact (h.trans (commitGrant_byRequests _ _ _ _)).trans (trimToCeiling_byRequests _)
  · exact h

theorem markLoan_byRequests (i : Nat) (x : LoanState) (s : State) : ByRequests s (markLoan i x s) := .inert rfl rfl rfl rfl

theorem voidLoanOf_byRequests (r : Nat) (c : ClaimRecord) (s : State) : ByRequests s (voidLoanOf r c s) := by
  unfold voidLoanOf voidLoan; split
  · split
    · split
      · exact (markLoan_byRequests _ _ s).trans (unwind_byRequests _)
      · exact markLoan_byRequests _ _ s
    · exact .refl s
  · exact .refl s

/-! ### Migration, losses and notices -/

theorem degrade_byRequests (p : Nat) (s : State) : ByRequests s (degrade p s) := .inert rfl rfl rfl rfl

theorem startMigration_byRequests (p : Nat) (s : State) : ByRequests s (startMigration p s) := by
  unfold startMigration; split
  · rename_i q _
    have hlink : ByRequests s (linkSuccessor p q s) := .inert rfl rfl rfl rfl
    exact hlink.trans (.request _ _)
  · exact degrade_byRequests p s

theorem dropSuccessor_byRequests (p : Nat) (s : State) : ByRequests s (dropSuccessor p s) := by
  unfold dropSuccessor; split
  · exact ((setClaim_byRequests _ _ s).trans (setClaim_byRequests _ _ _)).trans (.cancel _ _)
  · exact .refl s

theorem tentativeLoss_byRequests (r : Nat) (s : State) : ByRequests s (tentativeLoss r s) := by
  unfold tentativeLoss; dsimp only; split
  · exact ((releaseRun_byRequests r s).trans (setClaim_byRequests _ _ _)).trans (.request _ _)
  · exact .inert rfl rfl rfl rfl

theorem successorLoss_byRequests (r p : Nat) (s : State) : ByRequests s (successorLoss r p s) := by
  have h := (((releaseRun_byRequests r s).trans (setClaim_byRequests r (s.claim r).unrun.freed _)).trans
    (setClaim_byRequests p (s.claim p).unmoved _)).trans (.cancel r _)
  unfold successorLoss; dsimp only; split
  · exact h.trans (degrade_byRequests _ _)
  · exact h

theorem freeSuccessor_byRequests (c : ClaimRecord) (s : State) : ByRequests s (freeSuccessor c s) := by
  unfold freeSuccessor; split
  · exact (setClaim_byRequests _ _ s).trans (.cancel _ _)
  · exact .refl s

theorem heldLoss_byRequests (r w : Nat) (s : State) : ByRequests s (heldLoss r w s) := by
  unfold heldLoss; dsimp only
  refine .trans (.trans (.trans (.trans ?_ (.request r _)) (freeSuccessor_byRequests _ _))
    (commitGrant_byRequests _ _ _ _)) (voidLoanOf_byRequests _ _ _)
  exact .inert rfl rfl rfl rfl

theorem movingLoss_byRequests (r w : Nat) (s : State) : ByRequests s (movingLoss r w s) := by
  unfold movingLoss; dsimp only
  refine .trans (.trans ?_ (commitGrant_byRequests _ _ _ _)) (voidLoanOf_byRequests _ _ _)
  split <;> exact .inert rfl rfl rfl rfl

theorem releaseAndFree_byRequests (r : Nat) (s : State) : ByRequests s (releaseAndFree r s) := by
  unfold releaseAndFree; dsimp only
  exact ((releaseRun_byRequests r s).trans (setClaim_byRequests _ _ _)).trans (voidLoanOf_byRequests _ _ _)

theorem dataLoss_byRequests (r t w : Nat) (s : State) : ByRequests s (dataLoss r t w s) :=
  ((latch_byRequests _ s).trans (trimTile_byRequests _ _ _)).trans (commitGrant_byRequests _ _ _ _)

theorem applyLoss_byRequests (r : Nat) (g : BitVec 4) (t w : Nat) (s : State) : ByRequests s (applyLoss r g t w s) := by
  unfold applyLoss; split
  · split
    · split
      · exact successorLoss_byRequests _ _ s
      · exact tentativeLoss_byRequests _ s
    · split
      · exact dataLoss_byRequests _ _ _ s
      · exact heldLoss_byRequests _ _ s
    · exact movingLoss_byRequests _ _ s
    · exact releaseAndFree_byRequests _ s
    · exact releaseAndFree_byRequests _ s
    · exact .refl s
    · exact .refl s
  · exact .refl s

theorem resumeSeeking_byRequests (p : Nat) (s : State) : ByRequests s (resumeSeeking p s) := by
  unfold resumeSeeking; dsimp only; split
  · exact (setClaim_byRequests _ _ s).trans (dropSuccessor_byRequests _ _)
  · exact setClaim_byRequests _ _ s

theorem tentativeNoise_byRequests (r : Nat) (s : State) : ByRequests s (tentativeNoise r s) := by
  have h := ((releaseRun_byRequests r s).trans
    (setClaim_byRequests r { (s.claim r).unrun with phase := .seeking } _)).trans (.request r _)
  unfold tentativeNoise; dsimp only; split
  · exact h.trans (resumeSeeking_byRequests _ _)
  · exact h

theorem applyNoise_byRequests (r : Nat) (g : BitVec 4) (t : Nat) (s : State) : ByRequests s (applyNoise r g t s) := by
  unfold applyNoise; split
  · split
    · exact tentativeNoise_byRequests _ s
    · split
      · exact (trimTile_byRequests _ _ s).trans (commitGrant_byRequests _ _ _ _)
      · unfold heldNoise; split
        · exact startMigration_byRequests _ s
        · exact .refl s
    · exact .refl s
  · exact .refl s

theorem applyQuiet_byRequests (r : Nat) (g : BitVec 4) (t : Nat) (s : State) : ByRequests s (applyQuiet r g t s) := by
  unfold applyQuiet; split
  · split
    · exact dropSuccessor_byRequests _ s
    · exact setClaim_byRequests _ _ s
  · exact .refl s

theorem commitContention_byRequests (r : Nat) (x : Run) (s : State) : ByRequests s (commitContention r x s) := by
  unfold commitContention; split
  · exact applyLoss_byRequests _ _ _ _ s
  · exact .refl s

theorem commitNoise_byRequests (r : Nat) (x : Run) (s : State) : ByRequests s (commitNoise r x s) := by
  unfold commitNoise; split
  · exact applyNoise_byRequests _ _ _ s
  · exact .refl s

/-! ### Listening, commits, outcomes and closes -/

theorem endDrain_byRequests (r : Nat) (s : State) : ByRequests s (endDrain r s) := by
  unfold endDrain; split
  · exact releaseAndFree_byRequests _ s
  · exact .refl s

theorem sentItem_byRequests (s : State) (i : CarriedItem) : ByRequests s (sentItem s i) := by
  unfold sentItem; dsimp only; split
  · exact .refl s
  · split
    · exact setClaim_byRequests _ _ s
    · split
      · exact (setClaim_byRequests _ _ s).trans (endDrain_byRequests _ _)
      · exact .refl s

theorem sentNotice_byRequests (l : List CarriedItem) (s : State) : ByRequests s (sentNotice l s) :=
  foldl_frame ByRequests .refl .trans _ sentItem_byRequests l s

theorem promote_byRequests (r : Nat) (s : State) : ByRequests s (promote r s) := by
  unfold promote; split
  · exact .inert rfl rfl rfl rfl
  · dsimp only; split
    · exact (setClaim_byRequests _ _ s).trans (mergeGrowth_byRequests _ _ _)
    · exact .inert rfl rfl rfl rfl

theorem buildNotice_byRequests (s : State) : ByRequests s (buildNotice s) := by
  refine foldl_frame ByRequests .refl .trans _ (fun s r => ?_) _ s
  unfold promoteIfDue; split
  · split
    · exact applyLoss_byRequests _ _ _ _ s
    · exact promote_byRequests _ s
  · exact .refl s

theorem takeCommit_byRequests (r : Nat) (x : Run) (s : State) : ByRequests s (takeCommit r x s) := by
  unfold takeCommit; dsimp only; split <;> exact .inert rfl rfl rfl rfl

theorem applyOutcome_byRequests (r : Nat) (s : State) : ByRequests s (applyOutcome r s) := by
  unfold applyOutcome; split
  · exact .inert rfl rfl rfl rfl
  · split
    · unfold unmetBelowFloor; split <;> exact .inert rfl rfl rfl rfl
    · exact .inert rfl rfl rfl rfl

theorem expireRetry_byRequests (r : Nat) (s : State) : ByRequests s (expireRetry r s) := by
  unfold expireRetry; split
  · exact (setClaim_byRequests _ _ s).trans (.request _ _)
  · dsimp only; split
    · exact (setClaim_byRequests _ _ s).trans (startMigration_byRequests _ _)
    · exact setClaim_byRequests _ _ s
  · exact .refl s

theorem freeClosed_byRequests (s : State) (r : Nat) : ByRequests s (freeClosed s r) := by
  unfold freeClosed; dsimp only; split
  · exact ((releaseRun_byRequests r s).trans (setClaim_byRequests _ _ _)).trans (.cancel _ _)
  · exact (setClaim_byRequests _ _ s).trans (.cancel _ _)

theorem closeProgram_byRequests (n : Nat) (s : State) : ByRequests s (closeProgram n s) :=
  (foldl_frame ByRequests .refl .trans _ freeClosed_byRequests _ s).trans (commitGrant_byRequests _ _ _ _)

theorem closeCallRecord_byRequests (s : State) (r : Nat) : ByRequests s (closeCallRecord s r) := by
  unfold closeCallRecord; split
  · exact (ByRequests.cancel r s).trans (markLoan_byRequests _ _ _)
  · exact freeClosed_byRequests s r

theorem parkRemaining_byRequests (s : State) (r : Nat) : ByRequests s (parkRemaining s r) := by
  unfold parkRemaining; split
  · exact .refl s
  · exact setClaim_byRequests _ _ s

theorem closeCall_byRequests (n : Nat) (s : State) : ByRequests s (closeCall n s) := by
  have hmark := foldl_frame ByRequests .refl .trans _ closeCallRecord_byRequests (closingRecords .voice n s) s
  have hpark := ((hmark.trans (unwindStack_byRequests
    ((closingRecords .voice n s).foldl closeCallRecord s).loans.length _)).trans
    (foldl_frame ByRequests .refl .trans _ parkRemaining_byRequests (closingRecords .voice n s) _)).trans
    (commitGrant_byRequests .voice .closed none _)
  unfold closeCall; dsimp only; split
  · exact (hpark.trans (commitGrant_byRequests _ _ _ _)).trans (trimToCeiling_byRequests _)
  · exact hpark

theorem openSlot_byRequests (k : ServiceClass) (n w : Nat) (s : State) : ByRequests s (openSlot k n w s) := by
  unfold openSlot; split
  · exact (setClaim_byRequests _ _ s).trans (.request _ _)
  · exact .refl s

/-! ### The call lines -/

theorem takeEdge_byRequests (n : Nat) (s : State) : ByRequests s (takeEdge n s) := by
  have hline : ByRequests s (setLine n ⟨true, false⟩ s) := .inert rfl rfl rfl rfl
  unfold takeEdge; split
  · exact .refl s
  · refine hline.trans ?_
    unfold openByLine; split
    · exact .refl _
    · split
      · exact openSlot_byRequests _ _ _ _
      · exact latch_byRequests _ _

theorem closeLine_byRequests (n : Nat) (s : State) : ByRequests s (closeLine n s) := by
  unfold closeLine; split
  · exact (closeCall_byRequests n s).trans (.inert rfl rfl rfl rfl)
  · exact .inert rfl rfl rfl rfl

theorem acknowledgeLine_byRequests (n : Nat) (s : State) : ByRequests s (acknowledgeLine n s) := by
  unfold acknowledgeLine; split
  · split
    · exact .inert rfl rfl rfl rfl
    · exact closeLine_byRequests n s
  · exact .inert rfl rfl rfl rfl

theorem releaseLine_byRequests (n : Nat) (s : State) : ByRequests s (releaseLine n s) := by
  unfold releaseLine; split
  · exact closeLine_byRequests n s
  · exact .refl s

theorem takeLevel_byRequests (s : State) (n : Nat) : ByRequests s (takeLevel s n) := by
  unfold takeLevel; split
  · exact takeEdge_byRequests n s
  · exact .refl s

/-! ### The Peer Table -/

theorem contend_byRequests (t : Nat) (e : ClaimantEntry) (s : State) : ByRequests s (contend t e s) := by
  unfold contend; split
  · exact applyLoss_byRequests _ _ _ _ s
  · exact .refl s

theorem presentEntry_byRequests (e : ClaimantEntry) (s : State) (t : Nat) : ByRequests s (presentEntry e s t) := by
  have htiles : ByRequests s { s with tiles := changeClaimants t (insertEntry e) s.tiles } := .inert rfl rfl rfl rfl
  unfold presentEntry; split
  · exact .refl s
  · exact htiles.trans (contend_byRequests _ _ _)

theorem weakenOn_byRequests (p : Nat) (s : State) (t : Nat) : ByRequests s (weakenOn p s t) := by
  have htiles : ByRequests s { s with tiles := changeClaimants t (weakenEntry p) s.tiles } := .inert rfl rfl rfl rfl
  unfold weakenOn; split
  · exact htiles.trans (contend_byRequests _ _ _)
  · exact .refl s

theorem deletePeer_byRequests (x : PeerRecord) (s : State) : ByRequests s (deletePeer x s) := .inert rfl rfl rfl rfl

theorem replaceClaims_byRequests (p : Nat) (old new : List HeardRun) (s : State) :
    ByRequests s (replaceClaims p old new s) := by
  have hput : ByRequests s { s with
      tiles := removeClaims p old s.tiles, peers := putPeer ⟨p, .fresh, 0, new⟩ s.peers } := .inert rfl rfl rfl rfl
  exact hput.trans (foldl_frame ByRequests .refl .trans _ (fun s h =>
    foldl_frame ByRequests .refl .trans _ (presentEntry_byRequests (entryOf p h)) _ s) new _)

theorem applyFrame_byRequests (f : ReceivedFrame) (s : State) : ByRequests s (applyFrame f s) := by
  unfold applyFrame newPeerFrame; split
  · split
    · exact deletePeer_byRequests _ s
    · exact replaceClaims_byRequests _ _ _ s
  · split
    · exact .refl s
    · split
      · exact replaceClaims_byRequests _ _ _ s
      · split
        · exact (deletePeer_byRequests _ s).trans (replaceClaims_byRequests _ _ _ _)
        · exact latch_byRequests _ s

theorem turnStale_byRequests (p : Nat) (s : State) : ByRequests s (turnStale p s) := by
  unfold turnStale; split
  · rename_i x _
    have hstale : ByRequests s { s with peers := putPeer { x with state := .stale } s.peers } := .inert rfl rfl rfl rfl
    split
    · exact hstale.trans (foldl_frame ByRequests .refl .trans _ (weakenOn_byRequests p) _ _)
    · exact .refl s
  · exact .refl s

theorem turnGone_byRequests (p : Nat) (s : State) : ByRequests s (turnGone p s) := by
  unfold turnGone; split
  · split
    · exact deletePeer_byRequests _ s
    · exact .refl s
  · exact .refl s

theorem agePeers_byRequests (s : State) : ByRequests s (agePeers s) := by
  refine foldl_frame ByRequests .refl .trans _ (fun s p => ?_) _ s
  unfold agePeer; split
  · rename_i x _
    have hage : ByRequests s { s with peers := putPeer { x with age := x.age + 1 } s.peers } := .inert rfl rfl rfl rfl
    exact (hage.trans (turnStale_byRequests _ _)).trans (turnGone_byRequests _ _)
  · exact .refl s

end Sys2Proof.Machine

/-! What the scanner's operations do to its tiles (R25 to R30): each one writes one tile's noise, and the end of a dwell sends at most one
notice. -/

namespace Sys2Proof.Machine

/-! ### One tile's noise -/

/-- The state with what the scanner holds for one tile replaced. -/
def setNoise (t : Nat) (y : TileNoise) (s : State) : State :=
  { s with scan := { s.scan with tiles := s.scan.tiles.set t y } }

theorem modify_eq_set_getD {α : Type} (f : α → α) (l : List α) (i : Nat) (d : α) :
    l.modify i f = l.set i (f (l.getD i d)) := by
  refine List.ext_getElem? fun n => ?_
  rw [List.getElem?_modify, List.getElem?_set]
  by_cases hn : i = n
  · subst hn
    by_cases h : i < l.length
    · simp [List.getD, h]
    · simp [h]
  · simp [hn]

theorem changeNoise_eq (t : Nat) (f : TileNoise → TileNoise) (s : State) :
    changeNoise t f s = setNoise t (f (s.noise t)) s := by
  unfold changeNoise setNoise State.noise; rw [modify_eq_set_getD f s.scan.tiles t TileNoise.reset]

theorem setNoise_setNoise (t : Nat) (x y : TileNoise) (s : State) :
    setNoise t y (setNoise t x s) = setNoise t y s := by
  simp [setNoise, List.set_set]

theorem setNoise_noise (t : Nat) (s : State) : setNoise t (s.noise t) s = s := by
  unfold setNoise State.noise
  by_cases h : t < s.scan.tiles.length
  · rw [List.getD_eq_getElem _ _ h, List.set_getElem_self]
  · rw [List.set_eq_of_length_le (by omega)]

theorem noise_setNoise_same {t : Nat} {s : State} (y : TileNoise) (h : t < s.scan.tiles.length) :
    (setNoise t y s).noise t = y := by
  simp [setNoise, State.noise, List.getD, h]

theorem noise_setNoise_other {t n : Nat} (y : TileNoise) (s : State) (h : n ≠ t) :
    (setNoise t y s).noise n = s.noise n := by
  simp [setNoise, State.noise, List.getD, List.getElem?_set_ne h.symm]

/-! ### Samples and the noise machine -/

theorem takeSample_some (t v : Nat) (s : State) : takeSample t (some v) s =
    setNoise t { s.noise t with level := filterStep (s.noise t).level v } s := changeNoise_eq _ _ _

/-- A RECOVERING tile with its count at 4 becomes QUIET and sends its quiet notice (R28). -/
theorem recoverTile_ready {t : Nat} {s : State} (h : (s.noise t).state = .recovering) (k : 4 ≤ (s.noise t).recovery) :
    recoverTile t s = quietNotice t (setNoise t ⟨(s.noise t).level, .quiet, 0⟩ s) := by
  rw [recoverTile, if_pos ⟨h, k⟩, changeNoise_eq]

theorem recoverTile_unready {t : Nat} {s : State} (h : ¬((s.noise t).state = .recovering ∧ 4 ≤ (s.noise t).recovery)) :
    recoverTile t s = s := if_neg h

/-- The noise machine writes the tile and sends the notice of the state it enters (R27 to R30). -/
theorem driveNoise_eq {t : Nat} {s : State} (ht : t < s.scan.tiles.length) {x y : TileNoise} (hx : s.noise t = x)
    (hy : sweptNoise (noiseOn s) (noiseOff s) x x.level = y) : driveNoise t s =
      if x.state ≠ .noisy ∧ y.state = .noisy then noiseNotice t (setNoise t y s)
      else if x.state = .recovering ∧ y.state = .quiet then quietNotice t (setNoise t y s)
      else setNoise t y s := by
  have hself : setNoise t x s = s := hx ▸ setNoise_noise t s
  obtain ⟨level, state, recovery⟩ := x
  subst hy
  simp only [driveNoise, sweptNoise, enterNoisy, changeNoise_eq, hx, reportedLevel]
  cases state with
  | quiet =>
    by_cases h : noiseOn s ≤ (level + 4) / 8
    · simp [h]
    · simpa [h] using hself.symm
  | noisy =>
    by_cases h : (level + 4) / 8 < noiseOff s
    · simp [h]
    · simpa [h] using hself.symm
  | recovering =>
    by_cases h : (level + 4) / 8 < noiseOff s
    · have hn := noise_setNoise_same (s := s) ⟨level, .recovering, recovery + 1⟩ ht
      by_cases k : 4 ≤ recovery + 1
      · simp only [if_pos h, if_pos k]
        rw [recoverTile_ready (by rw [hn]) (by rw [hn]; exact k), hn, setNoise_setNoise]; simp
      · simp only [if_pos h, if_neg k]
        rw [recoverTile_unready (by rw [hn]; exact fun c => k c.2)]; simp
    · simp [h]

/-! ### The notices -/

theorem noiseNotice_byRequests (t : Nat) (s : State) : ByRequests s (noiseNotice t s) := by
  unfold noiseNotice; split
  · rename_i r _
    have hlatch : ByRequests s (if (s.claim r).phase = .held ∨ (s.claim r).phase = .moving then latch .noise s else s) := by
      split
      · exact latch_byRequests _ s
      · exact .refl s
    dsimp only
    generalize (if (s.claim r).phase = .held ∨ (s.claim r).phase = .moving then latch .noise s else s) = u at hlatch ⊢
    split
    · exact hlatch.trans (applyNoise_byRequests _ _ _ u)
    · exact hlatch
  · exact .refl s

theorem quietNotice_byRequests (t : Nat) (s : State) : ByRequests s (quietNotice t s) := by
  unfold quietNotice; split
  · split
    · exact applyQuiet_byRequests _ _ _ s
    · exact .refl s
  · exact .refl s

end Sys2Proof.Machine

/-! Every step keeps the scanner in its ranges (R21, R25, R28, R32, O56). Requests, cancellations and the engine's own work are spot work;
what is left are the scanner's own commands and the changes of part state. -/

namespace Sys2Proof.Machine

/-! ### The ranges of the levels and the counts -/

/-- The filter stays within 0 to 504 (R25). -/
theorem filterStep_le {f v : Nat} (hf : f ≤ 504) (hv : v ≤ Config.maxSample) : filterStep f v ≤ 504 := by
  simp only [filterStep, Config.maxSample] at *; omega

theorem sweptNoise_law (on off : Nat) {x : TileNoise} {f : Nat} (h : TileNoiseLaw x) (hf : f ≤ 504) :
    TileNoiseLaw (sweptNoise on off x f) := by
  obtain ⟨level, state, recovery⟩ := x
  obtain ⟨-, hr⟩ := h
  unfold sweptNoise
  cases state with
  | quiet =>
    dsimp only; split
    · exact ⟨hf, by simp⟩
    · exact ⟨hf, by simpa using hr⟩
  | noisy =>
    dsimp only; split
    · exact ⟨hf, by simp⟩
    · exact ⟨hf, by simpa using hr⟩
  | recovering =>
    dsimp only; split
    · split
      · exact ⟨hf, by simp⟩
      · rename_i hk; exact ⟨hf, by simp only [if_true, Config.recoverySamples]; omega⟩
    · exact ⟨hf, by simp⟩

theorem reset_tileNoiseLaw : TileNoiseLaw TileNoise.reset := ⟨Nat.zero_le _, rfl⟩

theorem noise_law {s : State} (h : BandLaw s.scan) (t : Nat) : TileNoiseLaw (s.noise t) := by
  unfold State.noise
  by_cases ht : t < s.scan.tiles.length
  · rw [List.getD_eq_getElem _ _ ht]; exact h.tiles _ (List.getElem_mem ht)
  · rw [List.getD_eq_default _ _ (by omega)]; exact reset_tileNoiseLaw

theorem setNoise_scanLaw {s : State} {y : TileNoise} (t : Nat) (h : ScanLaw s.scan) (hy : TileNoiseLaw y) :
    ScanLaw (setNoise t y s).scan := by
  obtain ⟨⟨length, tiles, sweep, capacity, distinct, inBand⟩, hm⟩ := h
  refine ⟨⟨by simpa [setNoise] using length, fun x hx => ?_, sweep, capacity, distinct, inBand⟩, hm⟩
  rcases List.mem_or_eq_of_mem_set hx with hx | rfl
  · exact tiles x hx
  · exact hy

/-! ### The scanner's own commands -/

theorem ByRequests.scanLaw {s t : State} (h : ByRequests s t) (k : ScanLaw s.scan) : ScanLaw t.scan :=
  h.withdrawn.spotWork.scanLaw k

theorem takeSample_scanLaw {s : State} {v : Option Nat} (t : Nat) (h : ScanLaw s.scan) (hv : ∀ n ∈ v, n ≤ Config.maxSample) :
    ScanLaw (takeSample t v s).scan := by
  cases v with
  | none => exact h
  | some v =>
    obtain ⟨hlevel, hrecovery⟩ := noise_law h.1 t
    rw [takeSample_some]
    exact setNoise_scanLaw t h ⟨filterStep_le hlevel (hv v rfl), hrecovery⟩

theorem driveNoise_scanLaw {s : State} {t : Nat} (ht : t < s.scan.tiles.length) (h : ScanLaw s.scan) :
    ScanLaw (driveNoise t s).scan := by
  have hx := noise_law h.1 t
  have hy := setNoise_scanLaw t h (sweptNoise_law (noiseOn s) (noiseOff s) hx hx.1)
  rw [driveNoise_eq ht rfl rfl]
  split
  · exact (noiseNotice_byRequests t _).scanLaw hy
  · split
    · exact (quietNotice_byRequests t _).scanLaw hy
    · exact hy

theorem advanceSweep_bandLaw {s : State} (h : BandLaw s.scan) : BandLaw (advanceSweep s).scan := by
  obtain ⟨length, tiles, -, capacity, distinct, inBand⟩ := h
  refine ⟨length, tiles, ?_, capacity, distinct, inBand⟩
  unfold advanceSweep; dsimp only; split
  · assumption
  · decide

theorem endSweep_scanLaw {m : Measurement} {s : State} (hm : m ∈ s.scan.measuring) (h : ScanLaw s.scan) :
    ScanLaw (endSweep m s).scan := by
  obtain ⟨htile, hsample, -⟩ := h.2 m hm
  have hu := takeSample_scanLaw m.tile h hsample
  unfold endSweep; dsimp only
  refine start_scanLaw (advanceSweep_bandLaw ?_)
  split
  · exact (driveNoise_scanLaw (hu.1.length ▸ htile) hu).1
  · exact hu.1

theorem endSpot_scanLaw {m : Measurement} {s : State} (hm : m ∈ s.scan.measuring) (h : ScanLaw s.scan) :
    ScanLaw (endSpot m s).scan := by
  have hu := takeSample_scanLaw m.tile h (h.2 m hm).2.1
  unfold endSpot; dsimp only; split
  · rename_i e rest hs
    have hrest := hu.1.sublist (l := rest) (by rw [hs]; exact List.sublist_cons_self e rest)
    refine (spotAdvances_spotWork _ _).scanLaw (start_scanLaw ?_)
    unfold spotWithdraws; split
    · exact (hrest.sublist List.filter_sublist).remeasured _
    · exact hrest
  · exact start_scanLaw hu.1

theorem measSampleValid_scanLaw {v : Byte} {s t : State} (h : ScanLaw s.scan) (e : execMeasSampleValid v s = .next t) :
    ScanLaw t.scan := by
  unfold execMeasSampleValid at e
  refine outOfReset_keeps (P := fun s => ScanLaw s.scan) e h ?_
  split
  · rename_i m hm
    obtain ⟨htile, -, hleft, hsweep, hspot⟩ := h.2 m hm
    split
    · refine ⟨h.1.remeasured _, fun m' hm' => ?_⟩
      cases hm'
      exact ⟨htile, fun n hn => by cases hn; exact min_le_left _ _, hleft, hsweep, hspot⟩
    · exact h
  · exact h

theorem dwellEnd_scanLaw {s t : State} (h : ScanLaw s.scan) (e : execDwellEnd s = .next t) : ScanLaw t.scan := by
  unfold execDwellEnd at e
  refine outOfReset_keeps (P := fun s => ScanLaw s.scan) e h ?_
  split
  · rename_i m hm
    split
    · exact (settle_spotWork _).scanLaw (endSweep_scanLaw hm h)
    · exact (settle_spotWork _).scanLaw (endSpot_scanLaw hm h)
    · exact start_scanLaw (takeSample_scanLaw m.tile h (h.2 m hm).2.1).1
  · exact h

theorem recoverTile_scanLaw {s : State} (t : Nat) (h : ScanLaw s.scan) : ScanLaw (recoverTile t s).scan := by
  by_cases k : (s.noise t).state = .recovering ∧ 4 ≤ (s.noise t).recovery
  · rw [recoverTile_ready k.1 k.2]
    exact (quietNotice_byRequests t _).scanLaw (setNoise_scanLaw t h ⟨(noise_law h.1 t).1, by simp⟩)
  · rwa [recoverTile_unready k]

/-! ### Changes of part state -/

theorem enterLeaving_scanLaw {s : State} (h : ScanLaw s.scan) : ScanLaw (enterLeaving s).scan := empty_scanLaw h

theorem enterFault_scanLaw (c : FaultCause) {s : State} (h : ScanLaw s.scan) : ScanLaw (enterFault c s).scan :=
  empty_scanLaw h

theorem endWarmListen_scanLaw {s : State} (h : ScanLaw s.scan) : ScanLaw (endWarmListen s).scan := by
  unfold endWarmListen; split
  · have hqueue : Withdrawn s.scan ((seekingRecords (startActive s)).foldl (fun w r => queuePlacement r w)
        (startActive s)).scan :=
      foldl_frame (fun a b : State => Withdrawn a.scan b.scan) (fun s => .refl _) .trans _
        (fun s r => queuePlacement_withdrawn r s) _ (startActive s)
    have hlines := foldl_frame ByRequests .refl .trans _ takeLevel_byRequests (List.range 4)
      ((seekingRecords (startActive s)).foldl (fun w r => queuePlacement r w) (startActive s))
    exact hlines.scanLaw (hqueue.spotWork.scanLaw h)
  · exact h

theorem countWarmTick_scan (s : State) : (countWarmTick s).scan = s.scan := by
  unfold countWarmTick; split <;> rfl

theorem completeLeaving_scan (s : State) : (completeLeaving s).scan = s.scan := by
  unfold completeLeaving; split <;> rfl

theorem giveSentNotice_scanLaw (f : Frame) {s : State} (h : ScanLaw s.scan) : ScanLaw (giveSentNotice f s).scan := by
  unfold giveSentNotice; split
  · rw [completeLeaving_scan]; split <;> exact h
  · exact (sentNotice_byRequests _ s).scanLaw h

theorem handOn_scanLaw (f : ReceivedFrame) {s : State} (h : ScanLaw s.scan) : ScanLaw (handOn f s).scan := by
  unfold handOn; split
  · split
    · exact h
    · exact enterFault_scanLaw _ h
  · exact (applyFrame_byRequests f s).scanLaw h

theorem buildFrame_scanLaw {s : State} (h : ScanLaw s.scan) : ScanLaw (buildFrame s).scan := by
  have hb : ScanLaw (if isActive s = true then buildNotice s else s).scan := by
    split
    · exact (buildNotice_byRequests s).scanLaw h
    · exact h
  exact hb

/-! ### The service link -/

theorem takeRequest_scanLaw (check : State → LinkResult) (effect : State → State) (reply : State → List Byte) {s : State}
    (h : ScanLaw s.scan) (k : ScanLaw (effect s).scan) : ScanLaw (takeRequest check effect reply s).scan := by
  unfold takeRequest; split
  · exact k
  · exact h

theorem settle_scanLaw {s t : State} (h : ByRequests s t) (k : ScanLaw s.scan) : ScanLaw (settle t).scan :=
  (settle_spotWork t).scanLaw (h.scanLaw k)

theorem serve_scanLaw (c : Instr) {s : State} (h : ScanLaw s.scan) : ScanLaw (serve c s).scan := by
  cases c with
  | readStatus => exact takeRequest_scanLaw _ _ _ h h
  | ackAttn causes => exact takeRequest_scanLaw _ _ _ h h
  | setData floor ceiling => exact takeRequest_scanLaw _ _ _ h (settle_scanLaw (applyDemand_byRequests _ _ s) h)
  | openProgram slot width => exact takeRequest_scanLaw _ _ _ h (settle_scanLaw (openSlot_byRequests _ _ _ s) h)
  | closeProgram slot => exact takeRequest_scanLaw _ _ _ h (settle_scanLaw (closeProgram_byRequests _ s) h)
  | openCall slot => exact takeRequest_scanLaw _ _ _ h (settle_scanLaw (openSlot_byRequests _ _ _ s) h)
  | closeCall slot => exact takeRequest_scanLaw _ _ _ h (settle_scanLaw (closeLine_byRequests _ s) h)
  | ackCallLine slot => exact takeRequest_scanLaw _ _ _ h (settle_scanLaw (acknowledgeLine_byRequests _ s) h)
  | readGrant service => exact takeRequest_scanLaw _ _ _ h h
  | readMap start count => exact takeRequest_scanLaw _ _ _ h h
  | leave => exact takeRequest_scanLaw _ _ _ h (enterLeaving_scanLaw h)
  | join => exact takeRequest_scanLaw _ _ _ h h
  | _ => exact h

theorem clockIn_scanLaw (b : Byte) {s : State} (h : ScanLaw s.scan) : ScanLaw (clockIn b s).scan := by
  have hu : ScanLaw (clockBytes [b] s).scan := h
  unfold clockIn; dsimp only; split
  · split
    · exact serve_scanLaw _ hu
    · exact hu
  · exact hu

theorem transact_scanLaw (bs : List Byte) {s : State} (h : ScanLaw s.scan) : ScanLaw (transact bs s).scan := by
  have hfold : ∀ l : List Byte, ScanLaw (l.foldl (fun u b => clockIn b u) s).scan := fun l =>
    foldl_keeps (P := fun s => ScanLaw s.scan) (fun _ b k => clockIn_scanLaw b k) l s h
  unfold transact; split
  · exact h
  · split
    · exact hfold _
    · exact h
  · exact hfold _

/-! ### Every command and every step -/

/-- Every command keeps the scanner's law: the scanner's own, the changes of part state, and the requests and cancellations of the
others. -/
theorem exec_scanLaw {c : Instr} {s t : State} (h : ScanLaw s.scan) (e : exec c s = .next t) : ScanLaw t.scan := by
  have keep : ∀ {f : State → State}, outOfReset s f = .next t → ScanLaw (f s).scan → ScanLaw t.scan := fun k hf =>
    outOfReset_keeps (P := fun s => ScanLaw s.scan) k h hf
  unfold exec at e
  cases c with
  | reset => cases e; exact (scannerLaw_iff _).mp reset_scannerLaw
  | resetRelease =>
    cases e; split
    · exact h
    · exact h
  | configReadComplete bytes =>
    refine keep e ?_; split
    · split
      · exact start_scanLaw h.1
      · exact start_scanLaw (empty_scanLaw h).1
    · exact h
  | ageingTick =>
    refine keep e ?_; split
    · refine (settle_spotWork _).scanLaw (endWarmListen_scanLaw ?_)
      rw [countWarmTick_scan]
      exact (agePeers_byRequests _).scanLaw h
    · exact h
  | peerStale p => exact keep e (settle_scanLaw (turnStale_byRequests p s) h)
  | peerGone p => exact keep e ((turnGone_byRequests p s).scanLaw h)
  | warmListenEnd => exact keep e ((settle_spotWork _).scanLaw (endWarmListen_scanLaw h))
  | announcementTimerExpiry ccCs =>
    refine keep e ?_; split
    · exact (settle_spotWork _).scanLaw
        (buildFrame_scanLaw (s := sampleCarrier ccCs { s with chan := s.chan.drawPeriod }) h)
    · exact h
  | deferralBackoffEnd ccCs => refine keep e ?_; split <;> exact h
  | urgentBackoffEnd ccCs =>
    refine keep e ?_; split
    · exact (settle_spotWork _).scanLaw
        (buildFrame_scanLaw (s := sampleCarrier ccCs { s with chan := { s.chan with urgentBackoff := none } }) h)
    · exact h
  | transmissionEnd ccCs =>
    refine keep e ?_; split
    · rename_i f c _
      exact (settleFrom_spotWork _ _).scanLaw
        (giveSentNotice_scanLaw f (s := sampleCarrier ccCs { s with chan := c }) h)
    · exact h
  | drainEnd r => exact keep e ((settleFrom_spotWork _ _).scanLaw ((endDrain_byRequests r s).scanLaw h))
  | leavingComplete => exact keep e (by rw [completeLeaving_scan]; exact h)
  | syncDetected => refine keep e ?_; split <;> exact h
  | receptionEnd bytes =>
    refine keep e ?_; dsimp only; split
    · split
      · exact (settle_spotWork _).scanLaw (handOn_scanLaw _ (s := setReception none (sampleCarrier false s)) h)
      · exact h
    · exact h
  | receptionOverrun => refine keep e ?_; split <;> exact h
  | measSampleValid sample => exact measSampleValid_scanLaw h e
  | dwellEnd => exact dwellEnd_scanLaw h e
  | noiseRecovered tile => exact keep e ((settle_spotWork _).scanLaw (recoverTile_scanLaw tile h))
  | roomRequest r g w =>
    refine keep e ?_; dsimp only
    refine (settleFrom_spotWork _ _).scanLaw ?_
    rw [send_scan]; split
    · exact (topDownTrim_byRequests _ _).scanLaw h
    · exact h
  | roomAnswer r g a =>
    refine keep e ?_; dsimp only; split
    · split
      · exact (settle_spotWork _).scanLaw ((takeRoomAnswer_spotWork _ _ _).scanLaw h)
      · exact h
    · exact h
  | commit r g x =>
    refine keep e ?_; dsimp only; split
    · refine (settleFrom_spotWork _ _).scanLaw ((commitNoise_byRequests _ _ _).scanLaw
        ((commitContention_byRequests _ _ _).scanLaw ?_))
      exact (takeCommit_byRequests r x (arrive (.commit r g x) s)).scanLaw h
    · exact h
  | commitAnswer r g a =>
    refine keep e ?_; dsimp only; split
    · split
      · exact h
      · exact (settle_spotWork _).scanLaw ((takeCommitAnswer_spotWork _ _ _).scanLaw h)
    · exact h
  | lendRequest b bg l lg n => refine keep e ?_; dsimp only; split <;> exact h
  | lendAnswer r g a =>
    refine keep e ?_; dsimp only; split
    · split
      · exact (settle_spotWork (setActive none _)).scanLaw h
      · exact (settle_spotWork _).scanLaw ((reenter_chooses _ _).spotWork.scanLaw h)
    · exact h
  | placementOutcome r g o =>
    refine keep e ?_; dsimp only; split
    · exact (applyOutcome_byRequests r (arrive (.placementOutcome r g o) s)).scanLaw h
    · exact h
  | retryExpiry r =>
    refine keep e ?_; split
    · exact settle_scanLaw (expireRetry_byRequests r s) h
    · exact h
  | dataGrowthExpiry =>
    refine keep e ?_; split
    · exact settle_scanLaw (growthComparison_byRequests _) h
    · exact h
  | linkSelect =>
    cases e; dsimp only; split <;> exact h
  | linkDeselect => cases e; exact h
  | linkTimeout => refine keep e ?_; split <;> exact h
  | badCode code =>
    refine keep e ?_; split
    · exact h
    · exact transact_scanLaw _ h
  | readStatus | ackAttn | setData | openProgram | closeProgram | openCall | closeCall | ackCallLine | readGrant | readMap
  | leave | join => exact keep e (transact_scanLaw _ h)
  | callLineAssert line =>
    cases e; dsimp only; split
    · exact settle_scanLaw (takeEdge_byRequests line (setCallLevel line true s)) h
    · exact h
  | callLineDeassert line =>
    cases e; dsimp only; split
    · exact settle_scanLaw (releaseLine_byRequests line (setCallLevel line false s)) h
    · exact h
  | entryCountAssembled bytes =>
    refine keep e ?_; split
    · split <;> exact h
    · exact h
  | responseByteClockedOut => refine keep e ?_; split <;> exact h

/-- The passing of time shortens the dwell in progress, and no more of the scanner. -/
theorem idle_scanLaw {s : State} (h : ScanLaw s.scan) : ScanLaw (idle s).scan := by
  unfold idle; split
  · refine ⟨h.1.remeasured _, fun m hm => ?_⟩
    obtain ⟨m', hm', rfl⟩ := Option.mem_map.mp hm
    obtain ⟨htile, hsample, hleft, hsweep, hspot⟩ := h.2 m' hm'
    exact ⟨htile, hsample, (Nat.sub_le _ _).trans hleft, hsweep, hspot⟩
  · exact h

/-- Settles O56: every command by `exec_scanLaw`, and the passing of time. -/
theorem stepKeepsScanner : Obligations.StepKeepsScanner := by
  intro s t h e
  rw [scannerLaw_iff] at h ⊢
  unfold step at e
  split at e
  · rename_i rest _; exact exec_scanLaw (s := { s with pending := rest }) h e
  · cases e; exact idle_scanLaw h

end Sys2Proof.Machine

/-! The commands of the scanner (O26 to O29): the samples of a dwell (R23), and the ends of the dwells (R24 to R34). -/

namespace Sys2Proof.Machine

/-! ### Samples -/

theorem outOfReset_released {s : State} (h : s.loader.inReset = false) (f : State → State) :
    outOfReset s f = .next (f s) := by
  simp [outOfReset, h]

/-- The sample of a dwell that has none yet is taken, clamped to 63 (R23). -/
theorem measSampleValid_first {s : State} {m : Measurement} (v : Byte) (hr : s.loader.inReset = false)
    (hm : s.scan.measuring = some m) (h : m.sample = none) : exec (.measSampleValid v) s =
      .next { s with scan := { s.scan with measuring := some { m with sample := some (clampSample v) } } } := by
  simp only [exec, execMeasSampleValid, outOfReset_released hr, hm, if_pos h]

/-- A later sample of a dwell is ignored (R23). -/
theorem measSampleValid_later {s : State} {m : Measurement} (v : Byte) (hr : s.loader.inReset = false)
    (hm : s.scan.measuring = some m) (h : m.sample ≠ none) : exec (.measSampleValid v) s = .next s := by
  simp only [exec, execMeasSampleValid, outOfReset_released hr, hm, if_neg h]

/-- Settles O26: the port read from the measurement in progress, and the two cases of a sample. -/
theorem firstSampleOfADwellIsTaken : Obligations.FirstSampleOfADwellIsTaken := by
  refine ⟨fun s h => ⟨?_, ?_⟩, fun m s h => ⟨?_, ?_⟩, fun v m s hr hm => ⟨?_, ?_⟩⟩
  · rw [measTile, h]; rfl
  · rw [measStrobe, h]
  · rw [measTile, h]; rfl
  · rw [measStrobe, h]; exact decide_eq_true_iff
  · exact measSampleValid_first v hr hm
  · exact measSampleValid_later v hr hm

end Sys2Proof.Machine

/-! The way of a placement request through the engine (R102, R103, R108, R114). A request that the Claim Table has sent for a record in
ACTIVE stays with the engine until its outcome is sent: a VOICE one is never suspended, and in a queue in the order of rank no other one
enters CHOOSE while a VOICE request waits. -/

namespace Sys2Proof.Machine

/-! ### The queue in the order of rank -/

/-- A queue in the order of rank (R102). -/
abbrev Ranked (l : List Request) : Prop := l.Pairwise (fun a b => rank b.cls ≤ rank a.cls)

theorem joinQueue_perm (q : Request) (l : List Request) : (joinQueue q l).Perm (q :: l) := by
  induction l with
  | nil => exact .refl _
  | cons h t ih =>
    unfold joinQueue; split
    · exact .refl _
    · exact (ih.cons h).trans (.swap _ _ _)

theorem mem_joinQueue_self (q : Request) (l : List Request) : q ∈ joinQueue q l :=
  (joinQueue_perm q l).symm.subset (.head _)

/-- A request takes its place by rank (R102). -/
theorem joinQueue_ranked (q : Request) {l : List Request} (h : Ranked l) : Ranked (joinQueue q l) := by
  induction l with
  | nil => exact List.pairwise_singleton _ _
  | cons a t ih =>
    obtain ⟨hhead, htail⟩ := List.pairwise_cons.mp h
    unfold joinQueue; split
    · rename_i hlt
      refine List.pairwise_cons.mpr ⟨fun b hb => ?_, h⟩
      rcases List.mem_cons.mp hb with rfl | hb
      · exact hlt.le
      · exact (hhead b hb).trans hlt.le
    · rename_i hge
      refine List.pairwise_cons.mpr ⟨fun b hb => ?_, ih htail⟩
      rcases List.mem_cons.mp ((joinQueue_perm q t).subset hb) with rfl | hb
      · exact not_lt.mp hge
      · exact hhead b hb

/-- Behind a request that is no VOICE one, a queue in the order of rank holds no VOICE request. -/
theorem not_voice_of_ranked {q : Request} {l : List Request} (h : Ranked (q :: l)) (hq : q.cls ≠ .voice) :
    ∀ a ∈ l, a.cls ≠ .voice := by
  intro a ha hv
  have hle := (List.pairwise_cons.mp h).1 a ha
  rw [hv] at hle
  cases hc : q.cls <;> simp [hc, rank] at hle hq

theorem voiceQueued_eq_false {e : Engine} : voiceQueued e = false ↔ ∀ q ∈ e.queue, q.cls ≠ .voice := by
  simp [voiceQueued]

/-- The queue is in the order of rank, and a placement that waits to enter CHOOSE is a VOICE one, or no VOICE request is queued. -/
structure VoiceFirst (e : Engine) : Prop where
  ranked : Ranked e.queue
  entering : ∀ p ∈ e.active, p.stage = .entering → p.request.cls ≠ .voice → voiceQueued e = false

theorem takeHead_voiceFirst {e : Engine} (h : Ranked e.queue) (ha : e.active = none) : VoiceFirst e.takeHead := by
  unfold Engine.takeHead; split
  · rename_i q rest hq
    rw [hq] at h
    refine ⟨(List.pairwise_cons.mp h).2, fun p hp _ hc => ?_⟩
    cases hp
    exact voiceQueued_eq_false.mpr (not_voice_of_ranked h hc)
  · exact ⟨h, by simp [ha]⟩

/-! ### A request on its way -/

/-- Where a request for record `r` under generation `g` is: its outcome is sent; or the engine rests with work for the record; or the
request is queued; or it is the active placement. A request that is no VOICE one goes by an engine that serves VOICE first. -/
inductive Asked (r : Nat) (g : BitVec 4) (e : Engine) (out : List Instr) : Prop where
  | answered (o : PlacementEnd) : .placementOutcome r g o ∈ out → Asked r g e out
  | resting (p : Placement) : e.active = some p → p.stage ≠ .entering → r ∈ e.records → Asked r g e out
  | queued (q : Request) : q ∈ e.queue → q.record = r → q.generation = g → (q.cls = .voice ∨ VoiceFirst e) → Asked r g e out
  | active (p : Placement) : e.active = some p → p.request.record = r → p.request.generation = g →
      (p.request.cls = .voice ∨ VoiceFirst e) → Asked r g e out

section
variable {r : Nat} {g : BitVec 4}

/-- What has been asked is held or answered. -/
theorem Asked.held {e : Engine} {out : List Instr} (h : Asked r g e out) :
    r ∈ e.records ∨ ∃ o, .placementOutcome r g o ∈ out := by
  cases h with
  | answered o h => exact .inr ⟨o, h⟩
  | resting p _ _ h => exact .inl h
  | queued q hq hr _ _ => exact .inl (mem_records.mpr (.inl ⟨q, hq, hr⟩))
  | active p hp hr _ _ => exact .inl (mem_records.mpr (.inr (.inl ⟨p, hp, hr⟩)))

theorem takeHead_asked {e : Engine} {out : List Instr} {q : Request} (ha : e.active = none) (hq : q ∈ e.queue)
    (hr : q.record = r) (hg : q.generation = g) (hv : q.cls = .voice ∨ Ranked e.queue) : Asked r g e.takeHead out := by
  have hfirst : q.cls = .voice ∨ VoiceFirst e.takeHead := hv.imp_right fun h => takeHead_voiceFirst h ha
  unfold Engine.takeHead at hfirst ⊢
  cases hl : e.queue with
  | nil => simp [hl] at hq
  | cons a rest =>
    simp only [hl] at hfirst ⊢
    rcases List.mem_cons.mp (hl ▸ hq) with rfl | hrest
    · exact .active _ rfl hr hg hfirst
    · exact .queued q hrest hr hg hfirst

/-- The start of the next placement keeps what has been asked on its way (R103, R115). -/
theorem takeUpIf_asked {b : Bool} {s : State} (h : Asked r g s.engine s.outbox) :
    Asked r g (takeUpIf b s).engine (takeUpIf b s).outbox := by
  cases b with
  | false => simpa [takeUpIf] using h
  | true =>
    cases ha : s.engine.active with
    | some p =>
      have hn : s.engine.next = (s.engine, []) := by simp [Engine.next, ha]
      simpa [takeUpIf, hn] using h
    | none =>
      cases h with
      | answered o h => exact .answered o (List.mem_append_left _ h)
      | resting p hp => rw [ha] at hp; cases hp
      | active p hp => rw [ha] at hp; cases hp
      | queued q hq hr hg hv =>
        have hranked : q.cls = .voice ∨ Ranked s.engine.queue := hv.imp_right (·.ranked)
        have head : ∀ out, Asked r g s.engine.takeHead out := fun out => takeHead_asked ha hq hr hg hranked
        simp only [takeUpIf, if_true, Engine.next, ha, Option.isSome_none, Bool.false_eq_true, if_false]
        cases hu : s.engine.suspended with
        | none => exact head _
        | some u =>
          simp only [Engine.resume]
          cases hvq : voiceQueued s.engine with
          | true => exact head _
          | false =>
            simp only [Bool.false_eq_true, if_false]
            split
            · exact .queued q hq hr hg (hranked.imp_right fun h => ⟨h, fun _ _ _ _ => hvq⟩)
            · exact takeHead_asked (e := { s.engine with suspended := none }) ha hq hr hg hranked

/-- CHOOSE keeps what has been asked on its way: the placement that enters it ends with its outcome or rests, and one that is suspended
is not the one asked for. -/
theorem chooseNow_asked {s : State} (h : Asked r g s.engine s.outbox) :
    Asked r g (chooseNow s).engine (chooseNow s).outbox := by
  rcases chooseNow_cases s with ⟨hs, -⟩ | ⟨p, hp, hentering, hc⟩
  · rwa [hs]
  rcases hc.engine with ⟨o, he, ho⟩ | ⟨p', l, hreq, hstage, he, ho⟩ | ⟨hcls, hvq, u, -, he, ho⟩ <;> rw [he, ho]
  · cases h with
    | answered o h => exact .answered o (List.mem_append_left _ h)
    | resting p' hp' hn => rw [hp] at hp'; cases hp'; exact absurd hentering hn
    | queued q hq hr hg hv => exact .queued q hq hr hg (hv.imp_right fun h => ⟨h.ranked, nofun⟩)
    | active p' hp' hr hg hv =>
      rw [hp] at hp'; cases hp'
      exact .answered o (List.mem_append_right _ (by simp [hr, hg]))
  · have hrest : ∀ {x : Nat}, x ∈ s.engine.records → x ∈ ({ s.engine with active := some p' } : Engine).records := by
      intro x hx
      rcases mem_records.mp hx with hq | ⟨k, hk, hkr⟩ | hu
      · exact mem_records.mpr (.inl hq)
      · rw [hp] at hk; cases hk
        exact mem_records.mpr (.inr (.inl ⟨p', rfl, by rw [hreq]; exact hkr⟩))
      · exact mem_records.mpr (.inr (.inr hu))
    rcases h.held with hr | ⟨o, ho⟩
    · exact .resting p' rfl hstage (hrest hr)
    · exact .answered o (List.mem_append_left _ ho)
  · have hfirst : ¬VoiceFirst s.engine := fun h => by simp [h.entering p hp hentering hcls] at hvq
    cases h with
    | answered o h => exact .answered o h
    | resting p' hp' hn => rw [hp] at hp'; cases hp'; exact absurd hentering hn
    | queued q hq hr hg hv => exact .queued q hq hr hg (.inl (hv.resolve_right hfirst))
    | active p' hp' hr hg hv => rw [hp] at hp'; cases hp'; exact absurd (hv.resolve_right hfirst) hcls

theorem runEngine_asked (n : Nat) {s : State} (h : Asked r g s.engine s.outbox) :
    Asked r g (runEngine n s).engine (runEngine n s).outbox := by
  induction n generalizing s with
  | zero => exact h
  | succ n ih =>
    unfold runEngine; split
    · exact ih (takeUpIf_asked (chooseNow_asked h))
    · exact h

/-- The engine's work at the end of a step keeps what has been asked on its way. -/
theorem settle_asked {s : State} (h : Asked r g s.engine s.outbox) : Asked r g (settle s).engine (settle s).outbox :=
  runEngine_asked _ (takeUpIf_asked h)

end

/-! ### A request that is sent -/

/-- A request in the queue of an engine at rest is asked, whether or not it suspends the active placement (R102, R114). -/
theorem suspendFor_asked {q : Request} {e : Engine} (sc : Scanner) (out : List Instr) (hq : q ∈ e.queue)
    (hrest : ∀ p ∈ e.active, p.stage ≠ .entering) (hranked : e.active = none → Ranked e.queue) :
    Asked q.record q.generation (suspendFor q e sc).1 out := by
  unfold suspendFor
  cases ha : e.active with
  | none => exact .queued q hq rfl rfl (.inr ⟨hranked ha, by simp [ha]⟩)
  | some p =>
    dsimp only; split
    · rename_i hc; exact .queued q hq rfl rfl (.inl hc.1)
    · exact .resting p ha (hrest p ha) (mem_records.mpr (.inl ⟨q, hq, rfl⟩))

theorem mem_records_of_placementGeneration {r : Nat} {e : Engine} {g : BitVec 4} (h : placementGeneration r e = some g) :
    r ∈ e.records := by
  have hactive : ∀ p, e.active = some p → p.request.record = r → r ∈ e.records := fun p hp hr =>
    mem_records.mpr (.inr (.inl ⟨p, hp, hr⟩))
  have hsuspended : ∀ u, e.suspended = some u → u.request.record = r → r ∈ e.records := fun u hu hr =>
    mem_records.mpr (.inr (.inr ⟨u, hu, hr⟩))
  unfold placementGeneration at h
  split at h
  · rename_i p u hp hu
    split at h
    · exact hactive p hp ‹_›
    · split at h
      · exact hsuspended u hu ‹_›
      · cases h
  · rename_i p hp _
    split at h
    · exact hactive p hp ‹_›
    · cases h
  · rename_i u _ hu
    split at h
    · exact hsuspended u hu ‹_›
    · cases h
  · cases h

/-- A request that arrives at an engine under its law, with its queue in the order of rank, is asked (R102). -/
theorem requestIn_asked (q : Request) {e : Engine} (sc : Scanner) (out : List Instr)
    (hidle : e.active = none → e = Engine.reset) (hrest : ∀ p ∈ e.active, p.stage ≠ .entering) (hranked : Ranked e.queue) :
    Asked q.record q.generation (requestIn q e sc).1 out := by
  unfold requestIn
  split
  · rename_i hany
    obtain ⟨k, hk, hkr⟩ := List.any_eq_true.mp hany
    refine suspendFor_asked sc out ?_ hrest fun ha => ?_
    · exact List.mem_map.mpr ⟨k, hk, if_pos (by simpa using hkr)⟩
    · rw [hidle ha] at hk; cases hk
  · split
    · exact suspendFor_asked sc out (mem_joinQueue_self _ _) hrest fun _ => joinQueue_ranked _ hranked
    · rename_i g hg
      split
      · obtain ⟨p, hp⟩ : ∃ p, e.active = some p := by
          cases ha : e.active with
          | some p => exact ⟨p, rfl⟩
          | none => rw [hidle ha] at hg; cases hg
        exact .resting p hp (hrest p hp) (mem_records_of_placementGeneration hg)
      · dsimp only
        rw [cancelIn_engine]
        exact suspendFor_asked _ out (mem_joinQueue_self _ _)
          (fun p hp => hrest p (Option.filter_eq_some_iff.mp hp).1)
          fun _ => joinQueue_ranked _ (hranked.filter _)

/-- In ACTIVE, a placement request for a record is asked under the record's generation (R101, R102). -/
theorem requestPlacement_asked (r : Nat) {s : State} (ha : s.loader.part = .active)
    (hidle : s.engine.active = none → s.engine = Engine.reset) (hrest : ∀ p ∈ s.engine.active, p.stage ≠ .entering)
    (hranked : Ranked s.engine.queue) :
    Asked r (s.claim r).generation (requestPlacement r s).engine (requestPlacement r s).outbox := by
  have hactive : isActive s = true := by simp [isActive, ha]
  refine takeUpIf_asked ?_
  have hq : (queuePlacement r s).engine = (requestIn (requestOf s r) s.engine s.scan).1 := by
    simp [queuePlacement, hactive]
  rw [hq]
  exact requestIn_asked (requestOf s r) s.scan _ hidle hrest hranked

end Sys2Proof.Machine

/-! The notices of the scanner at the Claim Table (R29, R30): what the noise notice and the quiet notice of a tile come to, by the phase
and class of the own record on it (R91, R92, R123, R130, R133). -/

namespace Sys2Proof.Machine

/-! ### The record on a tile -/

theorem ownRecord_spec {s : State} {t r : Nat} (h : ownRecord s t = some r) :
    r < s.claims.length ∧ (s.claim r).ownsTile t = true := by
  obtain ⟨hr, ho, -⟩ := List.findIdx?_eq_some_iff_getElem.mp h
  exact ⟨hr, by rw [State.claim, List.getD_eq_getElem _ _ hr]; exact ho⟩

theorem ownsTile_iff {c : ClaimRecord} {x : Run} {t : Nat} (h : c.run = some x) :
    c.ownsTile t = true ↔ c.phase.holds = true ∧ x.first ≤ t ∧ t < x.first + x.width := by
  simp [ClaimRecord.ownsTile, h, runHas]

theorem claim_setClaim_same {s : State} {r : Nat} (c : ClaimRecord) (h : r < s.claims.length) :
    (setClaim r c s).claim r = c := by
  simp [State.claim, setClaim, List.getD, h]

theorem claim_setClaim_other {s : State} {q r : Nat} (c : ClaimRecord) (h : q ≠ r) :
    (setClaim r c s).claim q = s.claim q := by
  simp [State.claim, setClaim, List.getD, List.getElem?_set_ne h.symm]

/-- A record outside the table holds no run. -/
theorem lt_length_of_run {s : State} {r : Nat} {x : Run} (h : (s.claim r).run = some x) : r < s.claims.length := by
  by_contra hn
  rw [State.claim, List.getD_eq_default _ _ (by omega)] at h
  cases h

theorem allQuiet_iff {s : State} {r : Nat} {x : Run} (h : (s.claim r).run = some x) :
    allQuiet s r = true ↔ ∀ n ∈ runTiles x, (s.noise n).state = .quiet := by
  simp [allQuiet, h]

/-- Over a tile that has become QUIET the run is QUIET where its other tiles are. -/
theorem allQuiet_setNoise_quiet {s : State} {r t : Nat} {x : Run} {y : TileNoise} (h : (s.claim r).run = some x)
    (ht : t < s.scan.tiles.length) (hy : y.state = .quiet) :
    allQuiet (setNoise t y s) r = true ↔ ∀ n ∈ runTiles x, n = t ∨ (s.noise n).state = .quiet := by
  rw [allQuiet_iff (s := setNoise t y s) h]
  refine forall₂_congr fun n _ => ?_
  by_cases hn : n = t
  · subst hn; simp [noise_setNoise_same y ht, hy]
  · simp [noise_setNoise_other y s hn, hn]

/-- A run over a tile that is not QUIET is not all QUIET. -/
theorem allQuiet_setNoise_noisy {s : State} {r t : Nat} {x : Run} {y : TileNoise} (h : (s.claim r).run = some x)
    (ht : t < s.scan.tiles.length) (hy : y.state ≠ .quiet) :
    allQuiet (setNoise t y s) r = true ↔ ∀ n ∈ runTiles x, n ≠ t ∧ (s.noise n).state = .quiet := by
  rw [allQuiet_iff (s := setNoise t y s) h]
  refine forall₂_congr fun n _ => ?_
  by_cases hn : n = t
  · subst hn; simp [noise_setNoise_same y ht, hy]
  · simp [noise_setNoise_other y s hn, hn]

/-- A record without a run that is freed keeps its generation (R75). -/
theorem freed_eq_ended {c : ClaimRecord} (h : c.run = none) : c.freed = c.ended := by
  simp [ClaimRecord.freed, ClaimRecord.ended, h]

/-- The release of a run and the freeing of its record is its end (R75, R77). -/
theorem unrun_freed_eq_ended {c : ClaimRecord} {x : Run} (h : c.run = some x) : c.unrun.freed = c.ended := by
  simp [ClaimRecord.freed, ClaimRecord.unrun, ClaimRecord.ended, h]

/-! ### The quiet notice -/

theorem quietNotice_frame (t : Nat) (s : State) : OnlyClaims s (quietNotice t s) := by
  unfold quietNotice; split
  · split
    · exact applyQuiet_frame _ _ _ s
    · exact .refl s
  · exact .refl s

/-- The withdrawal of a migration changes no grant, latch, urgent build or loan (R132, R133). -/
theorem dropSuccessor_keeps (p : Nat) (s : State) : (dropSuccessor p s).grants = s.grants ∧
    (dropSuccessor p s).attn = s.attn ∧ (dropSuccessor p s).chan = s.chan ∧ (dropSuccessor p s).loans = s.loans := by
  unfold dropSuccessor; split <;> exact ⟨rfl, rfl, rfl, rfl⟩

/-- A quiet notice changes no grant, latch, urgent build or loan (R92, R133). -/
theorem quietNotice_keeps (t : Nat) (s : State) : (quietNotice t s).grants = s.grants ∧ (quietNotice t s).attn = s.attn ∧
    (quietNotice t s).chan = s.chan ∧ (quietNotice t s).loans = s.loans := by
  unfold quietNotice applyQuiet
  split
  · split
    · split
      · split
        · exact dropSuccessor_keeps _ s
        · exact ⟨rfl, rfl, rfl, rfl⟩
      · exact ⟨rfl, rfl, rfl, rfl⟩
    · exact ⟨rfl, rfl, rfl, rfl⟩
  · exact ⟨rfl, rfl, rfl, rfl⟩

theorem quietNotice_unowned {t : Nat} {s : State} (h : ownRecord s t = none) : quietNotice t s = s := by
  rw [quietNotice, h]

/-- The notice is for a HELD video or voice record with its whole run QUIET (R92). -/
abbrev QuietServed (s : State) (r : Nat) : Prop :=
  (s.claim r).phase = .held ∧ (s.claim r).cls ≠ .data ∧ allQuiet s r = true

theorem quietNotice_unserved {t r : Nat} {s : State} (h : ownRecord s t = some r) (k : ¬QuietServed s r) :
    quietNotice t s = s := by
  have hq : applyQuiet r (s.claim r).generation t s = s := if_neg fun c => k c.2
  simp only [quietNotice, h, hq, ite_self]

theorem quietNotice_served {t r : Nat} {s : State} (h : ownRecord s t = some r) (k : QuietServed s r) : quietNotice t s =
    (s.claim r).successor.elim (setClaim r { s.claim r with retry := none } s) fun _ => dropSuccessor r s := by
  have hn : noticeApplies r (s.claim r).generation t s = true := by simp [noticeApplies, (ownRecord_spec h).2]
  simp only [quietNotice, h, applyQuiet, if_pos (Or.inl k.1 : (s.claim r).phase = .held ∨ (s.claim r).phase = .moving),
    if_pos (And.intro hn k)]
  cases (s.claim r).successor <;> rfl

theorem dropSuccessor_claims {s : State} {p q : Nat} (h : (s.claim p).successor = some q) :
    (dropSuccessor p s).claims =
      (s.claims.set p { s.claim p with successor := none }).set q (s.claim q).freed := by
  simp [dropSuccessor, h]

theorem dropSuccessor_records {s : State} {p q : Nat} (h : (s.claim p).successor = some q) :
    q ∉ (dropSuccessor p s).engine.records := by
  simp only [dropSuccessor, h]; exact cancel_records q _

/-- What R92 and R133 make of the record `r` with the run `v` on tile `n` that has become QUIET: `t` is the state after `s`. -/
structure QuietTaken (n r : Nat) (v : Run) (s t : State) : Prop where
  ignored : ¬((s.claim r).phase = .held ∧ (s.claim r).cls ≠ .data) ∨
    ¬(∀ m ∈ runTiles v, m = n ∨ (s.noise m).state = .quiet) → t.claims = s.claims
  degraded : (s.claim r).phase = .held ∧ (s.claim r).cls ≠ .data →
    (∀ m ∈ runTiles v, m = n ∨ (s.noise m).state = .quiet) → (s.claim r).successor = none →
    t.claims = s.claims.set r { s.claim r with retry := none }
  migrating : ∀ q, (s.claim r).phase = .held ∧ (s.claim r).cls ≠ .data →
    (∀ m ∈ runTiles v, m = n ∨ (s.noise m).state = .quiet) → (s.claim r).successor = some q → q ≠ r →
    (s.claim q).run = none →
    t.claims = (s.claims.set r { s.claim r with successor := none }).set q (s.claim q).ended ∧ q ∉ t.engine.records

/-- The quiet notice of a tile that has become QUIET, in a state `t` that has the claims of the notice's and no more placement work. -/
theorem quietNotice_taken {n r : Nat} {v : Run} {y : TileNoise} {s t : State} (ht : n < s.scan.tiles.length)
    (hy : y.state = .quiet) (ho : ownRecord s n = some r) (hv : (s.claim r).run = some v)
    (hc : t.claims = (quietNotice n (setNoise n y s)).claims)
    (hw : ∀ q ∈ t.engine.records, q ∈ (quietNotice n (setNoise n y s)).engine.records) : QuietTaken n r v s t := by
  have hclean := allQuiet_setNoise_quiet hv ht hy
  have hserved : ∀ (h : (s.claim r).phase = .held ∧ (s.claim r).cls ≠ .data)
      (k : ∀ m ∈ runTiles v, m = n ∨ (s.noise m).state = .quiet), QuietServed (setNoise n y s) r :=
    fun h k => ⟨h.1, h.2, hclean.mpr k⟩
  refine ⟨fun h => ?_, fun h k hs => ?_, fun q h k hs _ hq => ?_⟩
  · rw [hc, quietNotice_unserved (s := setNoise n y s) ho]
    · rfl
    · rintro ⟨hp, hcls, hquiet⟩
      exact h.elim (· ⟨hp, hcls⟩) (· (hclean.mp hquiet))
  · rw [hc, quietNotice_served (s := setNoise n y s) ho (hserved h k),
      show ((setNoise n y s).claim r).successor = none from hs]
    rfl
  · have hnotice : quietNotice n (setNoise n y s) = dropSuccessor r (setNoise n y s) := by
      rw [quietNotice_served (s := setNoise n y s) ho (hserved h k),
        show ((setNoise n y s).claim r).successor = some q from hs]
      rfl
    rw [hnotice] at hc hw
    refine ⟨?_, fun hr => dropSuccessor_records (s := setNoise n y s) hs (hw q hr)⟩
    rw [hc, dropSuccessor_claims (s := setNoise n y s) hs, ← freed_eq_ended hq]
    rfl

/-- Settles O29: the tile becomes QUIET, and the quiet notice is all that follows. -/
theorem recoveredTileIsQuiet : Obligations.RecoveredTileIsQuiet := by
  intro n s hr hn hstate hcount
  have hexec : exec (.noiseRecovered n) s =
      .next (settle (quietNotice n (setNoise n ⟨(s.noise n).level, .quiet, 0⟩ s))) := by
    simp only [exec, execNoiseRecovered, outOfReset_released hr, recoverTile_ready hstate hcount]
  generalize hw : setNoise n ⟨(s.noise n).level, .quiet, 0⟩ s = w at hexec
  have hsettle := settle_frame (quietNotice n w)
  obtain ⟨hgrants, hattn, hchan, hloans⟩ := quietNotice_keeps n w
  refine ⟨_, hexec, ?_, ?_, ?_, ?_, ?_, fun ho => ?_, fun r v ho hv => ?_⟩
  · have hframe := (quietNotice_frame n w).trans hsettle.claimsFrame
    subst hw; exact hframe
  · rw [hsettle.grants, hgrants, ← hw]; rfl
  · rw [hsettle.attn, hattn, ← hw]; rfl
  · rw [hsettle.chan, hchan, ← hw]; rfl
  · rw [hsettle.loans, hloans, ← hw]; rfl
  · rw [hsettle.claims, ← hw, quietNotice_unowned (s := setNoise n _ s) ho]; rfl
  · have htaken : QuietTaken n r v s (settle (quietNotice n w)) := by
      subst hw
      exact quietNotice_taken hn rfl ho hv hsettle.claims fun q => settle_records
    obtain ⟨hignored, hdegraded, hmigrating⟩ := htaken
    exact ⟨hignored, hdegraded, hmigrating⟩

end Sys2Proof.Machine

/-! The end of a spot dwell (R25, R33, R34, R113, O28): the sample writes the level, the oldest entry leaves the queue, and its result is
judged by the placement in CONFIRM. -/

namespace Sys2Proof.Machine

/-! ### The verdict and its judgement -/

theorem spotClear_of_lt {s : State} {o : Option Nat} {v : Nat} (h : o = some v) (k : v < noiseOn s) :
    spotClear o s = true := by
  subst h; exact decide_eq_true k

/-- A HIGH sample and a MISSING one are not CLEAR (R33). -/
theorem spotClear_of_high {s : State} {o : Option Nat} (h : ∀ v, o = some v → noiseOn s ≤ v) : spotClear o s = false := by
  cases o with
  | none => rfl
  | some v => exact decide_eq_false (not_lt.mpr (h v rfl))

section
variable {n : Nat} {g : SpotTag} {e : Engine} {p : Placement}

/-- A result under another tag, outside CONFIRM, or for a tile that is not pending is discarded (R113). -/
theorem judgeSpot_discard (clear : Bool) (hp : e.active = some p)
    (h : p.request.tag ≠ g ∨ p.stage ≠ .confirm ∨ n ∉ p.pendingSpots) : judgeSpot n g clear e = .discard := by
  simp only [judgeSpot, hp, if_pos h]

theorem judgeSpot_wait {w : Nat} {ws : List Nat} (hp : e.active = some p) (hg : p.request.tag = g)
    (hs : p.stage = .confirm) (hn : n ∈ p.pendingSpots)
    (hf : p.pendingSpots.filter (fun m => decide (m ≠ n)) = w :: ws) :
    judgeSpot n g true e = .wait { p with pendingSpots := w :: ws } := by
  have h : ¬(p.request.tag ≠ g ∨ p.stage ≠ .confirm ∨ n ∉ p.pendingSpots) := by simp [hg, hs, hn]
  simp only [judgeSpot, hp, if_neg h, if_true, hf]

theorem judgeSpot_commit {x : Run} (hp : e.active = some p) (hg : p.request.tag = g) (hs : p.stage = .confirm)
    (hn : n ∈ p.pendingSpots) (hf : p.pendingSpots.filter (fun m => decide (m ≠ n)) = []) (hx : p.chosen = some x) :
    judgeSpot n g true e = .commit { p with pendingSpots := [] } x := by
  have h : ¬(p.request.tag ≠ g ∨ p.stage ≠ .confirm ∨ n ∉ p.pendingSpots) := by simp [hg, hs, hn]
  simp only [judgeSpot, hp, if_neg h, if_true, hf, hx]

theorem judgeSpot_exclude (hp : e.active = some p) (hg : p.request.tag = g) (hs : p.stage = .confirm)
    (hn : n ∈ p.pendingSpots) : judgeSpot n g false e =
      .exclude { p with excluded := p.excluded ++ [n], chosen := none, pendingSpots := [] } := by
  have h : ¬(p.request.tag ≠ g ∨ p.stage ≠ .confirm ∨ n ∉ p.pendingSpots) := by simp [hg, hs, hn]
  simp only [judgeSpot, hp, if_neg h, Bool.false_eq_true, if_false]

end

/-! ### Re-entry and the re-check of COMMIT -/

theorem reenter_again {p : Placement} (s : State) (h : p.attempts < 3) :
    reenter p s = enterChoose (2 - p.attempts) { p with attempts := p.attempts + 1 } s := by
  have hn : Config.maxAttempts - (p.attempts + 1) = 2 - p.attempts := by simp only [Config.maxAttempts]; omega
  rw [reenter, if_pos h, hn]

theorem reenter_ends {p : Placement} (s : State) (h : 3 ≤ p.attempts) : reenter p s = endPlacement p .noRoom s :=
  if_neg (not_lt.mpr h)

/-- The re-check of a run on entry to COMMIT fails (R116). -/
abbrev RecheckFails (p : Placement) (x : Run) (s : State) : Prop :=
  (∃ n ∈ runTiles x, eligible s p.request.cls n = false) ∨
    (p.request.cls = .voice ∧ p.request.predecessor = none ∧ heldTotal s = holdLimit s)

/-- A DATA placement that would pass the limit (R116, log 12). -/
abbrev PassesLimit (p : Placement) (s : State) : Prop :=
  p.request.cls = .data ∧ holdLimit s < heldTotal s + p.request.width

/-- Entry to COMMIT: the limit of a DATA request, the re-check, and then the room request or the commit (R116 to R118). -/
theorem enterCommit_eq (p : Placement) (x : Run) (s : State) [Decidable (RecheckFails p x s)] : enterCommit p x s =
    if PassesLimit p s then endPlacement p .limit s
    else if RecheckFails p x s then reenter p s
    else if p.request.cls = .video ∧ p.request.predecessor = none then
      send (.roomRequest p.request.record p.request.generation p.request.width) (setActive
        (some { p with stage := .commit, pendingSpots := [], room := some .requested }) s)
    else sendCommit { p with stage := .commit, pendingSpots := [], room := none } x s := by
  have hstale : ((runTiles x).any (fun t => !eligible s p.request.cls t) = true ∨
      (p.request.cls = .voice ∧ p.request.predecessor = none ∧ heldTotal s = holdLimit s)) ↔ RecheckFails p x s := by
    simp [RecheckFails]
  simp only [enterCommit, hstale]

/-- Eligibility reads the noise state of a tile, not its level (R13). -/
theorem eligible_congr {s t : State} (htiles : t.tiles = s.tiles) (hclaims : t.claims = s.claims)
    (hloader : t.loader = s.loader) (hnoise : ∀ n, (t.noise n).state = (s.noise n).state) (k : ServiceClass) (n : Nat) :
    eligible t k n = eligible s k n := by
  simp only [eligible, State.tile, isOwn, ownId, htiles, hclaims, hloader, hnoise]

/-! ### The end of the dwell -/

theorem start_tiles (sc : Scanner) : sc.start.tiles = sc.tiles := by
  unfold Scanner.start; split <;> rfl

theorem start_spots (sc : Scanner) : sc.start.spots = sc.spots := by
  unfold Scanner.start; split <;> rfl

theorem start_sweep (sc : Scanner) : sc.start.sweep = sc.sweep := by
  unfold Scanner.start; split <;> rfl

theorem startMeasurement_frame (s : State) : OnlyPlacement s (startMeasurement s) :=
  scan_frame s _ (start_tiles _) (start_sweep _)

/-- What a sample makes of a tile: its level moves, and nothing else (R25). -/
theorem takeSample_noise_state (t : Nat) (o : Option Nat) (s : State) (n : Nat) :
    ((takeSample t o s).noise n).state = (s.noise n).state := by
  cases o with
  | none => rfl
  | some v =>
    rw [takeSample_some]
    by_cases hn : n = t
    · subst hn
      by_cases hl : n < s.scan.tiles.length
      · rw [noise_setNoise_same _ hl]
      · rw [setNoise, List.set_eq_of_length_le (by omega)]
    · rw [noise_setNoise_other _ _ hn]

@[simp] theorem takeSample_spots (t : Nat) (o : Option Nat) (s : State) : (takeSample t o s).scan.spots = s.scan.spots := by
  cases o <;> rfl
@[simp] theorem takeSample_sweep (t : Nat) (o : Option Nat) (s : State) : (takeSample t o s).scan.sweep = s.scan.sweep := by
  cases o <;> rfl
@[simp] theorem takeSample_engine (t : Nat) (o : Option Nat) (s : State) : (takeSample t o s).engine = s.engine := by
  cases o <;> rfl

/-- The state of a spot dwell that has ended: the sample is taken, and `rest` is left of the queue. -/
def dequeued (m : Measurement) (rest : List SpotEntry) (s : State) : State :=
  { takeSample m.tile m.sample s with scan := { (takeSample m.tile m.sample s).scan with spots := rest } }

theorem endSpot_cons {m : Measurement} {s : State} {e : SpotEntry} {rest : List SpotEntry}
    (h : s.scan.spots = e :: rest) {a : SpotAction} (ha : judgeSpot e.tile e.tag (spotClear m.sample s) s.engine = a) :
    endSpot m s = spotAdvances a (startMeasurement (spotWithdraws a (dequeued m rest s))) := by
  simp only [endSpot, takeSample_spots, takeSample_engine, h, ha, dequeued]

theorem endSpot_frame (m : Measurement) (s : State) : OnlyPlacement (takeSample m.tile m.sample s) (endSpot m s) := by
  unfold endSpot; dsimp only; split
  · rename_i e rest _
    refine (OnlyPlacement.trans ?_ (startMeasurement_frame _)).trans (spotAdvances_frame _ _)
    refine OnlyPlacement.trans (t := dequeued m rest s) (by constructor <;> rfl) ?_
    unfold spotWithdraws; split
    · exact scan_frame _ _ rfl rfl
    · exact .refl _
  · exact startMeasurement_frame _

/-- With the last entry gone the next measurement is the sweep's, and no spot check that follows interrupts it (R24). -/
theorem settle_endSpot_last {m : Measurement} {s : State} {e : SpotEntry} (h : s.scan.spots = [e]) :
    (settle (endSpot m s)).scan.measuring = some ⟨s.scan.sweep, .sweep, none, 250⟩ := by
  rw [endSpot_cons h rfl]
  generalize judgeSpot e.tile e.tag (spotClear m.sample s) s.engine = a
  have hsweep : (spotWithdraws a (dequeued m [] s)).scan.sweep = s.scan.sweep := by
    rw [← takeSample_sweep m.tile m.sample s]; unfold spotWithdraws; split <;> rfl
  have hspots : (spotWithdraws a (dequeued m [] s)).scan.spots = [] := by
    unfold spotWithdraws; split <;> rfl
  have hstart : (startMeasurement (spotWithdraws a (dequeued m [] s))).scan.measuring =
      some ⟨s.scan.sweep, .sweep, none, 250⟩ := by
    rw [startMeasurement_scan, Scanner.start, hspots, hsweep]
  exact ((spotAdvances_spotWork a _).trans (settle_spotWork _)).sweeping hstart rfl

/-- An engine whose placement is past CHOOSE's door has no work left in the step. -/
theorem settle_of_active {s : State} {p : Placement} (h : s.engine.active = some p) (k : p.stage ≠ .entering) :
    settle s = s := by
  refine settle_idle (fun hn => ?_) fun q hq => ?_
  · rw [h] at hn; cases hn
  · rw [h] at hq; cases hq; exact k

/-- Settles O28: the queue and the sweep by the frame, and the result by its judgement, case by case. -/
theorem spotDwellUpdatesTheLevelAlone : Obligations.SpotDwellUpdatesTheLevelAlone := by
  intro m s hr hm ht he x y u
  obtain ⟨hidle, hrest, -⟩ := he
  have hu : takeSample m.tile m.sample s = u := by
    cases hs : m.sample with
    | none => simp only [u, y, hs]; exact (setNoise_noise m.tile s).symm
    | some v => simp only [u, y, hs]; exact takeSample_some m.tile v s
  refine ⟨fun hserves => ⟨settle (endSpot m s), ?exec, ?frame, ?last, ?discard, ?wait, ?result⟩, fun hserves => ?withdrawn⟩
  case withdrawn =>
    simp only [exec, execDwellEnd, outOfReset_released hr, hm, hserves, hu]; rfl
  case exec => simp only [exec, execDwellEnd, outOfReset_released hr, hm, hserves]
  case frame => exact hu ▸ (endSpot_frame m s).trans (settle_frame _)
  case last => exact fun e h => settle_endSpot_last h
  case discard =>
    intro e rest p hs hp h
    have hb : (startMeasurement (dequeued m rest s)).engine = s.engine := takeSample_engine m.tile m.sample s
    rw [endSpot_cons hs (judgeSpot_discard _ hp h), show settle (spotAdvances .discard _) = _ from
      settle_of_active (hb ▸ hp) (hrest p hp)]
    exact ⟨hb, start_spots _⟩
  case wait =>
    intro e rest p v w ws hs hp hg hstage hv hlt hn hf
    have hb : (startMeasurement (dequeued m rest s)).engine = s.engine := takeSample_engine m.tile m.sample s
    rw [endSpot_cons hs (spotClear_of_lt hv hlt ▸ judgeSpot_wait hp hg hstage hn hf),
      show settle (spotAdvances (.wait _) _) = _ from settle_of_active rfl (by rw [hstage]; nofun)]
    exact ⟨congrArg (fun d : Engine => { d with active := some { p with pendingSpots := w :: ws } }) hb, start_spots _⟩
  case result =>
    intro e rest p hs hp hg hstage hn
    refine ⟨?exclude, ?commit⟩
    case exclude =>
      intro hhigh a q
      have hend : endSpot m s = reenter q a := by
        rw [endSpot_cons hs (spotClear_of_high hhigh ▸ judgeSpot_exclude hp hg hstage hn), dequeued, hu]
        rfl
      refine ⟨fun hlt => ?_, fun hge => ?_⟩
      · rw [hend, reenter_again (p := q) a hlt]
      · rw [hend, reenter_ends (p := q) a hge]; rfl
    case commit =>
      intro v z hv hlt hz hf a q primary full stale
      have hend : endSpot m s = enterCommit q z a := by
        rw [endSpot_cons hs (spotClear_of_lt hv hlt ▸ judgeSpot_commit hp hg hstage hn hf hz), dequeued, hu]
        rfl
      have hnoise : ∀ n, (a.noise n).state = (s.noise n).state := fun n => by
        rw [← takeSample_noise_state m.tile m.sample s n, hu, State.noise, State.noise, start_tiles]
      have hstale : RecheckFails q z a ↔ stale := by
        simp only [RecheckFails, eligible_congr (s := s) (t := a) rfl rfl rfl hnoise]; rfl
      have hfull : PassesLimit q a ↔ full := Iff.rfl
      classical
      rw [hend, enterCommit_eq]
      simp only [hstale, hfull]
      refine ⟨fun hl => ?_, fun hl hc hlt => ?_, fun hl hc hge => ?_, fun hl hc hroom => ?_, fun hl hc hroom => ?_⟩
      · rw [if_pos hl]; rfl
      · rw [if_neg hl, if_pos hc, reenter_again (p := q) a hlt]
      · rw [if_neg hl, if_pos hc, reenter_ends (p := q) a hge]; rfl
      · rw [if_neg hl, if_neg hc, if_pos hroom]; exact settle_of_active rfl nofun
      · rw [if_neg hl, if_neg hc, if_neg hroom]; exact settle_of_active rfl nofun

end Sys2Proof.Machine

/-! The end of a sweep dwell (R24 to R30, O27): the sample drives the tile's noise state, the notice of the state it enters goes to the own
record on the tile, and what the notice asks for stays with the Placement Engine to the end of the step. -/

namespace Sys2Proof.Machine

/-! ### The scanner -/

/-- What the end of a sweep dwell makes of its tile: driven by a sample, and left by a MISSING one (R25 to R28). -/
def sweptTile (m : Measurement) (s : State) : TileNoise :=
  match m.sample with
  | some v => sweptNoise (noiseOn s) (noiseOff s) (s.noise m.tile) ((s.noise m.tile).level - (s.noise m.tile).level / 8 + v)
  | none => s.noise m.tile

theorem sweptTile_missing {m : Measurement} (s : State) (h : m.sample = none) : sweptTile m s = s.noise m.tile := by
  simp only [sweptTile, h]

/-- The notice of the state that a tile has come to from `x` (R29, R30). -/
def notified (t : Nat) (x y : TileNoise) (s : State) : State :=
  if x.state ≠ .noisy ∧ y.state = .noisy then noiseNotice t s
  else if x.state = .recovering ∧ y.state = .quiet then quietNotice t s
  else s

theorem notified_noisy {t : Nat} {x y : TileNoise} (s : State) (hx : x.state ≠ .noisy) (hy : y.state = .noisy) :
    notified t x y s = noiseNotice t s := if_pos ⟨hx, hy⟩

theorem notified_quiet {t : Nat} {x y : TileNoise} (s : State) (hx : x.state = .recovering) (hy : y.state = .quiet) :
    notified t x y s = quietNotice t s := by
  rw [notified, if_neg (by simp [hy]), if_pos ⟨hx, hy⟩]

theorem notified_still {t : Nat} {x y : TileNoise} (s : State) (h : ¬(x.state ≠ .noisy ∧ y.state = .noisy))
    (k : ¬(x.state = .recovering ∧ y.state = .quiet)) : notified t x y s = s := by
  rw [notified, if_neg h, if_neg k]

theorem notified_self (t : Nat) (x : TileNoise) (s : State) : notified t x x s = s :=
  notified_still s (fun h => h.1 h.2) fun h => by rw [h.1] at h; cases h.2

/-- On a tile in no own run there is no notice. -/
theorem notified_unowned {t : Nat} {s : State} (x y : TileNoise) (h : ownRecord s t = none) : notified t x y s = s := by
  have hn : noiseNotice t s = s := by rw [noiseNotice, h]
  rw [notified, hn, quietNotice_unowned h, ite_self, ite_self]

theorem notified_byRequests (t : Nat) (x y : TileNoise) (s : State) : ByRequests s (notified t x y s) := by
  unfold notified; split
  · exact noiseNotice_byRequests t s
  · split
    · exact quietNotice_byRequests t s
    · exact .refl s

/-- The end of a sweep dwell: the tile is written, its notice sent, the position advances and the next measurement begins (R24). -/
theorem endSweep_eq {m : Measurement} {s : State} (ht : m.tile < s.scan.tiles.length) : endSweep m s =
    startMeasurement (advanceSweep
      (notified m.tile (s.noise m.tile) (sweptTile m s) (setNoise m.tile (sweptTile m s) s))) := by
  cases hs : m.sample with
  | none => simp only [endSweep, hs, sweptTile_missing s hs, notified_self, setNoise_noise]; rfl
  | some v =>
    generalize hx : ({ s.noise m.tile with level := filterStep (s.noise m.tile).level v } : TileNoise) = x
    have hnoise : (setNoise m.tile x s).noise m.tile = x := noise_setNoise_same x ht
    have hlen : m.tile < (setNoise m.tile x s).scan.tiles.length := by simpa [setNoise] using ht
    have hswept : sweptNoise (noiseOn (setNoise m.tile x s)) (noiseOff (setNoise m.tile x s)) x x.level = sweptTile m s := by
      simp only [sweptTile, hs]; rw [← hx]; rfl
    have hstate : x.state = (s.noise m.tile).state := by rw [← hx]
    simp only [endSweep, hs, Option.isSome_some, if_true, takeSample_some, hx, driveNoise_eq hlen hnoise hswept,
      setNoise_setNoise, hstate]
    rfl

theorem noiseNotice_frame (t : Nat) (s : State) : OnlyClaims s (noiseNotice t s) := by
  unfold noiseNotice; split
  · rename_i r _
    have hlatch : OnlyClaims s (if (s.claim r).phase = .held ∨ (s.claim r).phase = .moving then latch .noise s else s) := by
      split
      · exact latch_frame _ s
      · exact .refl s
    dsimp only
    generalize (if (s.claim r).phase = .held ∨ (s.claim r).phase = .moving then latch .noise s else s) = u at hlatch ⊢
    split
    · exact hlatch.trans (applyNoise_frame _ _ _ u)
    · exact hlatch
  · exact .refl s

theorem notified_frame (t : Nat) (x y : TileNoise) (s : State) : OnlyClaims s (notified t x y s) := by
  unfold notified; split
  · exact noiseNotice_frame t s
  · split
    · exact quietNotice_frame t s
    · exact .refl s

/-- What an event at the Claim Table leaves as it was, it leaves so over an advance of the sweep. -/
theorem OnlyClaims.advanceSweep {s t : State} (h : OnlyClaims s t) : OnlyClaims (advanceSweep s) (advanceSweep t) := by
  obtain ⟨⟩ := h; constructor <;> simp only [Machine.advanceSweep, *]

/-! ### The rest of the step -/

/-- What the end of a sweep dwell still does to the state `u` that the notice has left. -/
def finishSweep (u : State) : State := settle (startMeasurement (advanceSweep u))

/-- The notice's effects are the step's: what follows changes the scanner and does the engine's work. -/
structure Finishes (u t : State) : Prop where
  claims : t.claims = u.claims
  attn : t.attn = u.attn
  grants : t.grants = u.grants
  chan : t.chan = u.chan
  loans : t.loans = u.loans
  records : ∀ q ∈ t.engine.records, q ∈ u.engine.records
  asked : ∀ q g, Asked q g u.engine u.outbox → Asked q g t.engine t.outbox

theorem finishSweep_finishes {u v : State} (h : u = v) : Finishes v (finishSweep u) := by
  subst h
  have hs := settle_frame (startMeasurement (advanceSweep u))
  exact {
    claims := hs.claims, attn := hs.attn, grants := hs.grants, chan := hs.chan, loans := hs.loans
    records := fun _ h => settle_records (s := startMeasurement (advanceSweep u)) h
    asked := fun _ _ h => settle_asked (s := startMeasurement (advanceSweep u)) h }

theorem finishSweep_frame {s u : State} (h : OnlyClaims s u) : OnlyClaims (advanceSweep s) (finishSweep u) :=
  h.advanceSweep.trans ((startMeasurement_frame _).trans (settle_frame _)).claimsFrame

/-- With an empty spot queue the next measurement is the sweep's, and no spot check that follows interrupts it (R24). -/
theorem finishSweep_measuring {s u : State} (h : ByRequests s u) (hw : u.scan.sweep = s.scan.sweep) (hs : s.scan.spots = []) :
    (finishSweep u).scan.measuring =
      some ⟨if s.scan.sweep + 1 < 120 then s.scan.sweep + 1 else 0, .sweep, none, 250⟩ := by
  refine (settle_spotWork (startMeasurement (advanceSweep u))).sweeping ?_ rfl
  have hu : (advanceSweep u).scan.spots = [] := h.withdrawn.empty hs
  rw [startMeasurement_scan, Scanner.start, hu, ← hw]; rfl

/-- An engine under its law that the notice has not touched has no work left. -/
theorem finishSweep_idle {s u : State} (he : EngineLaw s) (hu : u.engine = s.engine) (ho : u.outbox = s.outbox) :
    (finishSweep u).engine = s.engine ∧ (finishSweep u).outbox = s.outbox := by
  obtain ⟨hidle, hrest, -⟩ := he
  have hs : finishSweep u = startMeasurement (advanceSweep u) := settle_idle (hu ▸ hidle) (hu ▸ hrest)
  rw [hs]; exact ⟨hu, ho⟩

/-! ### Requests that the notice makes -/

/-- The placement asked for record `q` under generation `g` is with the engine of `t`, or its outcome is sent, where the step began in
ACTIVE with the engine under its law. -/
abbrev AsksFor (s t : State) (q : Nat) (g : BitVec 4) : Prop :=
  s.loader.part = .active → EngineLaw s → s.engine.queue.Pairwise (fun a b => rank b.cls ≤ rank a.cls) →
    q ∈ t.engine.records ∨ ∃ o, .placementOutcome q g o ∈ t.outbox

theorem asksFor_of_request {s u v t : State} {q : Nat} {g : BitVec 4} (hl : u.loader = s.loader) (he : u.engine = s.engine)
    (hg : (u.claim q).generation = g) (hve : v.engine = (requestPlacement q u).engine)
    (hvo : v.outbox = (requestPlacement q u).outbox) (hf : Finishes v t) : AsksFor s t q g := by
  intro ha ⟨hidle, hrest, _⟩ hranked
  have h := requestPlacement_asked q (s := u) (hl ▸ ha) (he ▸ hidle) (he ▸ hrest) (he ▸ hranked)
  rw [hg, ← hve, ← hvo] at h
  exact (hf.asked q g h).held

/-! ### The noise notice, by phase and class -/

section
variable {t r : Nat} {s : State}

theorem noiseNotice_tentative (h : ownRecord s t = some r) (hp : (s.claim r).phase = .tentative) :
    noiseNotice t s = tentativeNoise r s := by
  have hn : noticeApplies r (s.claim r).generation t s = true := by simp [noticeApplies, (ownRecord_spec h).2]
  simp [noiseNotice, h, applyNoise, hn, hp]

theorem noiseNotice_held_data (h : ownRecord s t = some r) (hp : (s.claim r).phase = .held)
    (hk : (s.claim r).cls = .data) :
    noiseNotice t s = commitGrant .data .trimmed none (trimTile r t (latch .noise s)) := by
  have hc : (latch .noise s).claim r = s.claim r := rfl
  have hn : noticeApplies r (s.claim r).generation t (latch .noise s) = true := by
    simp [noticeApplies, hc, (ownRecord_spec h).2]
  simp [noiseNotice, h, applyNoise, hn, hc, hp, hk]

theorem noiseNotice_held_other (h : ownRecord s t = some r) (hp : (s.claim r).phase = .held)
    (hk : (s.claim r).cls ≠ .data) : noiseNotice t s = heldNoise r (latch .noise s) := by
  have hc : (latch .noise s).claim r = s.claim r := rfl
  have hn : noticeApplies r (s.claim r).generation t (latch .noise s) = true := by
    simp [noticeApplies, hc, (ownRecord_spec h).2]
  simp [noiseNotice, h, applyNoise, hn, hc, hp, hk]

theorem noiseNotice_moving (h : ownRecord s t = some r) (hp : (s.claim r).phase = .moving) :
    noiseNotice t s = latch .noise s := by
  have hc : (latch .noise s).claim r = s.claim r := rfl
  simp [noiseNotice, h, applyNoise, hc, hp]

/-- A DRAINING and a PARKED record receive no noise notice (R29). -/
theorem noiseNotice_silent (h : ownRecord s t = some r) (hp : (s.claim r).phase = .draining ∨ (s.claim r).phase = .parked) :
    noiseNotice t s = s := by
  rcases hp with hp | hp <;> simp [noiseNotice, h, hp]

end

end Sys2Proof.Machine

/-! What a tile that enters NOISY does to the own record on it (R29, R91, R123, R130), clause by clause, and the settlement of O27. -/

namespace Sys2Proof.Machine

/-! ### Reads of the claim records -/

theorem claim_of_set_same {s t : State} {r : Nat} {c : ClaimRecord} (h : t.claims = s.claims.set r c)
    (hr : r < s.claims.length) : t.claim r = c := by
  simp [State.claim, h, List.getD, hr]

theorem claim_of_set_other {s t : State} {q r : Nat} {c : ClaimRecord} (h : t.claims = s.claims.set r c) (hq : q ≠ r) :
    t.claim q = s.claim q := by
  simp [State.claim, h, List.getD, List.getElem?_set_ne hq.symm]

theorem allQuiet_congr {s t : State} {r : Nat} (hrun : (t.claim r).run = (s.claim r).run)
    (htiles : t.scan.tiles = s.scan.tiles) : allQuiet t r = allQuiet s r := by
  simp only [allQuiet, hrun, State.noise, htiles]

/-- A record that R74 takes is FREE. -/
theorem takable_spec {k : ServiceClass} {p : Option Nat} {s : State} {q : Nat} (h : takable k p s = some q) :
    q < s.claims.length ∧ (s.claim q).phase = .free := by
  unfold takable at h
  split at h
  · cases h
  · split at h
    · cases h
    · obtain ⟨hq, hf, -⟩ := List.findIdx?_eq_some_iff_getElem.mp h
      exact ⟨hq, by rw [State.claim, List.getD_eq_getElem _ _ hq]; simpa using hf⟩

/-! ### A TENTATIVE record seeks again -/

/-- The record releases its run and seeks again, its placement not yet requested (R91). -/
def seekAgain (r : Nat) (s : State) : State := setClaim r { (s.claim r).unrun with phase := .seeking } (releaseRun r s)

theorem seekAgain_claims (r : Nat) (s : State) : (seekAgain r s).claims =
    s.claims.set r { s.claim r with generation := (s.claim r).generation + 1, phase := .seeking, run := none } := by
  simp [seekAgain, ClaimRecord.unrun, List.set_set]

theorem seekAgain_chan (r : Nat) (s : State) :
    (seekAgain r s).chan = if s.loader.part = .active then s.chan.takeUrgent else s.chan := by
  simp [seekAgain, releaseRun, isActive]

theorem tentativeNoise_primary {r : Nat} {s : State} (h : (s.claim r).predecessor = none) :
    tentativeNoise r s = requestPlacement r (seekAgain r s) := by
  simp only [tentativeNoise, h]; rfl

theorem tentativeNoise_successor {r p : Nat} {s : State} (h : (s.claim r).predecessor = some p) :
    tentativeNoise r s = resumeSeeking p (requestPlacement r (seekAgain r s)) := by
  simp only [tentativeNoise, h]; rfl

/-- The predecessor is HELD again, before its successor is looked at (R130). -/
def heldAgain (p : Nat) (s : State) : State := setClaim p { s.claim p with phase := .held } s

theorem resumeSeeking_unclean {p : Nat} {s : State} (h : ¬allQuiet (heldAgain p s) p = true) :
    resumeSeeking p s = heldAgain p s := if_neg h

/-- Where the predecessor's run is all QUIET, its successor `r` is freed and its placement cancelled (R130, R132). -/
theorem resumeSeeking_clean {p r : Nat} {s : State} (h : allQuiet (heldAgain p s) p = true) (hp : p < s.claims.length)
    (hne : p ≠ r) (hs : (s.claim p).successor = some r) : (resumeSeeking p s).claims =
      (s.claims.set r (s.claim r).freed).set p { s.claim p with phase := .held, successor := none } ∧
    r ∉ (resumeSeeking p s).engine.records := by
  have hheld : (heldAgain p s).claim p = { s.claim p with phase := .held } := claim_setClaim_same _ hp
  have hsucc : ((heldAgain p s).claim p).successor = some r := by rw [hheld]; exact hs
  rw [show resumeSeeking p s = dropSuccessor p (heldAgain p s) from if_pos h]
  refine ⟨?_, dropSuccessor_records hsucc⟩
  rw [dropSuccessor_claims hsucc, hheld, heldAgain, claim_setClaim_other _ hne.symm, setClaim_claims, List.set_set,
    List.set_comm _ _ hne]

theorem resumeSeeking_keeps (p : Nat) (s : State) : (resumeSeeking p s).attn = s.attn ∧
    (resumeSeeking p s).grants = s.grants ∧ (resumeSeeking p s).chan = s.chan := by
  obtain ⟨hgrants, hattn, hchan, -⟩ := dropSuccessor_keeps p (heldAgain p s)
  by_cases h : allQuiet (heldAgain p s) p = true
  · rw [show resumeSeeking p s = dropSuccessor p (heldAgain p s) from if_pos h]
    exact ⟨hattn, hgrants, hchan⟩
  · rw [resumeSeeking_unclean h]; exact ⟨rfl, rfl, rfl⟩

/-! ### A HELD DATA record is trimmed -/

theorem trimTile_eq {r t : Nat} {s : State} {x : Run} (h : (s.claim r).run = some x) :
    trimTile r t s = urgentRequest (cutRecord r (trimmedRun x t) s) := by
  simp only [trimTile, h]

theorem trimTile_claims {r t : Nat} {s : State} {x : Run} (h : (s.claim r).run = some x) : (trimTile r t s).claims =
    s.claims.set r (ClaimRecord.keeping { s.claim r with generation := (s.claim r).generation + 1 } (trimmedRun x t)) := by
  rw [trimTile_eq h]; rfl

theorem trimTile_grants (r t : Nat) (s : State) : (trimTile r t s).grants = s.grants := by
  unfold trimTile; split <;> rfl

theorem keeping_generation (c : ClaimRecord) (x : Option Run) : (c.keeping x).generation = c.generation := by
  cases x <;> rfl

/-- One event at the data grant (R96). -/
theorem commitGrant_data_grants (c : GrantCause) (d : Option Nat) (s : State) : (commitGrant .data c d s).grants =
    { s.grants with data := s.grants.data.after (grantEntries s.claims .data) c s.clock.stamp d } := by
  by_cases h : grantEntries s.claims .data = s.grants.data.entries
  · simp [commitGrant, grantMoved, GrantRecord.after, Grants.of, h]
  · simp [commitGrant, grantMoved, GrantRecord.after, GrantRecord.changed, Grants.of, Grants.put, h]

/-- A cause that has been latched is latched after another one. -/
theorem latched_or_and (a b c : Byte) : (a ||| b ||| c) &&& b = b := by
  ext i hi
  simp only [BitVec.getElem_and, BitVec.getElem_or]
  cases a[i] <;> cases b[i] <;> simp

/-! ### The notice of a tile that has become NOISY -/

section
variable {n r : Nat} {y : TileNoise} {z : Run} {s t : State} (ho : ownRecord s n = some r)
  (hf : Finishes (noiseNotice n (setNoise n y s)) t)
include ho hf

/-- The notice of a HELD or MOVING record latches NOISE (R29). -/
theorem noise_latched (hp : (s.claim r).phase = .held ∨ (s.claim r).phase = .moving) :
    t.attn.latched &&& 0x04 = 0x04 := by
  have hlatch : ∀ b, (s.attn.latched ||| 0x04 ||| b) &&& 0x04 = (0x04 : Byte) := latched_or_and s.attn.latched 0x04
  have hbase : (s.attn.latched ||| 0x04) &&& 0x04 = (0x04 : Byte) := by simpa using hlatch 0
  rw [hf.attn]
  rcases hp with hp | hp
  · by_cases hc : (s.claim r).cls = .data
    · rw [noiseNotice_held_data (s := setNoise n y s) ho hp hc]
      have ht : ∀ u : State, (trimTile r n u).attn = u.attn := fun u => by unfold trimTile; split <;> rfl
      simp only [commitGrant, latch, ht]
      split
      · exact hlatch _
      · exact hbase
    · rw [noiseNotice_held_other (s := setNoise n y s) ho hp hc]
      unfold heldNoise; split
      · unfold startMigration; split
        · exact hbase
        · exact hlatch _
      · exact hbase
  · rw [noiseNotice_moving (s := setNoise n y s) ho hp]; exact hbase

/-- A TENTATIVE primary seeks again (R91). -/
theorem noise_tentative_primary (hp : (s.claim r).phase = .tentative) (hq : (s.claim r).predecessor = none) :
    t.claims = s.claims.set r { s.claim r with
      generation := (s.claim r).generation + 1, phase := .seeking, run := none } ∧
    AsksFor s t r ((s.claim r).generation + 1) ∧ t.attn = s.attn ∧ t.grants = s.grants ∧
    t.chan = if s.loader.part = .active then s.chan.takeUrgent else s.chan := by
  have hr := (ownRecord_spec ho).1
  rw [noiseNotice_tentative (s := setNoise n y s) ho hp, tentativeNoise_primary (s := setNoise n y s) hq] at hf
  have hclaims := seekAgain_claims r (setNoise n y s)
  refine ⟨hf.claims.trans hclaims, ?_, hf.attn, hf.grants, hf.chan.trans (seekAgain_chan r (setNoise n y s))⟩
  exact asksFor_of_request (u := seekAgain r (setNoise n y s)) rfl rfl
    (congrArg (·.generation) (claim_of_set_same (s := s) hclaims hr)) rfl rfl hf

/-- A HELD DATA record is trimmed (R91, R145). -/
theorem noise_held_data (hz : (s.claim r).run = some z) (hp : (s.claim r).phase = .held) (hc : (s.claim r).cls = .data) :
    (∀ q, q ≠ r → t.claim q = s.claim q) ∧ (t.claim r).generation = (s.claim r).generation + 1 ∧
    (z.width = 1 → (t.claim r).phase = .free ∧ (t.claim r).run = none) ∧
    (1 < z.width → z.first + z.width - 1 - n ≤ n - z.first →
      (t.claim r).phase = .held ∧ (t.claim r).run = some ⟨z.first, n - z.first⟩) ∧
    (1 < z.width → n - z.first < z.first + z.width - 1 - n →
      (t.claim r).phase = .held ∧ (t.claim r).run = some ⟨n + 1, z.first + z.width - 1 - n⟩) ∧
    t.grants = { s.grants with
      data := s.grants.data.after (grantEntries t.claims .data) .trimmed s.clock.stamp none } := by
  obtain ⟨hr, hown⟩ := ownRecord_spec ho
  obtain ⟨-, hfirst, hlast⟩ := (ownsTile_iff hz).mp hown
  rw [noiseNotice_held_data (s := setNoise n y s) ho hp hc] at hf
  have hclaims : t.claims = s.claims.set r
      (ClaimRecord.keeping { s.claim r with generation := (s.claim r).generation + 1 } (trimmedRun z n)) :=
    hf.claims.trans (trimTile_claims (s := latch .noise (setNoise n y s)) hz)
  have hkept := claim_of_set_same hclaims hr
  refine ⟨fun q hq => claim_of_set_other hclaims hq, ?_, fun hw => ?_, fun hw hle => ?_, fun hw hlt => ?_, ?_⟩
  · rw [hkept, keeping_generation]
  · have hnone : trimmedRun z n = none := if_pos (by simp only [runLast]; omega)
    rw [hkept, hnone]; exact ⟨rfl, rfl⟩
  · have hsome : trimmedRun z n = some ⟨z.first, n - z.first⟩ := by
      rw [trimmedRun, if_neg (by simp only [runLast]; omega)]; exact if_pos hle
    rw [hkept, hsome]; exact ⟨hp, rfl⟩
  · have hsome : trimmedRun z n = some ⟨n + 1, z.first + z.width - 1 - n⟩ := by
      rw [trimmedRun, if_neg (by simp only [runLast]; omega)]; exact if_neg (by simp only [runLast]; omega)
    rw [hkept, hsome]; exact ⟨hp, rfl⟩
  · have hstamp : (trimTile r n (latch .noise (setNoise n y s))).clock = s.clock := (trimTile_frame _ _ _).clock
    rw [hf.grants, commitGrant_data_grants, trimTile_grants, hstamp, hf.claims]; rfl

/-- A HELD video or voice record without successor or timer starts a migration, or is held degraded (R123, R124). -/
theorem noise_held_migrates (hp : (s.claim r).phase = .held) (hc : (s.claim r).cls ≠ .data)
    (hs : (s.claim r).successor = none) (hretry : (s.claim r).retry = none) :
    t.grants = s.grants ∧ t.chan = s.chan ∧
    (takable (s.claim r).cls (some r) s = none → t.claims = s.claims.set r { s.claim r with retry := some 2000000 } ∧
      t.attn = { s.attn with latched := s.attn.latched ||| 0x0C }) ∧
    ∀ q, takable (s.claim r).cls (some r) s = some q → t.claims = (s.claims.set q ⟨(s.claim q).generation + 1,
      (s.claim r).cls, (s.claim r).slot, (s.claim r).width, .seeking, none, 0, 0, .migrate, some r, none, none, 0, none⟩).set r
        { s.claim r with successor := some q } ∧
      AsksFor s t q ((s.claim q).generation + 1) ∧ t.attn = { s.attn with latched := s.attn.latched ||| 0x04 } := by
  rw [noiseNotice_held_other (s := setNoise n y s) ho hp hc,
    show heldNoise r (latch .noise (setNoise n y s)) = _ from if_pos ⟨hs, hretry⟩] at hf
  have hstart : ∀ o, takable (s.claim r).cls (some r) s = o →
      takable ((latch .noise (setNoise n y s)).claim r).cls (some r) (latch .noise (setNoise n y s)) = o := fun _ h => h
  have hkeeps : ∀ u : State, (startMigration r u).grants = u.grants ∧ (startMigration r u).chan = u.chan := fun u => by
    unfold startMigration; split <;> exact ⟨rfl, rfl⟩
  refine ⟨hf.grants.trans (hkeeps _).1, hf.chan.trans (hkeeps _).2, fun hk => ?_, fun q hk => ?_⟩
  · rw [startMigration, hstart _ hk] at hf
    refine ⟨hf.claims, hf.attn.trans ?_⟩
    have hor : s.attn.latched ||| 0x04 ||| 0x08 = s.attn.latched ||| (0x0C : Byte) := BitVec.or_assoc ..
    exact congrArg (fun b => ({ s.attn with latched := b } : Attention)) hor
  · obtain ⟨hq, hfree⟩ := takable_spec hk
    have hne : q ≠ r := fun h => by rw [h, hp] at hfree; cases hfree
    rw [startMigration, hstart _ hk] at hf
    refine ⟨hf.claims, asksFor_of_request (u := linkSuccessor r q (latch .noise (setNoise n y s))) rfl rfl ?_ rfl rfl hf,
      hf.attn⟩
    rw [linkSuccessor, claim_setClaim_other _ hne, claim_setClaim_same (s := latch .noise (setNoise n y s)) _ hq]; rfl

/-- For any other record nothing changes but the latch. -/
theorem noise_ignored (h : ((s.claim r).phase = .held ∧ (s.claim r).cls ≠ .data ∧
      ((s.claim r).successor ≠ none ∨ (s.claim r).retry ≠ none)) ∨ (s.claim r).phase = .moving ∨
      (s.claim r).phase = .draining ∨ (s.claim r).phase = .parked) :
    t.claims = s.claims ∧ t.grants = s.grants ∧ t.chan = s.chan := by
  rcases h with ⟨hp, hc, hs⟩ | hp | hp
  · rw [noiseNotice_held_other (s := setNoise n y s) ho hp hc, show heldNoise r (latch .noise (setNoise n y s)) = _ from
      if_neg fun k => hs.elim (· k.1) (· k.2)] at hf
    exact ⟨hf.claims, hf.grants, hf.chan⟩
  · rw [noiseNotice_moving (s := setNoise n y s) ho hp] at hf
    exact ⟨hf.claims, hf.grants, hf.chan⟩
  · rw [noiseNotice_silent (s := setNoise n y s) ho hp] at hf
    exact ⟨hf.claims, hf.grants, hf.chan⟩

/-- A TENTATIVE successor seeks again and its predecessor is HELD again; where the predecessor's run is clean, the migration is
withdrawn (R91, R130). -/
theorem noise_tentative_successor {p : Nat} {v : Run} (hn : n < s.scan.tiles.length) (hy : y.state = .noisy)
    (hz : (s.claim r).run = some z) (hp : (s.claim r).phase = .tentative) (hq : (s.claim r).predecessor = some p)
    (hne : p ≠ r) (hs : (s.claim p).successor = some r) (hv : (s.claim p).run = some v) :
    ((∀ m ∈ runTiles v, m ≠ n ∧ (s.noise m).state = .quiet) →
      t.claims = (s.claims.set r (s.claim r).ended).set p { s.claim p with phase := .held, successor := none } ∧
        r ∉ t.engine.records) ∧
    (¬(∀ m ∈ runTiles v, m ≠ n ∧ (s.noise m).state = .quiet) →
      t.claims = (s.claims.set r { s.claim r with
        generation := (s.claim r).generation + 1, phase := .seeking, run := none }).set p { s.claim p with phase := .held } ∧
        AsksFor s t r ((s.claim r).generation + 1)) ∧
    t.attn = s.attn ∧ t.grants = s.grants ∧ t.chan = if s.loader.part = .active then s.chan.takeUrgent else s.chan := by
  have hr := (ownRecord_spec ho).1
  rw [noiseNotice_tentative (s := setNoise n y s) ho hp, tentativeNoise_successor (s := setNoise n y s) hq] at hf
  have hseek : (seekAgain r (setNoise n y s)).claims = s.claims.set r { s.claim r with
      generation := (s.claim r).generation + 1, phase := .seeking, run := none } := seekAgain_claims r (setNoise n y s)
  have hasks : ∀ w : State, w.engine = (requestPlacement r (seekAgain r (setNoise n y s))).engine →
      w.outbox = (requestPlacement r (seekAgain r (setNoise n y s))).outbox → Finishes w t →
      AsksFor s t r ((s.claim r).generation + 1) := fun _ =>
    asksFor_of_request (u := seekAgain r (setNoise n y s)) rfl rfl
      (congrArg (·.generation) (claim_of_set_same (s := s) hseek hr))
  obtain ⟨hattn, hgrants, hchan⟩ := resumeSeeking_keeps p (requestPlacement r (seekAgain r (setNoise n y s)))
  have htiles := (requestPlacement_frame r (seekAgain r (setNoise n y s))).levels
  have hclaims : (requestPlacement r (seekAgain r (setNoise n y s))).claims = _ := hseek
  refine ⟨fun hc => ?clean, fun hc => ?unclean, hf.attn.trans hattn, hf.grants.trans hgrants,
    hf.chan.trans (hchan.trans (seekAgain_chan r (setNoise n y s)))⟩
  all_goals
    generalize requestPlacement r (seekAgain r (setNoise n y s)) = u at hf hasks htiles hclaims
    have hup : u.claim p = s.claim p := claim_of_set_other hclaims hne
    have hpl : p < u.claims.length := by rw [hclaims, List.length_set]; exact lt_length_of_run hv
    have hclean : allQuiet (heldAgain p u) p = true ↔ ∀ m ∈ runTiles v, m ≠ n ∧ (s.noise m).state = .quiet := by
      have hrun : ((heldAgain p u).claim p).run = ((setNoise n y s).claim p).run := by
        rw [heldAgain, claim_setClaim_same _ hpl, hup]; rfl
      rw [allQuiet_congr hrun htiles]
      exact allQuiet_setNoise_noisy hv hn (by rw [hy]; decide)
  case clean =>
    obtain ⟨hset, hrecords⟩ := resumeSeeking_clean (hclean.mpr hc) hpl hne (hup ▸ hs)
    have hended : (u.claim r).freed = (s.claim r).ended := by
      rw [claim_of_set_same hclaims hr, ← unrun_freed_eq_ended hz]; rfl
    exact ⟨by rw [hf.claims, hset, hended, hup, hclaims, List.set_set], fun hm => hrecords (hf.records r hm)⟩
  case unclean =>
    rw [resumeSeeking_unclean (hclean.not.mpr hc)] at hf
    exact ⟨by rw [hf.claims, heldAgain, setClaim_claims, hup, hclaims], hasks (heldAgain p u) rfl rfl hf⟩

end

/-- Settles O27: the scanner by `endSweep_eq`, and the notice's clauses one by one. -/
theorem sweepDwellFiltersAndDrives : Obligations.SweepDwellFiltersAndDrives := by
  intro m s hr hm hserves ht x y p
  have hexec : exec .dwellEnd s = .next (finishSweep (notified m.tile x y (setNoise m.tile y s))) := by
    simp only [exec, execDwellEnd, outOfReset_released hr, hm, hserves, endSweep_eq ht]; rfl
  have hframe := finishSweep_frame (notified_frame m.tile x y (setNoise m.tile y s))
  refine ⟨_, hexec, hframe, ?measuring, ?missing, ?still, ?recovered, ?noisy⟩
  case measuring =>
    exact finishSweep_measuring (s := setNoise m.tile y s) (notified_byRequests m.tile x y _) (notified_frame m.tile x y _).sweep
  case missing =>
    intro hs
    have hxy : y = x := sweptTile_missing s hs
    have hn : notified m.tile x y (setNoise m.tile y s) = setNoise m.tile y s := by rw [hxy, notified_self]
    have hfin := finishSweep_finishes hn
    exact ⟨hfin.claims, hfin.attn, hfin.grants, hfin.chan⟩
  case still =>
    intro h
    have hn : notified m.tile x y (setNoise m.tile y s) = setNoise m.tile y s := by
      rcases h with ⟨hnoisy, hquiet⟩ | hunowned
      · exact notified_still _ hnoisy hquiet
      · exact notified_unowned x y (s := setNoise m.tile y s) hunowned
    have hfin := finishSweep_finishes hn
    exact ⟨hfin.claims, hfin.attn, hfin.grants, hfin.chan, hfin.loans, fun he =>
      finishSweep_idle he (congrArg (·.engine) hn) (congrArg (·.outbox) hn)⟩
  case recovered =>
    intro r v hx hquiet ho hv served clean
    have hfin := finishSweep_finishes (notified_quiet (t := m.tile) (setNoise m.tile y s) hx hquiet)
    obtain ⟨hgrants, hattn, hchan, hloans⟩ := quietNotice_keeps m.tile (setNoise m.tile y s)
    obtain ⟨hignored, hdegraded, hmigrating⟩ := quietNotice_taken ht hquiet ho hv hfin.claims hfin.records
    exact ⟨hfin.grants.trans hgrants, hfin.attn.trans hattn, hfin.chan.trans hchan, hfin.loans.trans hloans, hignored,
      hdegraded, hmigrating⟩
  case noisy =>
    intro asks r z _ hx hnoisy ho hz c
    have hfin := finishSweep_finishes (notified_noisy (t := m.tile) (setNoise m.tile y s) hx hnoisy)
    exact ⟨noise_latched ho hfin, noise_tentative_primary ho hfin,
      fun p v => noise_tentative_successor ho hfin ht hnoisy hz, noise_held_data ho hfin hz,
      noise_held_migrates ho hfin, noise_ignored ho hfin⟩

end Sys2Proof.Machine

/-! Receptions (R49 to R51, R186; O18 to O20) and the layout of a frame (R44, R50; O60): what a receiver makes of the bytes it has
assembled. -/

namespace Sys2Proof.Machine

/-! ### The bytes of a frame -/

theorem byteOf_toNat {n : Nat} (h : n < 256) : (byteOf n).toNat = n := by
  rw [byteOf, BitVec.toNat_ofNat]; omega

theorem value16_bytes16 {n : Nat} (h : n < 65536) : value16 (byteOf (n / 256)) (byteOf (n % 256)) = n := by
  rw [value16, byteOf_toNat (by omega), byteOf_toNat (by omega)]; omega

theorem value16_lt (hi lo : Byte) : value16 hi lo < 65536 := by
  have := hi.isLt; have := lo.isLt; unfold value16; omega

theorem byteAt_append_left {l m : List Byte} {i : Nat} (h : i < l.length) : byteAt (l ++ m) i = byteAt l i := by
  simp [byteAt, List.getD, List.getElem?_append_left h]

theorem byteAt_append_right {l m : List Byte} (i : Nat) : byteAt (l ++ m) (l.length + i) = byteAt m i := by
  simp [byteAt, List.getD, List.getElem?_append_right]

theorem byteAt_drop (l : List Byte) (k i : Nat) : byteAt (l.drop k) i = byteAt l (k + i) := by
  simp [byteAt, List.getD]

theorem byteAt_take {l : List Byte} {n i : Nat} (h : i < n) : byteAt (l.take n) i = byteAt l i := by
  simp [byteAt, List.getD, h]

theorem entryBytes_length (h : HeardRun) : (entryBytes h).length = 2 := rfl

theorem flatMap_entryBytes_length (entries : List HeardRun) : (entries.flatMap entryBytes).length = 2 * entries.length := by
  induction entries with
  | nil => rfl
  | cons h hs ih => rw [List.flatMap_cons, List.length_append, ih, entryBytes_length, List.length_cons]; omega

/-- The five bytes of a frame before its entries (R44). -/
def frameHeader (station : Nat) (leaving : Bool) (count : Nat) : List Byte :=
  [announceType, byteOf (station / 256), byteOf (station % 256), if leaving then 1 else 0, byteOf count]

theorem frameBytes_eq (station : Nat) (leaving : Bool) (entries : List HeardRun) : frameBytes station leaving entries =
    frameHeader station leaving entries.length ++ entries.flatMap entryBytes := rfl

theorem frameBytes_length (station : Nat) (leaving : Bool) (entries : List HeardRun) :
    (frameBytes station leaving entries).length = 5 + 2 * entries.length := by
  rw [frameBytes_eq, List.length_append, flatMap_entryBytes_length]; rfl

theorem withCrc_length (bs : List Byte) : (withCrc bs).length = bs.length + 2 := by
  rw [withCrc, List.length_append]; rfl

/-- The five header bytes of a frame are read back where they were laid out. -/
theorem byteAt_withCrc_frameBytes (station : Nat) (leaving : Bool) (entries : List HeardRun) {i : Nat} (h : i < 5) :
    byteAt (withCrc (frameBytes station leaving entries)) i = byteAt (frameHeader station leaving entries.length) i := by
  rw [withCrc, frameBytes_eq, List.append_assoc, byteAt_append_left h]

/-! ### Entries -/

theorem parseEntry_eq_none {b0 b1 : Byte} (h : 119 < b0.toNat + b1.toNat % 8 ∨ b1.toNat / 8 % 4 = 0 ∨ 64 ≤ b1.toNat) :
    parseEntry b0 b1 = none := by
  unfold parseEntry
  rcases h with h | h | h
  · split
    · rw [if_neg (by omega)]
    · rfl
  · rw [h]; rfl
  · split
    · rw [if_neg (by omega)]
    · rfl

/-- The class of an entry is read back from its class bits. -/
theorem classOfBits_classBits (k : ServiceClass) : classOfBits (classBits k) = some k := by cases k <;> rfl

theorem phaseBit_held_iff (p : ClaimPhase) : (if phaseBit p = 1 then ClaimPhase.held else .tentative) = p := by
  cases p <;> rfl

/-- The two bytes of a run that the layout admits are read back as that run (R44, R50). -/
theorem parseEntry_entryBytes {h : HeardRun} (hw : 1 ≤ h.run.width) (hw8 : h.run.width ≤ 8)
    (hf : h.run.first + h.run.width ≤ 120) : parseEntry (byteOf h.run.first)
      (byteOf (h.run.width - 1 + 8 * classBits h.cls + 32 * phaseBit h.phase)) = some h := by
  have hk : classBits h.cls ≤ 3 := by cases h.cls <;> decide
  have hp : phaseBit h.phase ≤ 1 := by cases h.phase <;> decide
  have hclass : (h.run.width - 1 + 8 * classBits h.cls + 32 * phaseBit h.phase) / 8 % 4 = classBits h.cls := by omega
  have hphase : (h.run.width - 1 + 8 * classBits h.cls + 32 * phaseBit h.phase) / 32 % 2 = phaseBit h.phase := by omega
  have hwidth : (h.run.width - 1 + 8 * classBits h.cls + 32 * phaseBit h.phase) % 8 = h.run.width - 1 := by omega
  unfold parseEntry
  rw [byteOf_toNat (n := h.run.first) (by omega), byteOf_toNat (by omega), hclass, hphase, hwidth, classOfBits_classBits,
    phaseBit_held_iff]
  dsimp only
  rw [if_pos (by omega), Nat.sub_add_cancel hw]

/-- One entry that is not allowed makes all of them so (R50). -/
theorem parseEntries_eq_none {n k : Nat} {l : List Byte} (hk : k < n)
    (h : parseEntry (byteAt l (2 * k)) (byteAt l (2 * k + 1)) = none) : parseEntries n l = none := by
  induction n generalizing k l with
  | zero => omega
  | succ n ih =>
    match l with
    | [] => rfl
    | [_] => rfl
    | b0 :: b1 :: rest =>
      unfold parseEntries
      cases k with
      | zero => rw [show parseEntry b0 b1 = none from h]
      | succ k =>
        rw [ih (k := k) (l := rest) (by omega) h]
        cases parseEntry b0 b1 <;> rfl

theorem parseEntries_entryBytes {entries : List HeardRun}
    (h : ∀ e ∈ entries, 1 ≤ e.run.width ∧ e.run.width ≤ 8 ∧ e.run.first + e.run.width ≤ 120) :
    parseEntries entries.length (entries.flatMap entryBytes) = some entries := by
  induction entries with
  | nil => rfl
  | cons e es ih =>
    obtain ⟨hw, hw8, hf⟩ := h e (.head _)
    have hes := ih fun x hx => h x (.tail _ hx)
    rw [List.flatMap_cons, entryBytes, List.length_cons, List.cons_append, List.cons_append, List.nil_append, parseEntries,
      parseEntry_entryBytes hw hw8 hf, hes]

/-! ### Validation -/

/-- Settles O60: the length, the CRC and the header bytes pass the checks, and the entries are read back one by one. -/
theorem frameLayoutRoundTrip : Obligations.FrameLayoutRoundTrip := by
  intro station leaving entries h0 hlt hlen hruns
  have hheader : ∀ i < 5, byteAt (withCrc (frameBytes station leaving entries)) i =
      byteAt (frameHeader station leaving entries.length) i := fun i => byteAt_withCrc_frameBytes station leaving entries
  have hbytes := frameBytes_length station leaving entries
  have hn : (byteAt (withCrc (frameBytes station leaving entries)) 4).toNat = entries.length := by
    rw [hheader 4 (by decide)]; exact byteOf_toNat (by omega)
  have hbody : (withCrc (frameBytes station leaving entries)).take (5 + 2 * entries.length) =
      frameBytes station leaving entries := by rw [withCrc, ← hbytes, List.take_left]
  have hentries : (frameBytes station leaving entries).drop 5 = entries.flatMap entryBytes := rfl
  have hcrc : value16 (byteAt (withCrc (frameBytes station leaving entries)) (5 + 2 * entries.length))
      (byteAt (withCrc (frameBytes station leaving entries)) (6 + 2 * entries.length)) =
      (crc16 (frameBytes station leaving entries)).toNat := by
    rw [show 6 + 2 * entries.length = 5 + 2 * entries.length + 1 by omega, ← hbytes, withCrc]
    rw [byteAt_append_right 1, show ∀ l m : List Byte, byteAt (l ++ m) l.length = byteAt m 0 from
      fun l m => byteAt_append_right 0]
    exact value16_bytes16 (BitVec.isLt _)
  have hstation : value16 (byteAt (withCrc (frameBytes station leaving entries)) 1)
      (byteAt (withCrc (frameBytes station leaving entries)) 2) = station := by
    rw [hheader 1 (by decide), hheader 2 (by decide)]; exact value16_bytes16 (by omega)
  unfold parseFrame
  dsimp only
  rw [hn, hbody, hcrc, hstation, hheader 0 (by decide), hheader 3 (by decide), hentries, parseEntries_entryBytes hruns,
    if_neg (by rw [withCrc_length, hbytes]; simp only [Config.maxFrameEntries]; omega),
    if_neg (by simp), if_neg (by cases leaving <;> simp [frameHeader, byteAt, announceType] <;> omega)]
  cases leaving <;> rfl

/-- A received byte string with the entry count `n` fails a check of R50: its length or entry count, its CRC, its header bytes, or
an entry. -/
abbrev FailsCheck (fr : List Byte) (n : Nat) : Prop :=
  fr.length < 7 + 2 * n ∨ fr.length < 5 ∨ 20 < n ∨
    crc16 (fr.take (5 + 2 * n)) ≠ BitVec.ofNat 16 (value16 (byteAt fr (5 + 2 * n)) (byteAt fr (6 + 2 * n))) ∨
    byteAt fr 0 ≠ 0xA1 ∨ value16 (byteAt fr 1) (byteAt fr 2) = 0 ∨ value16 (byteAt fr 1) (byteAt fr 2) = 65535 ∨
    1 < (byteAt fr 3).toNat ∨
    ∃ k < n, 119 < (byteAt fr (5 + 2 * k)).toNat + (byteAt fr (6 + 2 * k)).toNat % 8 ∨
      (byteAt fr (6 + 2 * k)).toNat / 8 % 4 = 0 ∨ 64 ≤ (byteAt fr (6 + 2 * k)).toNat

theorem parseFrame_eq_none {fr : List Byte} {n : Nat} (hn : (byteAt fr 4).toNat = n) (h : FailsCheck fr n) :
    parseFrame fr = none := by
  unfold parseFrame
  dsimp only
  rw [hn]
  split
  · rfl
  split
  · rfl
  split
  · rfl
  rename_i hlength hcrc hheader
  simp only [Config.maxFrameEntries, announceType] at hlength hheader
  obtain ⟨k, hk, hentry⟩ : ∃ k < n, 119 < (byteAt fr (5 + 2 * k)).toNat + (byteAt fr (6 + 2 * k)).toNat % 8 ∨
      (byteAt fr (6 + 2 * k)).toNat / 8 % 4 = 0 ∨ 64 ≤ (byteAt fr (6 + 2 * k)).toNat := by
    rcases h with h | h | h | h | h | h | h | h | h
    · omega
    · omega
    · omega
    · exact absurd h hcrc
    · exact absurd (.inl h) hheader
    · exact absurd (.inr (.inl h)) hheader
    · exact absurd (.inr (.inr (.inl h))) hheader
    · exact absurd (.inr (.inr (.inr (by omega)))) hheader
    · exact h
  rw [parseEntries_eq_none hk, Option.map_none]
  rw [byteAt_drop, byteAt_drop, byteAt_take (by omega), byteAt_take (by omega),
    show 5 + (2 * k + 1) = 6 + 2 * k by omega]
  exact parseEntry_eq_none hentry

/-! ### The commands of the receiver -/

theorem syncDetected_begins {s : State} (hr : s.loader.inReset = false) (hp : s.loader.part ≠ .loading)
    (hs : s.chan.isSending = false) (hrec : s.chan.reception = none) : exec .syncDetected s =
      .next (setReception (some []) (sampleCarrier true s)) := by
  simp [exec, execSyncDetected, outOfReset_released hr, receiverOn, hp, hs, hrec]

theorem syncDetected_ignored {s : State} (hr : s.loader.inReset = false) (hs : s.chan.isSending = true) :
    exec .syncDetected s = .next s := by
  simp [exec, execSyncDetected, outOfReset_released hr, hs]

section
variable {s : State} {got : List Byte}

/-- An entry count above 20 drops the frame, and one of at most 20 lets the reception go on (R49). -/
theorem entryCountAssembled_eq (bs : List Byte) (hr : s.loader.inReset = false) (hrec : s.chan.reception = some got)
    (hlen : 5 ≤ (got ++ bs).length) : exec (.entryCountAssembled bs) s =
      .next (if 20 < (byteAt (got ++ bs) 4).toNat then dropFrame (setReception none s)
        else setReception (some (got ++ bs)) s) := by
  simp only [exec, execEntryCountAssembled, outOfReset_released hr, hrec, hlen, true_and]

/-- At the end of a reception a valid frame is handed on (R51). -/
theorem receptionEnd_valid {bs : List Byte} {f : ReceivedFrame} (hr : s.loader.inReset = false)
    (hrec : s.chan.reception = some got) (h : parseFrame (got ++ bs) = some f) : exec (.receptionEnd bs) s =
      .next (settle (handOn f (setReception none (sampleCarrier false s)))) := by
  simp only [exec, execReceptionEnd, outOfReset_released hr, hrec, h]

/-- At the end of a reception an invalid frame is dropped (R50). -/
theorem receptionEnd_invalid {bs : List Byte} (hr : s.loader.inReset = false) (hrec : s.chan.reception = some got)
    (h : parseFrame (got ++ bs) = none) : exec (.receptionEnd bs) s =
      .next (dropFrame (setReception none (sampleCarrier false s))) := by
  simp only [exec, execReceptionEnd, outOfReset_released hr, hrec, h]

theorem receptionOverrun_drops (hr : s.loader.inReset = false) (hrec : s.chan.reception = some got) :
    exec .receptionOverrun s = .next (dropFrame (setReception none (sampleCarrier true s))) := by
  simp only [exec, execReceptionOverrun, outOfReset_released hr, hrec]

end

/-- Settles O20: the sync word and the entry count, each by the receiver's equation. -/
theorem syncWordBeginsReception : Obligations.SyncWordBeginsReception := by
  refine fun s hr => ⟨fun hp hs hrec => ?_, syncDetected_ignored hr, fun bs got hrec hlen hcount => ?_⟩
  · rw [syncDetected_begins hr hp hs hrec]; rfl
  · rw [entryCountAssembled_eq bs hr hrec hlen, if_neg (by omega)]; rfl

/-- Settles O19: a failed check leaves no frame, and the three ways to drop one do no more than count it. -/
theorem invalidFrameIsDropped : Obligations.InvalidFrameIsDropped := by
  refine fun bs got s hr hrec => ⟨fun hbad => ?_, fun hlen hcount => ?_, ?_⟩
  · rw [receptionEnd_invalid hr hrec (parseFrame_eq_none rfl hbad)]; rfl
  · rw [entryCountAssembled_eq bs hr hrec hlen, if_pos hcount]; rfl
  · rw [receptionOverrun_drops hr hrec]; rfl

/-! ### A frame with the own id -/

/-- A record freed on entry to FAULT is ended (R75, R100). -/
theorem freedAll_eq_ended (c : ClaimRecord) : c.freedAll = c.ended := by
  unfold ClaimRecord.freedAll; split
  · rename_i h
    obtain ⟨x, hx⟩ := Option.isSome_iff_exists.mp h
    exact unrun_freed_eq_ended hx
  · rename_i h; exact freed_eq_ended (by simpa using h)

/-- Entry to FAULT leaves every block as the fault's frame says (R54, R100, R139, R175, R186). -/
theorem enterFault_entered (c : FaultCause) (s : State) : FaultEntered s (enterFault c s) := by
  have hclaims : (enterFault c s).claims = s.claims.map (·.ended) :=
    List.map_congr_left fun x _ => freedAll_eq_ended x
  have hlatched : (enterFault c s).attn.latched = s.attn.latched ||| 0x41 := BitVec.or_assoc _ _ _
  have hgrants : ∀ k, (enterFault c s).grants.of k = ⟨(s.grants.of k).generation + 1, List.replicate (slotCount k) none,
      some ⟨.left, s.clock.stamp, none⟩⟩ := fun k => by cases k <;> rfl
  exact ⟨rfl, hclaims, hgrants, rfl, rfl, rfl, rfl, hlatched, rfl, rfl, rfl, rfl, rfl, rfl, rfl, rfl, rfl, rfl, rfl, rfl, rfl,
    rfl, rfl, rfl, rfl⟩

/-- Entry to FAULT empties the engine, so that it has no work left in the step. -/
theorem settle_enterFault (c : FaultCause) (s : State) : settle (enterFault c s) = enterFault c s :=
  settle_idle (fun _ => rfl) nofun

/-- Settles O18: the frame is handed on to the own station, which enters FAULT, or in FAULT does nothing. -/
theorem duplicateIdEntersFault : Obligations.DuplicateIdEntersFault := by
  intro bs got f s hr hrec hparse hid
  have hown : ownId (setReception none (sampleCarrier false s)) = some f.station := hid
  refine ⟨fun hp => ?_, fun hp hlaw => ?_⟩
  · refine ⟨_, ?_, enterFault_entered .duplicateId (setReception none (sampleCarrier false s)), rfl, rfl, rfl, rfl⟩
    rw [receptionEnd_valid hr hrec hparse, handOn, if_pos hown, if_neg (by exact hp), settle_enterFault]
  · rw [receptionEnd_valid hr hrec hparse, handOn, if_pos hown, if_pos (by exact hp),
      settle_idle (s := setReception none (sampleCarrier false s)) hlaw.1 hlaw.2.1]; rfl

end Sys2Proof.Machine

/-! The transceiver (R37 to R46): the buffer that a built frame takes, the send attempt, and the bits of a transmission; with the frames
of LEAVING (O21) and the end of a deferral (O23). -/

namespace Sys2Proof.Machine

/-! ### The buffers -/

namespace Transceiver

variable {c : Transceiver} {f : Frame}

theorem isSending_bufA {g : Frame} {m : Nat} (h : c.bufA = .sending g m) : c.isSending = true := by
  simp [isSending, h]

theorem isSending_bufB {g : Frame} {m : Nat} (h : c.bufB = .sending g m) : c.isSending = true := by
  unfold isSending; split
  · rfl
  · rfl
  · rename_i hb; exact absurd h (hb g m)

theorem isSending_eq_false : c.isSending = false ↔
    (∀ g m, c.bufA ≠ .sending g m) ∧ ∀ g m, c.bufB ≠ .sending g m := by
  refine ⟨fun h => ⟨fun g m ha => ?_, fun g m hb => ?_⟩, fun ⟨ha, hb⟩ => ?_⟩
  · rw [isSending_bufA ha] at h; cases h
  · rw [isSending_bufB hb] at h; cases h
  · unfold isSending; split
    · exact absurd ‹_› (ha _ _)
    · exact absurd ‹_› (hb _ _)
    · rfl

/-- A buffer that empties where it is WAITING is never SENDING unless it was. -/
theorem unwaited_ne_sending {b : FrameBuffer} (h : ∀ g m, b ≠ .sending g m) (g : Frame) (m : Nat) : b.unwaited ≠ .sending g m := by
  cases b with
  | empty => nofun
  | waiting f => nofun
  | sending f n => exact absurd rfl (h f n)

/-- A built frame takes buffer A where that one is not SENDING (R42, log 13). -/
theorem write_bufA (f : Frame) (h : ∀ g m, c.bufA ≠ .sending g m) :
    c.discardWaiting.write f = { c with bufA := .waiting f, bufB := c.bufB.unwaited } := by
  unfold write; split
  · rename_i ha; exact absurd ha (unwaited_ne_sending h _ _)
  · rfl

/-- A built frame takes buffer B behind a transmission from buffer A (R42). -/
theorem write_bufB (f : Frame) {g : Frame} {m : Nat} (h : c.bufA = .sending g m) :
    c.discardWaiting.write f = { c with bufB := .waiting f } := by
  simp [write, discardWaiting, h, FrameBuffer.unwaited]

/-! ### The send attempt -/

theorem attempt_sending (busy : Bool) (h : c.isSending = true) : c.attempt busy = c := if_pos h

theorem attempt_bufA (busy : Bool) (ha : c.bufA = .waiting f) (hb : ∀ g m, c.bufB ≠ .sending g m) : c.attempt busy =
    { c with bufA := (attemptFrame busy f c.lfsr).1, lfsr := (attemptFrame busy f c.lfsr).2 } := by
  have hs : c.isSending = false := isSending_eq_false.mpr ⟨by simp [ha], hb⟩
  simp [attempt, hs, ha]

theorem attempt_bufB (busy : Bool) (ha : c.bufA = .empty) (hb : c.bufB = .waiting f) : c.attempt busy =
    { c with bufB := (attemptFrame busy f c.lfsr).1, lfsr := (attemptFrame busy f c.lfsr).2 } := by
  have hs : c.isSending = false := isSending_eq_false.mpr ⟨by simp [ha], by simp [hb]⟩
  simp [attempt, hs, ha, hb]

@[simp] theorem attempt_timer (busy : Bool) : (c.attempt busy).timer = c.timer := by
  unfold attempt; split
  · rfl
  · split <;> rfl

@[simp] theorem attempt_urgentBackoff (busy : Bool) : (c.attempt busy).urgentBackoff = c.urgentBackoff := by
  unfold attempt; split
  · rfl
  · split <;> rfl

@[simp] theorem attempt_allowance (busy : Bool) : (c.attempt busy).allowance = c.allowance := by
  unfold attempt; split
  · rfl
  · split <;> rfl

end Transceiver

theorem attemptFrame_idle (f : Frame) (x : Word16) :
    attemptFrame false f x = (.sending { f with backoff := none } (airTime f.bytes), x) := rfl

theorem attemptFrame_defers {f : Frame} (h : f.deferrals < 6) (x : Word16) : attemptFrame true f x =
    (.waiting { f with deferrals := f.deferrals + 1, backoff := some (backoffOf (lfsrNext x)) }, lfsrNext x) := by
  simp only [attemptFrame, Bool.not_true, Bool.false_eq_true, if_false, if_pos h]

theorem attemptFrame_skips {f : Frame} (h : 6 ≤ f.deferrals) (x : Word16) : attemptFrame true f x = (.empty, x) := by
  simp only [attemptFrame, Bool.not_true, Bool.false_eq_true, if_false, if_neg (Nat.not_lt.mpr h)]

/-! ### A frame that has just been built -/

namespace Transceiver

/-- A built frame is written, and makes its first send attempt (R42, R45). -/
def sendBuilt (c : Transceiver) (f : Frame) (busy : Bool) : Transceiver := (c.discardWaiting.write f).attempt busy

variable {c : Transceiver} {f : Frame}

theorem sendBuilt_idle (hs : c.isSending = false) (hf : f.backoff = none) : c.sendBuilt f false =
    { c with bufA := .sending f (airTime f.bytes), bufB := c.bufB.unwaited } := by
  obtain ⟨ha, hb⟩ := isSending_eq_false.mp hs
  rw [sendBuilt, write_bufA f ha, attempt_bufA false rfl (unwaited_ne_sending hb), attemptFrame_idle]
  cases f; cases hf; rfl

theorem sendBuilt_busy (hs : c.isSending = false) (hf : f.deferrals = 0) : c.sendBuilt f true =
    { c with
      lfsr := lfsrNext c.lfsr
      bufA := .waiting { f with deferrals := 1, backoff := some (backoffOf (lfsrNext c.lfsr)) }
      bufB := c.bufB.unwaited } := by
  obtain ⟨ha, hb⟩ := isSending_eq_false.mp hs
  rw [sendBuilt, write_bufA f ha, attempt_bufA true rfl (unwaited_ne_sending hb), attemptFrame_defers (by omega), hf]

theorem sendBuilt_behind_bufA {g : Frame} {m : Nat} (busy : Bool) (h : c.bufA = .sending g m) : c.sendBuilt f busy =
    { c with bufB := .waiting f } := by
  rw [sendBuilt, write_bufB f h, attempt_sending busy (isSending_bufA (c := { c with bufB := .waiting f }) h)]

theorem sendBuilt_behind_bufB {g : Frame} {m : Nat} (busy : Bool) (ha : ∀ g m, c.bufA ≠ .sending g m)
    (hb : c.bufB = .sending g m) : c.sendBuilt f busy = { c with bufA := .waiting f } := by
  have hu : c.bufB.unwaited = c.bufB := by rw [hb]; rfl
  rw [sendBuilt, write_bufA f ha, hu,
    attempt_sending busy (isSending_bufB (c := { c with bufA := .waiting f }) hb)]

/-- The timer's build ends any urgent backoff and restores the allowance (R42). -/
def restored (c : Transceiver) : Transceiver := { c with urgentBackoff := none, allowance := .available }

/-- The restored allowance does not bear on where a frame is written. -/
theorem restored_write (c : Transceiver) (f : Frame) :
    (c.discardWaiting.write f).restored = c.restored.discardWaiting.write f := by
  unfold write
  cases h : c.bufA <;> simp [discardWaiting, restored, FrameBuffer.unwaited, h]

end Transceiver
/-! ### Builds -/

/-- Over a state that differs from `s` in its transceiver alone, the engine's work leaves what it leaves over `s`. -/
theorem OnlyPlacement.ofChan {s u t : State} (h : OnlyPlacement u t) (hu : u = { s with chan := u.chan }) :
    OnlyPlacement { s with chan := t.chan } t := by
  rw [h.chan, ← hu]; exact h

/-- The state in which a running announcement timer has expired, its next period drawn (R41). -/
def timerExpired (b : Bool) (s : State) : State := sampleCarrier b { s with chan := s.chan.drawPeriod }

theorem announcementTimerExpiry_eq {s : State} (b : Bool) (hr : s.loader.inReset = false) (ht : s.chan.timer.isSome = true) :
    exec (.announcementTimerExpiry b) s = .next (settle (attemptSend (restoreAllowance (buildFrame (timerExpired b s))))) := by
  simp only [exec, execAnnouncementTimerExpiry, outOfReset_released hr, if_pos ht, timerExpired]

/-- A build outside ACTIVE gives no build notice (R43). -/
theorem buildFrame_inactive {s : State} (h : isActive s = false) : buildFrame s =
    { s with chan := s.chan.discardWaiting.write (composeFrame s) } := by
  simp [buildFrame, h]

theorem buildFrame_active {s : State} (h : isActive s = true) : buildFrame s =
    { buildNotice s with chan := (buildNotice s).chan.discardWaiting.write (composeFrame (buildNotice s)) } := by
  simp [buildFrame, h]

theorem carrierBusy_eq (s : State) : carrierBusy s = (s.pins.ccCs || s.chan.reception.isSome) := rfl

theorem write_reception_isSome (c : Transceiver) (f : Frame) :
    (c.discardWaiting.write f).reception.isSome = c.reception.isSome := by
  rw [(write_reception _ f).1]; rfl

/-- The transceiver after a timer build of `f` over the state `u` (R42). -/
theorem timerBuild_chan (u : State) (f : Frame) :
    (attemptSend (restoreAllowance { u with chan := u.chan.discardWaiting.write f })).chan =
      u.chan.restored.sendBuilt f (u.pins.ccCs || u.chan.reception.isSome) := by
  rw [attemptSend_chan, carrierBusy_eq, restoreAllowance_chan, restoreAllowance_pins]
  dsimp only
  rw [write_reception_isSome, Transceiver.sendBuilt, ← Transceiver.restored_write]; rfl

theorem urgentBuild_chan (u : State) (f : Frame) :
    (attemptSend { u with chan := u.chan.discardWaiting.write f }).chan =
      u.chan.sendBuilt f (u.pins.ccCs || u.chan.reception.isSome) := by
  rw [attemptSend_chan, carrierBusy_eq]
  dsimp only
  rw [write_reception_isSome, Transceiver.sendBuilt]

/-- The busy carrier of a send attempt: CC_CS shows energy, or a reception is on (R38). -/
theorem busy_of_or {b : Bool} {o : Option (List Byte)} (h : b = true ∨ o.isSome = true) : (b || o.isSome) = true := by
  simpa using h

theorem idle_of_and {b : Bool} {o : Option (List Byte)} (hb : b = false) (ho : o = none) : (b || o.isSome) = false := by
  rw [hb, ho]; rfl

/-- Settles O21: outside ACTIVE the frame is the LEAVING frame, and it is sent as every built frame is. -/
theorem leavingFrameIsBuilt : Obligations.LeavingFrameIsBuilt := by
  intro b own s hr hp ht hid x f c
  have hactive : isActive (timerExpired b s) = false := by simp [isActive, timerExpired, hp]
  have hframe : composeFrame (timerExpired b s) = f := by
    have hown : ownId (timerExpired b s) = some own := hid
    simp only [composeFrame, hactive, Bool.false_eq_true, if_false, hown]; rfl
  have hchan : (settle (attemptSend (restoreAllowance (buildFrame (timerExpired b s))))).chan =
      c.sendBuilt f (b || s.chan.reception.isSome) := by
    rw [(settle_frame _).chan, buildFrame_inactive hactive, timerBuild_chan, hframe]; rfl
  refine ⟨_, announcementTimerExpiry_eq b hr ht, ?_, fun hs hb hrec => ?_, fun hs hbusy => ?_, fun g m ha => ?_,
    fun g m hb ha => ?_⟩
  · refine (settle_frame _).ofChan (s := { s with pins := { s.pins with ccCs := b } }) ?_
    rw [buildFrame_inactive hactive]; rfl
  · rw [hchan, idle_of_and hb hrec]; exact Transceiver.sendBuilt_idle (c := c) hs rfl
  · rw [hchan, busy_of_or hbusy]; exact Transceiver.sendBuilt_busy (c := c) hs rfl
  · rw [hchan]; exact Transceiver.sendBuilt_behind_bufA (c := c) _ ha
  · rw [hchan]; exact Transceiver.sendBuilt_behind_bufB (c := c) _ ha hb

/-! ### The end of a deferral -/

/-- A deferral backoff that ends makes the next send attempt of its frame (R45). -/
theorem deferralBackoffEnd_eq {s : State} (b : Bool) (hr : s.loader.inReset = false)
    (h : s.chan.bufA.deferring = true ∨ s.chan.bufB.deferring = true) : exec (.deferralBackoffEnd b) s =
      .next (attemptSend (sampleCarrier b
        { s with chan := { s.chan with bufA := s.chan.bufA.endBackoff, bufB := s.chan.bufB.endBackoff } })) := by
  have hd : (s.chan.bufA.deferring || s.chan.bufB.deferring) = true := by simpa using h
  simp only [exec, execDeferralBackoffEnd, outOfReset_released hr, if_pos hd]

/-- A buffer that defers alone sends its frame, defers it again, or skips it (R45). -/
theorem deferralBackoffEnd_bufA {s : State} {f : Frame} {n : Nat} (b : Bool) (hr : s.loader.inReset = false)
    (hf : f.backoff = some n) (ha : s.chan.bufA = .waiting f) (hb : s.chan.bufB = .empty) :
    exec (.deferralBackoffEnd b) s = .next { s with
      chan := { s.chan with
        bufA := (attemptFrame (b || s.chan.reception.isSome) { f with backoff := none } s.chan.lfsr).1
        lfsr := (attemptFrame (b || s.chan.reception.isSome) { f with backoff := none } s.chan.lfsr).2 }
      pins := { s.pins with ccCs := b } } := by
  rw [deferralBackoffEnd_eq b hr (.inl (by simp [ha, FrameBuffer.deferring, hf])), attemptSend, ha, hb,
    Transceiver.attempt_bufA (f := { f with backoff := none }) _ rfl (by simp [FrameBuffer.endBackoff])]
  simp only [sampleCarrier, carrierBusy_eq, FrameBuffer.endBackoff, hb]

theorem deferralBackoffEnd_bufB {s : State} {f : Frame} {n : Nat} (b : Bool) (hr : s.loader.inReset = false)
    (hf : f.backoff = some n) (ha : s.chan.bufA = .empty) (hb : s.chan.bufB = .waiting f) :
    exec (.deferralBackoffEnd b) s = .next { s with
      chan := { s.chan with
        bufB := (attemptFrame (b || s.chan.reception.isSome) { f with backoff := none } s.chan.lfsr).1
        lfsr := (attemptFrame (b || s.chan.reception.isSome) { f with backoff := none } s.chan.lfsr).2 }
      pins := { s.pins with ccCs := b } } := by
  rw [deferralBackoffEnd_eq b hr (.inr (by simp [hb, FrameBuffer.deferring, hf])), attemptSend, ha, hb,
    Transceiver.attempt_bufB (f := { f with backoff := none }) _ rfl rfl]
  simp only [sampleCarrier, carrierBusy_eq, FrameBuffer.endBackoff, ha]

/-! ### The bits of a transmission -/

theorem byteBits_getElem? (x : Byte) {k : Nat} (h : k < 8) : (byteBits x)[k]? = some (x.getLsbD (7 - k)) := by
  simp [byteBits, h]

/-- Bit `k` of bytes sent most significant bit first is in byte `k / 8`. -/
theorem flatMap_byteBits_getElem? {bs : List Byte} {k : Nat} (h : k < 8 * bs.length) :
    (bs.flatMap byteBits)[k]? = some ((bs.getD (k / 8) 0).getLsbD (7 - k % 8)) := by
  induction bs generalizing k with
  | nil => simp at h
  | cons x bs ih =>
    rw [List.length_cons] at h
    rw [List.flatMap_cons]
    by_cases hk : k < 8
    · rw [List.getElem?_append_left (by simpa using hk), byteBits_getElem? x hk, Nat.div_eq_of_lt hk, Nat.mod_eq_of_lt hk]
      rfl
    · rw [List.getElem?_append_right (by simpa using hk), byteBits_length, ih (by omega),
        show k / 8 = (k - 8) / 8 + 1 by omega, show (k - 8) % 8 = k % 8 by omega]
      rfl

/-- The 16 bits of preamble and the 16 of the sync word (R37). -/
theorem preamble_syncWord_bits : ∀ k < 32, ((preamble ++ syncWord).getD (k / 8) 0).getLsbD (7 - k % 8) =
    if k < 16 then decide (k % 2 = 0) else (0xB38E : Word16).getLsbD (31 - k) := by decide

/-- Bit `k` of a transmission: the preamble, the sync word, and then the frame's bytes (R37). -/
theorem airBits_getElem? {bs : List Byte} {k : Nat} (h : k < 32 + 8 * bs.length) : (airBits bs)[k]? =
    some (if k < 16 then decide (k % 2 = 0)
      else if k < 32 then (0xB38E : Word16).getLsbD (31 - k)
      else (bs.getD ((k - 32) / 8) 0).getLsbD (7 - k % 8)) := by
  have hlen : (preamble ++ syncWord).length = 4 := rfl
  rw [airBits, flatMap_byteBits_getElem? (by rw [List.length_append, hlen]; omega)]
  by_cases hk : k < 32
  · rw [List.getD_append _ _ _ _ (by rw [hlen]; omega), preamble_syncWord_bits k hk]
    simp only [hk, if_true]
  · rw [List.getD_append_right _ _ _ _ (by rw [hlen]; omega), hlen, if_neg (by omega), if_neg hk,
      show k / 8 - 4 = (k - 32) / 8 by omega]

theorem onAir_sending {c : Transceiver} {f : Frame} {m : Nat}
    (h : c.bufA = .sending f m ∨ c.bufA = .empty ∧ c.bufB = .sending f m) : c.onAir = some (f, m) := by
  rcases h with ha | ⟨ha, hb⟩
  · simp [Transceiver.onAir, ha, FrameBuffer.onAir]
  · simp [Transceiver.onAir, ha, hb, FrameBuffer.onAir]

theorem FrameBuffer.onAir_eq_none {b : FrameBuffer} (h : ∀ g m, b ≠ .sending g m) : b.onAir = none := by
  cases b with
  | empty => rfl
  | waiting f => rfl
  | sending f n => exact absurd rfl (h f n)

theorem onAir_silent {c : Transceiver} (h : c.isSending = false) : c.onAir = none := by
  obtain ⟨ha, hb⟩ := Transceiver.isSending_eq_false.mp h
  simp [Transceiver.onAir, FrameBuffer.onAir_eq_none ha, FrameBuffer.onAir_eq_none hb]

/-- Settles O23: the attempt of the deferring frame on its buffer, and the bit of each microsecond. -/
theorem deferralEndMakesAnAttempt : Obligations.DeferralEndMakesAnAttempt := by
  refine fun s hr => ⟨?_, fun f k m hs hk hm => ?_, fun hs => ?_⟩
  · intro b f n hf x g busy
    have hidle : ¬busy → (b || s.chan.reception.isSome) = false := fun h => by simpa [busy, not_or] using h
    have hbusy : busy → (b || s.chan.reception.isSome) = true := busy_of_or
    obtain ⟨t, ht⟩ : ∃ t, exec (.deferralBackoffEnd b) s = .next t := ⟨_, outOfReset_released hr _⟩
    refine ⟨t, ht, fun ha hb => ?_, fun ha hb => ?_⟩
    · cases ht.symm.trans (deferralBackoffEnd_bufA b hr hf ha hb)
      refine ⟨rfl, fun h => ?_, fun h hd => ?_, fun h hd => ?_⟩ <;> dsimp only
      · rw [hidle h]; rfl
      · rw [hbusy h, attemptFrame_defers (f := { f with backoff := none }) hd]; rfl
      · rw [hbusy h, attemptFrame_skips (f := { f with backoff := none }) hd]
    · cases ht.symm.trans (deferralBackoffEnd_bufB b hr hf ha hb)
      refine ⟨rfl, fun h => ?_, fun h hd => ?_, fun h hd => ?_⟩ <;> dsimp only
      · rw [hidle h]; rfl
      · rw [hbusy h, attemptFrame_defers (f := { f with backoff := none }) hd]; rfl
      · rw [hbusy h, attemptFrame_skips (f := { f with backoff := none }) hd]
  · rw [ccTx, onAir_sending hs]
    dsimp only
    rw [if_pos hm, show airTime f.bytes - m = k by rw [airTime]; omega]
    exact airBits_getElem? (by omega)
  · rw [ccTx, onAir_silent hs]

end Sys2Proof.Machine

/-! The sent notice (R46, R83, R86, R184; O24): what the items of a frame's carried list make of the claim records. -/

namespace Sys2Proof.Machine

/-! ### Reads of the claim records -/

theorem setClaim_self (r : Nat) (s : State) : setClaim r (s.claim r) s = s := by
  have h : s.claims.set r (s.claim r) = s.claims := by
    apply List.ext_getElem?
    intro n
    rw [List.getElem?_set]
    split
    · rename_i hn; subst hn
      split
      · rename_i hr; rw [State.claim, List.getD_eq_getElem _ _ hr, List.getElem?_eq_getElem hr]
      · rename_i hr; exact (List.getElem?_eq_none (Nat.not_lt.mp hr)).symm
    · rfl
  unfold setClaim; rw [h]

/-- A record outside the table is FREE. -/
theorem lt_length_of_not_free {s : State} {r : Nat} (h : (s.claim r).phase ≠ .free) : r < s.claims.length := by
  by_contra hn
  rw [State.claim, List.getD_eq_default _ _ (by omega)] at h
  exact h rfl

/-! ### Urgent builds -/

/-- An urgent build uses the allowance, so that a second request in a step does nothing (R47, R48). -/
theorem takeUrgent_takeUrgent (c : Transceiver) : c.takeUrgent.takeUrgent = c.takeUrgent := by
  have h : c.takeUrgent.allowance = .used := by
    unfold Transceiver.takeUrgent; split
    · rfl
    · assumption
  generalize c.takeUrgent = d at h
  simp [Transceiver.takeUrgent, h]

theorem takeUrgent_reception (c : Transceiver) : c.takeUrgent.reception = c.reception := by
  unfold Transceiver.takeUrgent; split <;> rfl

/-! ### One item -/

/-- Whether an item names a DRAINING record with its generation, as HELD (R83). -/
abbrev Drains (c : ClaimRecord) (i : CarriedItem) : Prop := c.phase = .draining ∧ i = ⟨i.record, c.generation, .held⟩

/-- A DRAINING record with one more sent frame counted (R83, R86). -/
def ClaimRecord.drainedOnce (c : ClaimRecord) : ClaimRecord := { c with drainCount := min 2 (c.drainCount + 1) }

/-- What an item of the sent notice makes of its record (R83, R86). -/
def ClaimRecord.sent (c : ClaimRecord) (i : CarriedItem) : ClaimRecord :=
  if c.phase = .tentative ∧ i = ⟨i.record, c.generation, .tentative⟩ then { c with listenCount := min 3 (c.listenCount + 1) }
  else if Drains c i then (if 2 ≤ c.drainedOnce.drainCount then c.drainedOnce.ended else c.drainedOnce)
  else c

/-- Whether an item of the sent notice frees its record (R86). -/
def ClaimRecord.freedBy (c : ClaimRecord) (i : CarriedItem) : Bool := decide (Drains c i) && decide (1 ≤ c.drainCount)

/-- An urgent build is requested where `due`, in ACTIVE (R47). -/
def urgentIf (due : Bool) (s : State) : State :=
  { s with chan := if due = true ∧ s.loader.part = .active then s.chan.takeUrgent else s.chan }

theorem urgentIf_false (s : State) : urgentIf false s = s := by simp [urgentIf]

theorem urgentRequest_eq (s : State) : urgentRequest s = urgentIf true s := by
  simp [urgentRequest, urgentIf, isActive]

theorem urgentIf_urgentIf (a b : Bool) (s : State) : urgentIf b (urgentIf a s) = urgentIf (a || b) s := by
  cases a <;> cases b <;> simp [urgentIf]
  split <;> simp_all [takeUrgent_takeUrgent]

/-- A record without a loan is released and freed under a new generation, with an urgent build (R86). -/
theorem releaseAndFree_unlent {r : Nat} {s : State} (hl : (s.claim r).onLoan = none) (hrun : (s.claim r).run.isSome = true) :
    releaseAndFree r s = urgentIf true (setClaim r (s.claim r).ended s) := by
  obtain ⟨x, hx⟩ := Option.isSome_iff_exists.mp hrun
  simp only [releaseAndFree, voidLoanOf, hl, releaseRun, urgentRequest_eq, unrun_freed_eq_ended hx]
  simp [urgentIf, setClaim]

/-- The hypothesis of the statement on one record: a DRAINING one is without a loan and holds its run. -/
abbrev DrainsUnlent (c : ClaimRecord) : Prop := c.phase = .draining → c.onLoan = none ∧ c.run.isSome = true

/-- A drain is counted, and at 2 it ends the record (R86). -/
theorem endDrain_drainedOnce {r : Nat} {s : State} (hp : (s.claim r).phase = .draining) (hd : DrainsUnlent (s.claim r)) :
    endDrain r (setClaim r (s.claim r).drainedOnce s) = urgentIf (decide (1 ≤ (s.claim r).drainCount))
      (setClaim r (if 2 ≤ (s.claim r).drainedOnce.drainCount then (s.claim r).drainedOnce.ended
        else (s.claim r).drainedOnce) s) := by
  obtain ⟨hl, hrun⟩ := hd hp
  have hr : r < s.claims.length := lt_length_of_not_free (by rw [hp]; nofun)
  have hclaim : (setClaim r (s.claim r).drainedOnce s).claim r = (s.claim r).drainedOnce := claim_setClaim_same _ hr
  have hcount : 2 ≤ (s.claim r).drainedOnce.drainCount ↔ 1 ≤ (s.claim r).drainCount := by
    simp only [ClaimRecord.drainedOnce]; omega
  have hset : ∀ c : ClaimRecord, setClaim r c (setClaim r (s.claim r).drainedOnce s) = setClaim r c s := fun c => by
    simp [setClaim]
  unfold endDrain
  rw [hclaim]
  by_cases h : 1 ≤ (s.claim r).drainCount
  · rw [if_pos ⟨hp, hcount.mpr h⟩, if_pos (hcount.mpr h), decide_eq_true h, releaseAndFree_unlent (by rw [hclaim]; exact hl)
      (by rw [hclaim]; exact hrun), hclaim, hset]
  · rw [if_neg fun k => h (hcount.mp k.2), if_neg fun k => h (hcount.mp k), decide_eq_false h, urgentIf_false]

/-- One item of the sent notice is a sent listen, a sent drain, or nothing to its record (R83). -/
theorem sentItem_cases (s : State) (i : CarriedItem) : sentItem s i =
    if (s.claim i.record).phase = .tentative ∧ i = ⟨i.record, (s.claim i.record).generation, .tentative⟩ then
      setClaim i.record { s.claim i.record with listenCount := min 3 ((s.claim i.record).listenCount + 1) } s
    else if Drains (s.claim i.record) i then endDrain i.record (setClaim i.record (s.claim i.record).drainedOnce s)
    else s := by
  obtain ⟨r, g, p⟩ := i
  unfold sentItem
  by_cases hg : g = (s.claim r).generation
  · subst hg
    simp only [ne_eq, not_true_eq_false, if_false, Drains, CarriedItem.mk.injEq, true_and]; rfl
  · simp [Drains, hg, Ne.symm hg]

theorem sentItem_eq {s : State} {i : CarriedItem} (hd : DrainsUnlent (s.claim i.record)) : sentItem s i =
    urgentIf ((s.claim i.record).freedBy i) (setClaim i.record ((s.claim i.record).sent i) s) := by
  rw [sentItem_cases, ClaimRecord.sent, ClaimRecord.freedBy]
  by_cases ht : (s.claim i.record).phase = .tentative ∧ i = ⟨i.record, (s.claim i.record).generation, .tentative⟩
  · have hn : ¬Drains (s.claim i.record) i := fun h => nomatch ht.1.symm.trans h.1
    rw [if_pos ht, if_pos ht, decide_eq_false hn, Bool.false_and, urgentIf_false]
  · rw [if_neg ht, if_neg ht]
    by_cases h : Drains (s.claim i.record) i
    · rw [if_pos h, if_pos h, decide_eq_true h, Bool.true_and, endDrain_drainedOnce h.1 hd]
    · rw [if_neg h, if_neg h, decide_eq_false h, Bool.false_and, urgentIf_false, setClaim_self]

/-! ### The whole notice -/

theorem claim_urgentIf (b : Bool) (s : State) (r : Nat) : (urgentIf b s).claim r = s.claim r := rfl

/-- An item whose record is outside the table changes nothing. -/
theorem claim_sentItem_same {s : State} {i : CarriedItem} (hd : DrainsUnlent (s.claim i.record)) :
    (sentItem s i).claim i.record = (s.claim i.record).sent i := by
  rw [sentItem_eq hd, claim_urgentIf]
  by_cases hr : i.record < s.claims.length
  · exact claim_setClaim_same _ hr
  · have hreset : ∀ u : State, u.claims.length = s.claims.length → u.claim i.record = ClaimRecord.reset := fun u hu => by
      rw [State.claim, List.getD_eq_default _ _ (by omega)]
    rw [hreset s rfl, hreset _ (by simp)]; rfl

theorem claim_sentItem_other {s : State} {i : CarriedItem} (hd : DrainsUnlent (s.claim i.record)) {r : Nat}
    (hr : r ≠ i.record) : (sentItem s i).claim r = s.claim r := by
  rw [sentItem_eq hd, claim_urgentIf, claim_setClaim_other _ hr]

/-- What an item does outside the claim records is its urgent build. -/
theorem sentItem_urgent {s : State} {i : CarriedItem} (hd : DrainsUnlent (s.claim i.record)) (b : Bool)
    (l : List ClaimRecord) : { urgentIf b (sentItem s i) with claims := l } =
      { urgentIf ((s.claim i.record).freedBy i || b) s with claims := l } := by
  rw [sentItem_eq hd, urgentIf_urgentIf]; rfl

/-- The sent notice of items that name distinct records changes each record by its item, and no other (R83). -/
theorem sentNotice_spec {items : List CarriedItem} {s : State} (hnodup : (items.map (·.record)).Nodup)
    (hd : ∀ i ∈ items, DrainsUnlent (s.claim i.record)) :
    sentNotice items s = { urgentIf (items.any fun i => (s.claim i.record).freedBy i) s with
      claims := (sentNotice items s).claims } ∧
    (∀ i ∈ items, (sentNotice items s).claim i.record = (s.claim i.record).sent i) ∧
    ∀ r, r ∉ items.map (·.record) → (sentNotice items s).claim r = s.claim r := by
  induction items generalizing s with
  | nil => exact ⟨by rw [List.any_nil, urgentIf_false]; rfl, nofun, fun _ _ => rfl⟩
  | cons i items ih =>
    rw [List.map_cons, List.nodup_cons] at hnodup
    have hi := hd i (.head _)
    have hkept : ∀ j ∈ items, (sentItem s i).claim j.record = s.claim j.record := fun j hj =>
      claim_sentItem_other hi fun h => hnodup.1 (h ▸ List.mem_map_of_mem hj)
    obtain ⟨hstate, hitems, hrest⟩ := ih (s := sentItem s i) hnodup.2 fun j hj => by
      rw [hkept j hj]; exact hd j (.tail _ hj)
    have hany : (items.any fun j => ((sentItem s i).claim j.record).freedBy j) =
        items.any fun j => (s.claim j.record).freedBy j := by
      rw [Bool.eq_iff_iff, List.any_eq_true, List.any_eq_true]
      exact exists_congr fun j => and_congr_right fun hj => by rw [hkept j hj]
    refine ⟨?_, fun j hj => ?_, fun r hr => ?_⟩
    · rw [hany] at hstate
      exact hstate.trans (sentItem_urgent hi _ _)
    · rcases List.mem_cons.mp hj with rfl | hj
      · exact (hrest _ hnodup.1).trans (claim_sentItem_same hi)
      · exact (hitems j hj).trans (congrArg (·.sent j) (hkept j hj))
    · rw [List.map_cons, List.mem_cons, not_or] at hr
      exact (hrest r hr.2).trans (claim_sentItem_other hi hr.1)

/-- In a carried list that names distinct records, an item is the one of its record. -/
theorem mem_items_iff {items : List CarriedItem} (hnodup : (items.map (·.record)).Nodup) {i : CarriedItem}
    (hi : i ∈ items) (g : BitVec 4) (p : ClaimPhase) : ⟨i.record, g, p⟩ ∈ items ↔ i = ⟨i.record, g, p⟩ :=
  ⟨fun h => List.inj_on_of_nodup_map hnodup hi h rfl, fun h => h ▸ hi⟩

/-! ### The end of a transmission -/

theorem settleFrom_unchanged {e : Engine} {s : State} (h : s.engine = e) : settleFrom e s = s := if_pos h

/-- The state whose buffer has just emptied, with the level of CC_CS that the next attempt reads. -/
def sentState (b : Bool) (c : Transceiver) (s : State) : State := sampleCarrier b { s with chan := c }

/-- The end of a transmission empties its buffer, gives the sent notice and makes a waiting frame's attempt (R46). -/
theorem transmissionEnd_eq {s : State} {f : Frame} {c : Transceiver} (b : Bool) (hr : s.loader.inReset = false)
    (h : s.chan.endSending = some (f, c)) : exec (.transmissionEnd b) s = .next (settleFrom s.engine
      (attemptSend (giveSentNotice f (sentState b c s)))) := by
  simp only [exec, execTransmissionEnd, outOfReset_released hr, h, sentState]

/-- The count of LEAVING frames becomes `n` (R184). -/
def setLeavingCount (n : Nat) (s : State) : State := { s with loader := { s.loader with leavingCount := n } }

theorem completeLeaving_below {s : State} (h : s.loader.leavingCount < 3) : completeLeaving s = s :=
  if_neg fun k => absurd k.2 (Nat.not_le.mpr h)

theorem completeLeaving_third {s : State} (hp : s.loader.part = .leaving) (h : s.loader.leavingCount = 3) :
    completeLeaving s = enterQuiet s := if_pos ⟨hp, h.ge⟩

/-- A sent notice counts a LEAVING frame in LEAVING (R184). -/
theorem giveSentNotice_leaving {f : Frame} {s : State} (hf : f.isLeaving = true) (hp : s.loader.part = .leaving)
    (h : s.loader.leavingCount < 3) :
    giveSentNotice f s = completeLeaving (setLeavingCount (s.loader.leavingCount + 1) s) := by
  have hmin : min 3 (s.loader.leavingCount + 1) = s.loader.leavingCount + 1 := by omega
  rw [giveSentNotice, if_pos hf, if_pos hp, setLeavingCount, Config.leavingFrames, hmin]

theorem giveSentNotice_active {f : Frame} (s : State) (hf : f.isLeaving = false) :
    giveSentNotice f s = sentNotice f.carried s := by
  simp [giveSentNotice, hf]

/-- The end of a transmission built in ACTIVE counts the items of its frame, and asks for an urgent build where one frees a record
(R46, R83, R86). -/
theorem transmissionEnd_active {s : State} {f : Frame} {c : Transceiver} (b : Bool) (hr : s.loader.inReset = false)
    (hend : s.chan.endSending = some (f, c)) (hf : f.isLeaving = false) (hnodup : (f.carried.map (·.record)).Nodup)
    (hd : ∀ i ∈ f.carried, DrainsUnlent (s.claim i.record)) : ∃ t, exec (.transmissionEnd b) s = .next t ∧
      t = { s with
        claims := t.claims
        chan := (if (f.carried.any fun i => (s.claim i.record).freedBy i) = true ∧ s.loader.part = .active then c.takeUrgent
          else c).attempt (b || s.chan.reception.isSome)
        pins := { s.pins with ccCs := b } } ∧
      (∀ i ∈ f.carried, t.claim i.record = (s.claim i.record).sent i) ∧
      ∀ r, r ∉ f.carried.map (·.record) → t.claim r = s.claim r := by
  obtain ⟨hstate, hitems, hrest⟩ := sentNotice_spec (s := sentState b c s) hnodup hd
  have hrec : (if (f.carried.any fun i => (s.claim i.record).freedBy i) = true ∧ s.loader.part = .active then c.takeUrgent
      else c).reception = s.chan.reception := by
    rw [← endSending_reception hend]; split
    · exact takeUrgent_reception c
    · rfl
  have hsent : attemptSend (sentNotice f.carried (sentState b c s)) = { s with
      claims := (sentNotice f.carried (sentState b c s)).claims
      chan := (if (f.carried.any fun i => (s.claim i.record).freedBy i) = true ∧ s.loader.part = .active then c.takeUrgent
        else c).attempt (b || s.chan.reception.isSome)
      pins := { s.pins with ccCs := b } } := by
    rw [← hrec]
    exact congrArg attemptSend hstate
  refine ⟨_, ?_, hsent, hitems, hrest⟩
  rw [transmissionEnd_eq b hr hend, giveSentNotice_active _ hf, settleFrom_unchanged]
  rw [hsent]

theorem freedBy_eq (c : ClaimRecord) (i : CarriedItem) : c.freedBy i =
    (c.phase == .draining && i == ⟨i.record, c.generation, .held⟩ && decide (1 ≤ c.drainCount)) := by
  rw [Bool.eq_iff_iff]; simp [ClaimRecord.freedBy, Drains]

/-- Settles O24: the sent notice item by item, and the count of LEAVING frames below its threshold and at it. -/
theorem sentFrameIsCounted : Obligations.SentFrameIsCounted := by
  intro b f c s hr hend
  have hrec : c.reception = s.chan.reception := endSending_reception hend
  refine ⟨?_, fun hf hp => ⟨fun hcount => ?_, fun hcount => ?_⟩⟩
  · intro hf hnodup hd drains drained frees
    obtain ⟨t, hexec, ht, hitems, hrest⟩ := transmissionEnd_active b hr hend hf hnodup hd
    refine ⟨t, hexec, ?_, fun r => ?_⟩
    · have hfrees : frees = f.carried.any fun i => (s.claim i.record).freedBy i := by simp only [frees, freedBy_eq]
      rw [hfrees]; exact ht
    · by_cases hmem : r ∈ f.carried.map (·.record)
      · obtain ⟨i, hi, rfl⟩ := List.mem_map.mp hmem
        rw [hitems i hi, ClaimRecord.sent]
        simp only [mem_items_iff hnodup hi, drains]; rfl
      · have hnone : ∀ g p, ⟨r, g, p⟩ ∉ f.carried := fun g p h => hmem (List.mem_map_of_mem (f := (·.record)) h)
        rw [hrest r hmem, if_neg fun h => hnone _ _ h.2, if_neg fun h => hnone _ _ h.2]
  · rw [transmissionEnd_eq b hr hend, giveSentNotice_leaving (s := sentState b c s) hf hp (show s.loader.leavingCount < 3 by omega),
      completeLeaving_below (by exact hcount), settleFrom_unchanged (e := s.engine), attemptSend, carrierBusy_eq, ← hrec] <;>
      rfl
  · refine ⟨attemptSend (enterQuiet (setLeavingCount 3 (sentState b c s))), ?_, rfl, Transceiver.attempt_timer _⟩
    have hthird := giveSentNotice_leaving (s := sentState b c s) hf hp (show s.loader.leavingCount < 3 by omega)
    rw [show (sentState b c s).loader.leavingCount + 1 = 3 from hcount, completeLeaving_third (by exact hp) rfl] at hthird
    rw [transmissionEnd_eq b hr hend, hthird, settleFrom_unchanged (e := s.engine)]; rfl

end Sys2Proof.Machine

/-! The build notice (R84, R85, R127, R144): which records are due, and what the promotion or the loss of a sole due record makes of the
Claim Table. -/

namespace Sys2Proof.Machine

/-! ### Due records -/

theorem due_iff (c : ClaimRecord) : c.due = true ↔ c.phase = .tentative ∧ listenTarget c.cls ≤ c.listenCount := by
  cases h : c.cls <;> simp [ClaimRecord.due, listenTarget, h]

theorem not_due_of_phase {c : ClaimRecord} (h : c.phase ≠ .tentative) : c.due = false := by
  simp [ClaimRecord.due, h]

theorem promoteIfDue_idle {s : State} {r : Nat} (h : (s.claim r).due = false) : promoteIfDue s r = s :=
  if_neg fun k => by simp [(due_iff _).mpr k] at h

theorem promoteIfDue_loses {s : State} {r n p : Nat} (h : (s.claim r).due = true) (hc : promotionCheck s r = some (n, p)) :
    promoteIfDue s r = applyLoss r (s.claim r).generation n p s := by
  rw [promoteIfDue, if_pos ((due_iff _).mp h), hc]

theorem promoteIfDue_promotes {s : State} {r : Nat} (h : (s.claim r).due = true) (hc : promotionCheck s r = none) :
    promoteIfDue s r = promote r s := by
  rw [promoteIfDue, if_pos ((due_iff _).mp h), hc]

theorem foldl_promoteIfDue_idle {s : State} {l : List Nat} (h : ∀ r ∈ l, (s.claim r).due = false) :
    l.foldl promoteIfDue s = s := by
  induction l with
  | nil => rfl
  | cons r l ih => rw [List.foldl_cons, promoteIfDue_idle (h r (.head _)), ih fun q hq => h q (.tail _ hq)]

/-- With no record due the build notice changes nothing (R84). -/
theorem buildNotice_idle {s : State} (h : ∀ r < 20, (s.claim r).due = false) : buildNotice s = s :=
  foldl_promoteIfDue_idle fun r hr => h r (List.mem_range.mp hr)

/-- No record but `r` has become due. -/
abbrev AddsNoDue (r : Nat) (s u : State) : Prop := ∀ q, q ≠ r → (u.claim q).due = true → (s.claim q).due = true

theorem AddsNoDue.trans {r : Nat} {s t u : State} (h : AddsNoDue r s t) (k : AddsNoDue r t u) : AddsNoDue r s u :=
  fun q hq hd => h q hq (k q hq hd)

theorem addsNoDue_of_claims {r : Nat} {s u : State} (h : u.claims = s.claims) : AddsNoDue r s u := by
  intro q _; simp only [State.claim, h, imp_self]

/-- The one due record aside, the build notice leaves the records alone (R84). -/
theorem buildNotice_sole {s : State} {r : Nat} (hr : r < 20) (h : ∀ q < 20, q ≠ r → (s.claim q).due = false)
    (hu : AddsNoDue r s (promoteIfDue s r)) : buildNotice s = promoteIfDue s r := by
  obtain ⟨l, m, hlm⟩ := List.append_of_mem (List.mem_range.mpr hr)
  have hmem : ∀ q ∈ l ++ m, q < 20 ∧ q ≠ r := by
    have hnodup : (l ++ r :: m).Nodup := hlm ▸ List.nodup_range
    rw [List.nodup_middle, List.nodup_cons] at hnodup
    refine fun q hq => ⟨List.mem_range.mp (hlm ▸ ?_), fun hqr => hnodup.1 (hqr ▸ hq)⟩
    rw [List.mem_append] at hq ⊢
    exact hq.imp_right (.tail _)
  have hrest : ∀ q ∈ l ++ m, (s.claim q).due = false := fun q hq => h q (hmem q hq).1 (hmem q hq).2
  unfold buildNotice
  rw [hlm, List.foldl_append, foldl_promoteIfDue_idle fun q hq => hrest q (List.mem_append_left _ hq), List.foldl_cons,
    foldl_promoteIfDue_idle fun q hq => Bool.eq_false_iff.mpr fun hd => ?_]
  have hq := List.mem_append_right l hq
  exact Bool.false_ne_true ((hrest q hq).symm.trans (hu q (hmem q hq).2 hd))

/-- A record that is written is no more due than before, unless it is `r`. -/
theorem setClaim_addsNoDue {r p : Nat} {c : ClaimRecord} {s : State} (h : p = r ∨ (c.due = true → (s.claim p).due = true)) :
    AddsNoDue r s (setClaim p c s) := by
  intro q hq hd
  by_cases hp : q = p
  · subst hp
    by_cases hl : q < s.claims.length
    · rw [claim_setClaim_same _ hl] at hd; exact h.resolve_left hq hd
    · rw [State.claim, List.getD_eq_default _ _ (by simpa using hl)] at hd; cases hd
  · rwa [claim_setClaim_other _ hp] at hd

theorem setClaim_addsNoDue_of_phase {p : Nat} {c : ClaimRecord} (r : Nat) (s : State) (h : c.phase ≠ .tentative) :
    AddsNoDue r s (setClaim p c s) :=
  setClaim_addsNoDue (.inr fun hd => absurd hd (by rw [not_due_of_phase h]; exact Bool.false_ne_true))

theorem degrade_addsNoDue (r p : Nat) (s : State) : AddsNoDue r s (degrade p s) :=
  AddsNoDue.trans (t := setClaim p { s.claim p with retry := some Config.retryTime } s) (setClaim_addsNoDue (.inr id))
    (addsNoDue_of_claims rfl)

theorem releaseRun_addsNoDue (r : Nat) (s : State) : AddsNoDue r s (releaseRun r s) :=
  (setClaim_addsNoDue (.inl rfl)).trans (addsNoDue_of_claims rfl)

theorem tentativeLoss_addsNoDue (r : Nat) (s : State) : AddsNoDue r s (tentativeLoss r s) := by
  unfold tentativeLoss; dsimp only; split
  · exact ((releaseRun_addsNoDue r s).trans (setClaim_addsNoDue (.inl rfl))).trans (addsNoDue_of_claims rfl)
  · exact ((releaseRun_addsNoDue r s).trans (setClaim_addsNoDue (.inl rfl))).trans (addsNoDue_of_claims rfl)

theorem successorLoss_addsNoDue (r p : Nat) (s : State) : AddsNoDue r s (successorLoss r p s) := by
  have h : AddsNoDue r s (cancel r (setClaim p (s.claim p).unmoved (setClaim r (s.claim r).unrun.freed (releaseRun r s)))) :=
    (((releaseRun_addsNoDue r s).trans (setClaim_addsNoDue (.inl rfl))).trans
      (setClaim_addsNoDue_of_phase _ _ (by simp [ClaimRecord.unmoved]))).trans (addsNoDue_of_claims rfl)
  unfold successorLoss; dsimp only; split
  · exact h.trans (degrade_addsNoDue _ _ _)
  · exact h

/-- The loss of a TENTATIVE record makes no other record due (R88, R129). -/
theorem applyLoss_addsNoDue {r : Nat} {s : State} (g : BitVec 4) (n p : Nat) (h : (s.claim r).phase = .tentative) :
    AddsNoDue r s (applyLoss r g n p s) := by
  unfold applyLoss; split
  · rw [h]; dsimp only; split
    · exact successorLoss_addsNoDue _ _ _
    · exact tentativeLoss_addsNoDue _ _
  · exact addsNoDue_of_claims rfl

theorem widened_due (c : ClaimRecord) (f : Run → Run) : (c.widened f).due = c.due := by
  unfold ClaimRecord.widened; split <;> rfl

theorem mergeGrowth_addsNoDue (r t : Nat) (s : State) : AddsNoDue r s (mergeGrowth r t s) := by
  have h : ∀ a f, AddsNoDue r s (commitGrant .data .grown none (mergeInto a r f s)) := fun a f =>
    ((setClaim_addsNoDue (.inr fun hd => (widened_due _ _).symm.trans hd)).trans
      (setClaim_addsNoDue (.inl rfl))).trans (addsNoDue_of_claims rfl)
  unfold mergeGrowth; split
  · exact h _ _
  · split
    · exact h _ _
    · exact addsNoDue_of_claims rfl

/-- The promotion of a record makes no other record due (R85). -/
theorem promote_addsNoDue (r : Nat) (s : State) : AddsNoDue r s (promote r s) := by
  have h : AddsNoDue r s (setClaim r (s.claim r).promoted s) := setClaim_addsNoDue (.inl rfl)
  unfold promote; split
  · exact (h.trans (setClaim_addsNoDue_of_phase _ _ (by simp))).trans (addsNoDue_of_claims rfl)
  · dsimp only; split
    · exact h.trans (mergeGrowth_addsNoDue _ _ _)
    · exact h.trans (addsNoDue_of_claims rfl)

/-! ### The promotion check -/

theorem promotionLoser_eq (s : State) (k : ServiceClass) (n : Nat) :
    promotionLoser s k n = (firstWinner s k n).map fun p => (n, p) := by
  unfold promotionLoser tileWinner firstWinner
  cases (s.tile n).claimants with
  | nil => rfl
  | cons e l => dsimp only; split <;> rfl

theorem promotionCheck_eq {s : State} {r : Nat} {y : Run} (h : (s.claim r).run = some y) : promotionCheck s r =
    (runTiles y).findSome? fun n => (firstWinner s (s.claim r).cls n).map fun p => (n, p) := by
  simp only [promotionCheck, h]
  exact congrArg (fun f => List.findSome? f (runTiles y)) (funext (promotionLoser_eq s _))

/-- No first claimant beats the record: PROMOTE (R18). -/
theorem promotionCheck_unbeaten {s : State} {r : Nat} {y : Run} (hy : (s.claim r).run = some y)
    (h : ∀ n, runHas y n = true → firstWinner s (s.claim r).cls n = none) : promotionCheck s r = none := by
  rw [promotionCheck_eq hy, List.findSome?_eq_none_iff]
  intro n hn
  rw [h n (mem_runTiles.mp hn)]; rfl

theorem findSome?_range' {β : Type} {f : Nat → Option β} {n : Nat} {b : β} (w a : Nat) (ha : a ≤ n) (hw : n < a + w)
    (hn : f n = some b) (hlow : ∀ m, a ≤ m → m < n → f m = none) : (List.range' a w).findSome? f = some b := by
  induction w generalizing a with
  | zero => omega
  | succ w ih =>
    rw [List.range'_succ, List.findSome?_cons]
    rcases ha.eq_or_lt with rfl | hlt
    · rw [hn]
    · rw [hlow a le_rfl hlt]
      exact ih (a + 1) hlt (by omega) fun m hm => hlow m (by omega)

/-- The lowest tile with a first claimant that beats the record is the one lost (R18). -/
theorem promotionCheck_beaten {s : State} {r n p : Nat} {y : Run} (hy : (s.claim r).run = some y) (hn : runHas y n = true)
    (hp : firstWinner s (s.claim r).cls n = some p)
    (hlow : ∀ m, m < n → runHas y m = true → firstWinner s (s.claim r).cls m = none) :
    promotionCheck s r = some (n, p) := by
  simp only [runHas, Bool.and_eq_true, decide_eq_true_eq] at hn hlow
  rw [promotionCheck_eq hy]
  refine findSome?_range' _ _ hn.1 hn.2 (by rw [hp]; rfl) fun m hm hlt => ?_
  rw [hlow m hlt ⟨hm, by omega⟩]; rfl

/-! ### The sole due record -/

section
variable {s : State} {r : Nat} {y : Run}

/-- A sole due record that some tile's first claimant beats is handled as lost (R84). -/
theorem buildNotice_loses (hr : r < 20) (hdue : (s.claim r).due = true) (hsole : ∀ q < 20, q ≠ r → (s.claim q).due = false)
    (hy : (s.claim r).run = some y) {n p : Nat} (hn : runHas y n = true) (hp : firstWinner s (s.claim r).cls n = some p)
    (hlow : ∀ m, m < n → runHas y m = true → firstWinner s (s.claim r).cls m = none) :
    buildNotice s = applyLoss r (s.claim r).generation n p s := by
  have hone := promoteIfDue_loses hdue (promotionCheck_beaten hy hn hp hlow)
  rw [buildNotice_sole hr hsole (hone ▸ applyLoss_addsNoDue _ _ _ ((due_iff _).mp hdue).1), hone]

/-- A sole due record that no first claimant beats is promoted (R84). -/
theorem buildNotice_promotes (hr : r < 20) (hdue : (s.claim r).due = true)
    (hsole : ∀ q < 20, q ≠ r → (s.claim q).due = false) (hy : (s.claim r).run = some y)
    (hnone : ∀ n, runHas y n = true → firstWinner s (s.claim r).cls n = none) : buildNotice s = promote r s := by
  have hone := promoteIfDue_promotes hdue (promotionCheck_unbeaten hy hnone)
  rw [buildNotice_sole hr hsole (hone ▸ promote_addsNoDue r s), hone]

end

/-! ### What a promotion does -/

theorem put_of_self (g : Grants) (k : ServiceClass) : g.put k (g.of k) = g := by cases k <;> rfl

/-- One event at a grant record (R96). -/
theorem commitGrant_grants (k : ServiceClass) (c : GrantCause) (d : Option Nat) (s : State) : (commitGrant k c d s).grants =
    s.grants.put k ((s.grants.of k).after (grantEntries s.claims k) c s.clock.stamp d) := by
  by_cases h : grantEntries s.claims k = (s.grants.of k).entries
  · simp [commitGrant, grantMoved, GrantRecord.after, h, put_of_self]
  · simp [commitGrant, grantMoved, GrantRecord.after, GrantRecord.changed, h]

theorem mergeGrowth_keeps (r t : Nat) (s : State) :
    (mergeGrowth r t s).loans = s.loans ∧ (mergeGrowth r t s).chan = s.chan := by
  unfold mergeGrowth; split
  · exact ⟨rfl, rfl⟩
  · split <;> exact ⟨rfl, rfl⟩

/-- A promotion changes no loan and requests no urgent build (R85). -/
theorem promote_keeps (r : Nat) (s : State) : (promote r s).loans = s.loans ∧ (promote r s).chan = s.chan := by
  unfold promote; split
  · exact ⟨rfl, rfl⟩
  · dsimp only; split
    · exact mergeGrowth_keeps _ _ _
    · exact ⟨rfl, rfl⟩

section
variable {s : State} {r : Nat}

/-- A primary that is no DATA record is HELD and granted (R85). -/
theorem promote_primary (hp : (s.claim r).predecessor = none) (hk : (s.claim r).cls ≠ .data) :
    promote r s = commitGrant (s.claim r).cls .placed none (setClaim r (s.claim r).promoted s) := by
  unfold promote
  rw [hp]
  dsimp only
  split
  · exact absurd ‹_› hk
  · rfl

theorem promote_successor {p : Nat} (hp : (s.claim r).predecessor = some p) : promote r s = switchMigration r p s := by
  simp only [promote, hp]

/-- A DATA record is merged into a neighbour of its tile, or placed (R85, R144). -/
theorem promote_data {y : Run} (hp : (s.claim r).predecessor = none) (hk : (s.claim r).cls = .data)
    (hy : (s.claim r).run = some y) : promote r s = mergeGrowth r y.first (setClaim r (s.claim r).promoted s) := by
  simp only [promote, hp, hk, hy]

end

/-! ### The neighbours of a growth record -/

theorem findIdx?_claims {s : State} {f : ClaimRecord → Bool} {q : Nat} (hq : q < s.claims.length)
    (hf : f (s.claim q) = true) (huniq : ∀ j < s.claims.length, f (s.claim j) = true → j = q) :
    s.claims.findIdx? f = some q := by
  have hget : ∀ {j} (h : j < s.claims.length), s.claims[j] = s.claim j := fun h => (List.getD_eq_getElem _ _ h).symm
  refine List.findIdx?_eq_some_iff_getElem.mpr ⟨hq, hget hq ▸ hf, fun j hj hfj => hj.ne (huniq j (hj.trans hq) ?_)⟩
  rwa [← hget (hj.trans hq)]

theorem findIdx?_claims_eq_none {s : State} {f : ClaimRecord → Bool} (h : ∀ j < s.claims.length, f (s.claim j) = false) :
    s.claims.findIdx? f = none := by
  refine List.findIdx?_eq_none_iff.mpr fun c hc => ?_
  obtain ⟨j, hj, rfl⟩ := List.mem_iff_getElem.mp hc
  rw [← h j hj, State.claim, List.getD_eq_getElem _ _ hj]

/-- A tile in the runs of two records is in the run of one (R76). -/
theorem ownsTile_unique {s : State} (h : OwnRunsLaw s) {q r n : Nat} (hq : q < s.claims.length) (hr : r < s.claims.length)
    (hn : n < 120) (hqn : (s.claim q).ownsTile n = true) (hrn : (s.claim r).ownsTile n = true) : q = r := by
  obtain ⟨hlen, -, hdisjoint⟩ := h
  rw [hlen] at hq hr
  rcases Nat.lt_trichotomy q r with hlt | heq | hlt
  · exact absurd ⟨hrn, hqn⟩ (hdisjoint r hr q hlt n hn)
  · exact heq
  · exact absurd ⟨hqn, hrn⟩ (hdisjoint q hq r hlt n hn)

/-- Under the law of the own runs, a record's run is 1 to 8 tiles within the band (R76). -/
theorem run_inBand {s : State} (h : OwnRunsLaw s) {q : Nat} {z : Run} (hz : (s.claim q).run = some z) :
    1 ≤ z.width ∧ z.first + z.width ≤ 120 := by
  have hq := lt_length_of_run hz
  have hmem : s.claim q ∈ s.claims := by
    rw [State.claim, List.getD_eq_getElem _ _ hq]; exact List.getElem_mem hq
  obtain ⟨-, hok⟩ := h.2.1 _ hmem
  have hok := hok z hz
  simp only [runOk, widthOk, Bool.and_eq_true, decide_eq_true_eq] at hok
  exact ⟨hok.1.1, hok.2⟩

/-- Whether a record is a HELD DATA one that has room for one more tile, its run on the side given (R144). -/
def ClaimRecord.joinsAt (c : ClaimRecord) (side : Run → Bool) : Bool := c.absorbs && c.run.any side

theorem joinsAt_iff (c : ClaimRecord) (side : Run → Bool) : c.joinsAt side = true ↔
    c.cls = .data ∧ c.phase = .held ∧ ∃ z, c.run = some z ∧ z.width < 8 ∧ side z = true := by
  cases h : c.run <;>
    simp [ClaimRecord.joinsAt, ClaimRecord.absorbs, ClaimRecord.runWidth, h, and_assoc, Nat.lt_succ_iff]

theorem lowerNeighbour_eq (s : State) (t : Nat) : lowerNeighbour s t =
    s.claims.findIdx? (·.joinsAt fun z => decide (z.first + z.width = t)) := by
  refine congrArg (fun f => List.findIdx? f s.claims) (funext fun c => ?_)
  unfold ClaimRecord.joinsAt; cases c.run <;> rfl

theorem upperNeighbour_eq (s : State) (t : Nat) : upperNeighbour s t =
    s.claims.findIdx? (·.joinsAt fun z => decide (z.first = t + 1)) := by
  refine congrArg (fun f => List.findIdx? f s.claims) (funext fun c => ?_)
  unfold ClaimRecord.joinsAt; cases c.run <;> rfl

section
variable {s : State} {r : Nat} {y : Run} {side : Run → Bool}

/-- A promoted record is no neighbour of its own tile, and the others are neighbours as before. -/
theorem joinsAt_of_promoted (hy : (s.claim r).run = some y) (hself : side y = false) {j : Nat}
    (h : ((setClaim r (s.claim r).promoted s).claim j).joinsAt side = true) : j ≠ r ∧ (s.claim j).joinsAt side = true := by
  have hne : j ≠ r := by
    rintro rfl
    rw [claim_setClaim_same _ (lt_length_of_run hy)] at h
    obtain ⟨-, -, z, hz, -, hside⟩ := (joinsAt_iff _ _).mp h
    cases hy.symm.trans hz
    exact Bool.false_ne_true (hself.symm.trans hside)
  exact ⟨hne, by rwa [claim_setClaim_other _ hne] at h⟩

/-- The neighbour on a side is the only one, where the runs on that side have the tile `m` in common (R76). -/
theorem findIdx?_neighbour {q m : Nat} (law : OwnRunsLaw s) (hy : (s.claim r).run = some y)
    (hp : (s.claim r).phase = .tentative) (hself : side y = false)
    (htile : ∀ z, side z = true → 1 ≤ z.width → runHas z m = true) (hq : (s.claim q).joinsAt side = true) :
    (setClaim r (s.claim r).promoted s).claims.findIdx? (·.joinsAt side) = some q := by
  have howns : ∀ {j}, (s.claim j).joinsAt side = true →
      j < s.claims.length ∧ m < 120 ∧ (s.claim j).ownsTile m = true := by
    intro j hj
    obtain ⟨-, hheld, z, hz, -, hside⟩ := (joinsAt_iff _ _).mp hj
    have hband := run_inBand law hz
    have hm := htile z hside hband.1
    refine ⟨lt_length_of_run hz, ?_, ?_⟩
    · simp only [runHas, Bool.and_eq_true, decide_eq_true_eq] at hm; omega
    · rw [ClaimRecord.ownsTile, hheld, hz]; exact hm
  obtain ⟨hlen, hm, hown⟩ := howns hq
  have hne : q ≠ r := by
    rintro rfl
    exact nomatch hp.symm.trans ((joinsAt_iff _ _).mp hq).2.1
  refine findIdx?_claims (by simpa using hlen) ?_ fun j _ hj => ?_
  · rwa [claim_setClaim_other _ hne]
  · obtain ⟨hlenj, -, hownj⟩ := howns (joinsAt_of_promoted hy hself hj).2
    exact ownsTile_unique law hlenj hlen hm hownj hown

theorem findIdx?_no_neighbour (hy : (s.claim r).run = some y) (hself : side y = false)
    (h : ∀ j < s.claims.length, (s.claim j).joinsAt side = false) :
    (setClaim r (s.claim r).promoted s).claims.findIdx? (·.joinsAt side) = none := by
  refine findIdx?_claims_eq_none fun j hj => Bool.eq_false_iff.mpr fun hjoin => ?_
  exact Bool.false_ne_true ((h j (by simpa using hj)).symm.trans (joinsAt_of_promoted hy hself hjoin).2)

/-- The record of the neighbour widens, and that of the growth ends (R144, log 9). -/
theorem mergeInto_claims {q : Nat} {z : Run} (g : Run → Run) (hy : (s.claim r).run = some y) (hne : q ≠ r)
    (hz : (s.claim q).run = some z) : (mergeInto q r g (setClaim r (s.claim r).promoted s)).claims =
      (s.claims.set q { s.claim q with run := some (g z), width := (g z).width }).set r (s.claim r).promoted.ended := by
  have hr := lt_length_of_run hy
  have hwide : (s.claim q).widened g = { s.claim q with run := some (g z), width := (g z).width } := by
    simp only [ClaimRecord.widened, hz]
  have hfree : (s.claim r).promoted.unrun.freed = (s.claim r).promoted.ended := unrun_freed_eq_ended hy
  rw [mergeInto, claim_setClaim_same _ hr, claim_setClaim_other _ hne, hwide, hfree]
  simp only [setClaim_claims]
  rw [List.set_comm _ _ hne.symm, List.set_set]

/-! ### The promotion of a growth record -/

/-- Record `q` is HELD, DATA and narrower than 8 on the run `z` (R144). -/
abbrev Joins (s : State) (z : Run) (q : Nat) : Prop :=
  (s.claim q).cls = .data ∧ (s.claim q).phase = .held ∧ (s.claim q).run = some z ∧ z.width < 8

theorem joinsAt_of_joins {z : Run} {q : Nat} (h : Joins s z q) (hside : side z = true) : (s.claim q).joinsAt side = true :=
  (joinsAt_iff _ _).mpr ⟨h.1, h.2.1, z, h.2.2.1, h.2.2.2, hside⟩

/-- No record joins on a side, where no run of the table does. -/
theorem not_joinsAt (law : OwnRunsLaw s) (h : ∀ q < 20, ∀ z ∈ (s.claim q).run, Joins s z q → ¬side z = true) :
    ∀ j < s.claims.length, (s.claim j).joinsAt side = false := by
  intro j hj
  refine Bool.eq_false_iff.mpr fun hjoin => ?_
  obtain ⟨hcls, hheld, z, hz, hw, hside⟩ := (joinsAt_iff _ _).mp hjoin
  exact h j (hj.trans_eq law.1) z hz ⟨hcls, hheld, hz, hw⟩ hside

section
variable (law : OwnRunsLaw s) (hy : (s.claim r).run = some y) (hp : (s.claim r).phase = .tentative)
  (hpred : (s.claim r).predecessor = none) (hk : (s.claim r).cls = .data) (hw : y.width = 1)
include law hy hp hpred hk hw

/-- Above the run of a HELD DATA record with room, the tile joins it (R144). -/
theorem promote_joins_lower {q : Nat} {z : Run} (hz : Joins s z q) (hside : z.first + z.width = y.first) :
    (promote r s).claims = (s.claims.set q { s.claim q with
      run := some ⟨z.first, z.width + 1⟩, width := z.width + 1 }).set r (s.claim r).promoted.ended ∧
    (promote r s).grants = { s.grants with
      data := s.grants.data.after (grantEntries (promote r s).claims .data) .grown s.clock.stamp none } := by
  have hlower : lowerNeighbour (setClaim r (s.claim r).promoted s) y.first = some q := by
    rw [lowerNeighbour_eq]
    refine findIdx?_neighbour (m := y.first - 1) law hy hp (by simp [hw]) (fun x hx hx1 => ?_)
      (joinsAt_of_joins hz (by simpa using hside))
    simp only [runHas, Bool.and_eq_true, decide_eq_true_eq] at hx ⊢; omega
  have hne : q ≠ r := by rintro rfl; exact nomatch hp.symm.trans hz.2.1
  have hpromote : promote r s = commitGrant .data .grown none (mergeInto q r widenUp (setClaim r (s.claim r).promoted s)) := by
    rw [promote_data hpred hk hy, mergeGrowth, hlower]
  rw [hpromote, commitGrant_data_grants]
  exact ⟨mergeInto_claims widenUp hy hne hz.2.2.1, rfl⟩

/-- Below the run of a HELD DATA record with room, and above none, the tile joins it (R144). -/
theorem promote_joins_upper (hnone : ∀ q < 20, ∀ z ∈ (s.claim q).run, Joins s z q → z.first + z.width ≠ y.first)
    {q : Nat} {z : Run} (hz : Joins s z q) (hside : z.first = y.first + 1) :
    (promote r s).claims = (s.claims.set q { s.claim q with
      run := some ⟨y.first, z.width + 1⟩, width := z.width + 1 }).set r (s.claim r).promoted.ended ∧
    (promote r s).grants = { s.grants with
      data := s.grants.data.after (grantEntries (promote r s).claims .data) .grown s.clock.stamp none } := by
  have hlower : lowerNeighbour (setClaim r (s.claim r).promoted s) y.first = none := by
    rw [lowerNeighbour_eq]
    exact findIdx?_no_neighbour hy (by simp [hw]) (not_joinsAt law (by simpa using hnone))
  have hupper : upperNeighbour (setClaim r (s.claim r).promoted s) y.first = some q := by
    rw [upperNeighbour_eq]
    refine findIdx?_neighbour (m := y.first + 1) law hy hp (by simp) (fun x hx hx1 => ?_)
      (joinsAt_of_joins hz (by simpa using hside))
    simp only [runHas, Bool.and_eq_true, decide_eq_true_eq] at hx ⊢; omega
  have hne : q ≠ r := by rintro rfl; exact nomatch hp.symm.trans hz.2.1
  have hpromote : promote r s =
      commitGrant .data .grown none (mergeInto q r widenDown (setClaim r (s.claim r).promoted s)) := by
    rw [promote_data hpred hk hy, mergeGrowth, hlower, hupper]
  have hfirst : y.first = z.first - 1 := by omega
  rw [hpromote, commitGrant_data_grants, hfirst]
  exact ⟨mergeInto_claims widenDown hy hne hz.2.2.1, rfl⟩

omit hp in
/-- Beside no HELD DATA record with room, the tile is placed (R144). -/
theorem promote_placed (hlow : ∀ q < 20, ∀ z ∈ (s.claim q).run, Joins s z q → z.first + z.width ≠ y.first)
    (hup : ∀ q < 20, ∀ z ∈ (s.claim q).run, Joins s z q → z.first ≠ y.first + 1) :
    (promote r s).claims = s.claims.set r (s.claim r).promoted ∧
    (promote r s).grants = { s.grants with
      data := s.grants.data.after (grantEntries (promote r s).claims .data) .placed s.clock.stamp none } := by
  have hlower : lowerNeighbour (setClaim r (s.claim r).promoted s) y.first = none := by
    rw [lowerNeighbour_eq]
    exact findIdx?_no_neighbour hy (by simp [hw]) (not_joinsAt law (by simpa using hlow))
  have hupper : upperNeighbour (setClaim r (s.claim r).promoted s) y.first = none := by
    rw [upperNeighbour_eq]
    exact findIdx?_no_neighbour hy (by simp) (not_joinsAt law (by simpa using hup))
  have hpromote : promote r s = commitGrant .data .placed none (setClaim r (s.claim r).promoted s) := by
    rw [promote_data hpred hk hy, mergeGrowth, hlower, hupper]
  rw [hpromote, commitGrant_data_grants]
  exact ⟨rfl, rfl⟩

end

end

end Sys2Proof.Machine

/-! A build in ACTIVE (R42 to R48, O22): the frame that is composed after the build notice, the buffer it takes, and
the notice's effect. -/

namespace Sys2Proof.Machine

/-! ### The composed frame -/

theorem announced_cls (c : ClaimRecord) : c.announced.1 = if c.phase = .parked then .data else c.cls := by
  unfold ClaimRecord.announced; split <;> simp_all

theorem announced_phase (c : ClaimRecord) : c.announced.2 = if c.phase = .tentative then .tentative else .held := by
  unfold ClaimRecord.announced; split <;> simp_all

theorem composeFrame_active {u : State} (h : isActive u = true) : composeFrame u =
    ⟨withCrc (frameBytes ((ownId u).getD 0) false ((carriedRecords u).map (carriedEntry u))), 0, none,
      (carriedRecords u).map (carriedItem u)⟩ := if_pos h

/-- The frame of a build in ACTIVE carries the records that hold a run, as they are announced (R43, R44). -/
structure Carries (own : Nat) (f : Frame) (t : State) : Prop where
  records : f.carried.map (·.record) = (List.range 20).filter (fun r => (t.claim r).phase.holds && (t.claim r).run.isSome)
  items : ∀ i ∈ f.carried, i.generation = (t.claim i.record).generation ∧
    i.phase = if (t.claim i.record).phase = .tentative then .tentative else .held
  bytes : f.bytes = withCrc (frameBytes own false (f.carried.map (fun i =>
    ⟨(t.claim i.record).run.getD ⟨0, 1⟩,
      if (t.claim i.record).phase = .parked then .data else (t.claim i.record).cls, i.phase⟩)))

theorem composeFrame_carries {u : State} {own : Nat} (h : isActive u = true) (hid : ownId u = some own) :
    Carries own (composeFrame u) u := by
  rw [composeFrame_active h]
  refine ⟨?_, fun i hi => ?_, ?_⟩
  · rw [List.map_map]; exact List.map_id _
  · obtain ⟨r, -, rfl⟩ := List.mem_map.mp hi
    exact ⟨rfl, announced_phase _⟩
  · rw [hid, List.map_map]
    refine congrArg (fun l => withCrc (frameBytes own false l)) (List.map_congr_left fun r _ => ?_)
    simp only [carriedEntry, carriedItem, Function.comp, announced_cls]; rfl

theorem Carries.congr {own : Nat} {f : Frame} {u t : State} (h : Carries own f u) (hc : t.claims = u.claims) :
    Carries own f t := by
  have hclaim : t.claim = u.claim := funext fun r => by rw [State.claim, State.claim, hc]
  obtain ⟨hr, hi, hb⟩ := h
  constructor <;> rwa [hclaim]

/-! ### The buffers of a build -/

namespace Transceiver

variable {c : Transceiver} {f : Frame}

@[simp] theorem write_timer : (c.write f).timer = c.timer := by unfold write; split <;> rfl
@[simp] theorem write_urgentBackoff : (c.write f).urgentBackoff = c.urgentBackoff := by unfold write; split <;> rfl
@[simp] theorem write_allowance : (c.write f).allowance = c.allowance := by unfold write; split <;> rfl

end Transceiver

/-- Where a built frame is put by a transceiver that holds the buffers of `s`, and what it leaves of the LFSR `x` (R42, R45). -/
structure Placed (s : State) (b : Bool) (f : Frame) (x : Word16) (c : Transceiver) : Prop where
  idle : s.chan.isSending = false → b = false → s.chan.reception = none →
    c.bufA = .sending f (32 + 8 * f.bytes.length) ∧ c.bufB = s.chan.bufB.unwaited ∧ c.lfsr = x
  busy : s.chan.isSending = false → b = true ∨ s.chan.reception.isSome = true →
    c.bufA = .waiting { f with deferrals := 1, backoff := some (((lfsrNext x).toNat % 8 + 1) * 500) } ∧
      c.bufB = s.chan.bufB.unwaited ∧ c.lfsr = lfsrNext x
  behindA : ∀ g m, s.chan.bufA = .sending g m → c.bufA = .sending g m ∧ c.bufB = .waiting f ∧ c.lfsr = x
  behindB : ∀ g m, s.chan.bufB = .sending g m → (∀ g' m', s.chan.bufA ≠ .sending g' m') →
    c.bufA = .waiting f ∧ c.bufB = .sending g m ∧ c.lfsr = x

theorem sendBuilt_placed {s : State} {d : Transceiver} {f : Frame} (b : Bool) (ha : d.bufA = s.chan.bufA)
    (hb : d.bufB = s.chan.bufB) (hf : f.backoff = none) (hd : f.deferrals = 0) :
    Placed s b f d.lfsr (d.sendBuilt f (b || s.chan.reception.isSome)) := by
  have hsending : s.chan.isSending = d.isSending := by
    unfold Transceiver.isSending; rw [ha, hb]
  refine ⟨fun hs hbusy hrec => ?_, fun hs hbusy => ?_, fun g m hg => ?_, fun g m hg hna => ?_⟩
  · rw [idle_of_and hbusy hrec, Transceiver.sendBuilt_idle (hsending ▸ hs) hf]
    exact ⟨rfl, congrArg FrameBuffer.unwaited hb, rfl⟩
  · rw [busy_of_or hbusy, Transceiver.sendBuilt_busy (hsending ▸ hs) hd]
    exact ⟨rfl, congrArg FrameBuffer.unwaited hb, rfl⟩
  · rw [Transceiver.sendBuilt_behind_bufA _ (ha.trans hg)]
    exact ⟨ha.trans hg, rfl, rfl⟩
  · rw [Transceiver.sendBuilt_behind_bufB _ (ha ▸ hna) (hb.trans hg)]
    exact ⟨rfl, hb.trans hg, rfl⟩

/-! ### The two kinds of build -/

/-- A build in ACTIVE after which the state is `t`: the state `a`, in which its timer or backoff has ended, the state `u` that the
build notice leaves, and the transceiver `d` that sends the frame. -/
structure BuildMade (b : Bool) (s a u t : State) (d : Transceiver) : Prop where
  notice : OnlyClaims a u
  frame : OnlyPlacement { u with chan := t.chan } t
  chan : t.chan = d.sendBuilt (composeFrame u) (b || s.chan.reception.isSome)
  bufA : d.bufA = s.chan.bufA
  bufB : d.bufB = s.chan.bufB
  lfsr : d.lfsr = u.chan.lfsr
  timer : d.timer = a.chan.timer

/-- A send attempt of a build samples the carrier that its event carries (R38, R45). -/
theorem OnlyClaims.carrier {a u : State} (h : OnlyClaims a u) :
    (u.pins.ccCs || u.chan.reception.isSome) = (a.pins.ccCs || a.chan.reception.isSome) := by
  rw [h.pins, h.reception]

/-- The send of a timer build, after a notice that leaves `u` (R42). -/
theorem timerBuild_sent {b : Bool} {s u : State} (h : OnlyClaims (timerExpired b s) u) : BuildMade b s (timerExpired b s) u
    (settle (attemptSend (restoreAllowance { u with chan := u.chan.discardWaiting.write (composeFrame u) }))) u.chan.restored := by
  refine ⟨h, (settle_frame _).ofChan rfl, ?_, h.bufA, h.bufB, rfl, h.timer⟩
  rw [(settle_frame _).chan, timerBuild_chan, h.carrier]
  rfl

/-- The state in which a running urgent backoff has ended (R47). -/
def backoffEnded (b : Bool) (s : State) : State := sampleCarrier b { s with chan := { s.chan with urgentBackoff := none } }

/-- The send of an urgent build, after a notice that leaves `u` (R47). -/
theorem urgentBuild_sent {b : Bool} {s u : State} (h : OnlyClaims (backoffEnded b s) u) : BuildMade b s (backoffEnded b s) u
    (settle (attemptSend { u with chan := u.chan.discardWaiting.write (composeFrame u) })) u.chan := by
  refine ⟨h, (settle_frame _).ofChan rfl, ?_, h.bufA, h.bufB, rfl, h.timer⟩
  rw [(settle_frame _).chan, urgentBuild_chan, h.carrier]
  rfl

theorem timerBuild_made {s : State} (b : Bool) (hr : s.loader.inReset = false) (hp : s.loader.part = .active)
    (ht : s.chan.timer.isSome = true) : ∃ t, exec (.announcementTimerExpiry b) s = .next t ∧
      BuildMade b s (timerExpired b s) (buildNotice (timerExpired b s)) t (buildNotice (timerExpired b s)).chan.restored := by
  have hactive : isActive (timerExpired b s) = true := by simp [isActive, timerExpired, hp]
  have hexec := announcementTimerExpiry_eq b hr ht
  rw [buildFrame_active hactive] at hexec
  exact ⟨_, hexec, timerBuild_sent (buildNotice_frame _)⟩

theorem urgentBuild_made {s : State} (b : Bool) (hr : s.loader.inReset = false) (hp : s.loader.part = .active)
    (ht : s.chan.urgentBackoff.isSome = true) : ∃ t, exec (.urgentBackoffEnd b) s = .next t ∧
      BuildMade b s (backoffEnded b s) (buildNotice (backoffEnded b s)) t (buildNotice (backoffEnded b s)).chan := by
  have hs : isActive s = true := by simp [isActive, hp]
  have hactive : isActive (backoffEnded b s) = true := hs
  have hexec : exec (.urgentBackoffEnd b) s = .next (settle (attemptSend (buildFrame (backoffEnded b s)))) := by
    simp only [exec, execUrgentBackoffEnd, outOfReset_released hr, ht, hs, and_self, if_true, backoffEnded]
  rw [buildFrame_active hactive] at hexec
  exact ⟨_, hexec, urgentBuild_sent (buildNotice_frame _)⟩

theorem sendBuilt_timer (c : Transceiver) (f : Frame) (busy : Bool) : (c.sendBuilt f busy).timer = c.timer := by
  rw [Transceiver.sendBuilt, Transceiver.attempt_timer, Transceiver.write_timer]; rfl

/-- A timer build leaves no urgent backoff and the allowance AVAILABLE (R42). -/
theorem sendBuilt_restored (c : Transceiver) (f : Frame) (busy : Bool) :
    (c.restored.sendBuilt f busy).urgentBackoff = none ∧ (c.restored.sendBuilt f busy).allowance = .available := by
  rw [Transceiver.sendBuilt, Transceiver.attempt_urgentBackoff, Transceiver.attempt_allowance,
    Transceiver.write_urgentBackoff, Transceiver.write_allowance]
  exact ⟨rfl, rfl⟩

/-! ### The notice's effect -/

/-- What the notice leaves in the Claim Table stands after the step (R84). -/
theorem BuildMade.table {b : Bool} {s a u t : State} {d : Transceiver} (h : BuildMade b s a u t d) :
    t.claims = u.claims ∧ t.grants = u.grants ∧ t.attn = u.attn ∧ t.loans = u.loans :=
  ⟨h.frame.claims, h.frame.grants, h.frame.attn, h.frame.loans⟩

/-- What a build leaves of a successor and its predecessor (R127). -/
theorem promote_migrates {s : State} {r p : Nat} (hp : (s.claim r).predecessor = some p) :
    (promote r s).claims = (s.claims.set r (s.claim r).promoted).set p
      { s.claim p with phase := .draining, drainCount := 0, successor := none } ∧
    (promote r s).grants = s.grants.put (s.claim r).cls ((s.grants.of (s.claim r).cls).after
      (grantEntries (promote r s).claims (s.claim r).cls) .noiseMove s.clock.stamp none) := by
  rw [promote_successor hp, switchMigration, commitGrant_grants]
  exact ⟨rfl, rfl⟩

/-- What the build notice makes, `u`, of the state `a` with at most one due record (R84). -/
structure Noticed (a u : State) : Prop where
  idle : (∀ r < 20, (a.claim r).due = false) → u = a
  lost : ∀ r < 20, ∀ y, (a.claim r).due = true → (∀ q < 20, q ≠ r → (a.claim q).due = false) → (a.claim r).run = some y →
    ∀ n p, runHas y n = true → firstWinner a (a.claim r).cls n = some p →
      (∀ m, m < n → runHas y m = true → firstWinner a (a.claim r).cls m = none) →
      u = applyLoss r (a.claim r).generation n p a
  promoted : ∀ r < 20, ∀ y, (a.claim r).due = true → (∀ q < 20, q ≠ r → (a.claim q).due = false) →
    (a.claim r).run = some y → (∀ n, runHas y n = true → firstWinner a (a.claim r).cls n = none) → u = promote r a

theorem buildNotice_noticed (a : State) : Noticed a (buildNotice a) where
  idle := buildNotice_idle
  lost _ hr _ hdue hsole hy _ _ hn hp hlow := buildNotice_loses hr hdue hsole hy hn hp hlow
  promoted _ hr _ hdue hsole hy hnone := buildNotice_promotes hr hdue hsole hy hnone

/-! ### The statement -/

/-- An expiry of the announcement timer, or the end of an urgent backoff, builds a frame in ACTIVE (R42, R47). -/
theorem activeBuild_made {b : Bool} {s a : State} {c : Instr} (hr : s.loader.inReset = false) (hp : s.loader.part = .active)
    (h : (c = .announcementTimerExpiry b ∧ s.chan.timer.isSome = true ∧ a = timerExpired b s) ∨
      (c = .urgentBackoffEnd b ∧ s.chan.urgentBackoff.isSome = true ∧ a = backoffEnded b s)) :
    ∃ t d, exec c s = .next t ∧ BuildMade b s a (buildNotice a) t d ∧
      (c = .announcementTimerExpiry b → t.chan.urgentBackoff = none ∧ t.chan.allowance = .available) := by
  rcases h with ⟨rfl, ht, rfl⟩ | ⟨rfl, ht, rfl⟩
  · obtain ⟨t, hexec, hmade⟩ := timerBuild_made b hr hp ht
    exact ⟨t, _, hexec, hmade, fun _ => hmade.chan ▸ sendBuilt_restored _ _ _⟩
  · obtain ⟨t, hexec, hmade⟩ := urgentBuild_made b hr hp ht
    exact ⟨t, _, hexec, hmade, nofun⟩

/-- The event of a build changes the transceiver and the sampled carrier alone before the notice. -/
theorem build_start {b : Bool} {s a : State} {c : Instr}
    (h : (c = .announcementTimerExpiry b ∧ s.chan.timer.isSome = true ∧ a = timerExpired b s) ∨
      (c = .urgentBackoffEnd b ∧ s.chan.urgentBackoff.isSome = true ∧ a = backoffEnded b s)) :
    ∃ chan pins, a = { s with chan := chan, pins := pins } := by
  rcases h with ⟨-, -, rfl⟩ | ⟨-, -, rfl⟩ <;> exact ⟨_, _, rfl⟩

/-- Settles O22: the frame that a build in ACTIVE composes after its notice, the buffer it takes, and the notice's effect on the sole
due record. -/
theorem activeFrameCarriesEveryRun : Obligations.ActiveFrameCarriesEveryRun := by
  intro b own s a c hreset hpart hid hcase x
  obtain ⟨t, d, hexec, hmade, hrestored⟩ := activeBuild_made (a := a) hreset hpart hcase
  obtain ⟨chan, pins, ha⟩ := build_start hcase
  have hx : x = (buildNotice a).chan.lfsr := rfl
  clear_value x
  obtain ⟨hclaims, hgrants, hattn, hloans⟩ := hmade.table
  have hactive : isActive (buildNotice a) = true := by
    rw [isActive, hmade.notice.loader, ha]; simp [hpart]
  have hown : ownId (buildNotice a) = some own := by
    rw [ownId, hmade.notice.loader, ha]; exact hid
  have hcarries := (composeFrame_carries hactive hown).congr hclaims
  have hplaced : Placed s b (composeFrame (buildNotice a)) x t.chan := by
    have h := sendBuilt_placed (f := composeFrame (buildNotice a)) b hmade.bufA hmade.bufB
      (by rw [composeFrame_active hactive]) (by rw [composeFrame_active hactive])
    rwa [← hmade.chan, hmade.lfsr, ← hx] at h
  have htimer : t.chan.timer = a.chan.timer := by rw [hmade.chan, sendBuilt_timer, hmade.timer]
  have hnoticed := buildNotice_noticed a
  refine ⟨t, composeFrame (buildNotice a), hexec, hmade.frame, by rw [composeFrame_active hactive],
    by rw [composeFrame_active hactive], hcarries.records, hcarries.items, hcarries.bytes, hplaced.idle, hplaced.busy,
    hplaced.behindA, hplaced.behindB, htimer, hrestored, ?_⟩
  clear hcarries hplaced hmade hexec hcase hactive hown
  generalize buildNotice a = u at *
  rw [hclaims, hgrants, hattn, hloans, hx]
  subst ha
  refine ⟨fun hdue => ?_, fun r hr y hdue hsole hy => ?_⟩
  · rw [hnoticed.idle hdue]; exact ⟨rfl, rfl, rfl, rfl, rfl⟩
  intro held
  refine ⟨fun n p hn hp hlow => ?_, fun hnone => ?_⟩
  · rw [hnoticed.lost r hr y hdue hsole hy n p hn hp hlow]; exact ⟨rfl, rfl, rfl, rfl⟩
  rw [hnoticed.promoted r hr y hdue hsole hy hnone]
  have hphase := ((due_iff _).mp hdue).1
  refine ⟨(promote_keeps r _).1, congrArg Transceiver.lfsr (promote_keeps r _).2, fun hp hk => ?_,
    fun p hp _ => promote_migrates hp, fun hp hk hw law => ?_⟩
  · exact promote_primary (s := { s with chan := chan, pins := pins }) hp hk ▸ ⟨rfl, commitGrant_grants _ _ _ _⟩
  intro free joins
  replace law : OwnRunsLaw { s with chan := chan, pins := pins } := law
  exact ⟨fun q z hz hside => promote_joins_lower law hy hphase hp hk hw hz hside, fun hlow =>
    ⟨fun q z hz hside => promote_joins_upper law hy hphase hp hk hw hlow hz hside, fun hup =>
      promote_placed law hy hp hk hw hlow hup⟩⟩

end Sys2Proof.Machine

/-! What the operations of the Claim Table and the Peer Table may do to the grant records, the attention latches and the transceiver:
they commit grants, set latches and request urgent builds, and nothing else. A law that these keep is kept by all of them. -/

namespace Sys2Proof.Machine

/-- An event at the tables: it writes claim, loan, growth, peer and map records and call lines, latches causes (R168), commits grants
(R96), requests urgent builds (R47), and asks for placements (R101). -/
inductive ByEvents : State → State → Prop where
  | records {claims : List ClaimRecord} {loans : List LoanEntry} {growth : GrowthTimer} {peers : List PeerRecord}
      {tiles : List TileRecord} (s : State) : ByEvents s { s with
        claims := claims, loans := loans, growth := growth, peers := peers, tiles := tiles }
  | line (n : Nat) (x : CallLine) (s : State) : ByEvents s (setLine n x s)
  | latch (c : Cause) (s : State) : ByEvents s (latch c s)
  | grant (k : ServiceClass) (c : GrantCause) (d : Option Nat) (s : State) : ByEvents s (commitGrant k c d s)
  | urgent (s : State) : ByEvents s (urgentRequest s)
  | placement {s t : State} : OnlyPlacement s t → ByEvents s t
  | trans {s t u : State} : ByEvents s t → ByEvents t u → ByEvents s u

namespace ByEvents

theorem refl (s : State) : ByEvents s s := .records s

theorem request (r : Nat) (s : State) : ByEvents s (requestPlacement r s) := .placement (requestPlacement_frame r s)

theorem cancel (r : Nat) (s : State) : ByEvents s (cancel r s) := .placement (cancel_frame r s)

end ByEvents

section

open ByEvents (records)

/-! ### The records, the data service and the Loan Stack -/

theorem setClaim_byEvents (r : Nat) (c : ClaimRecord) (s : State) : ByEvents s (setClaim r c s) := records s

theorem releaseRun_byEvents (r : Nat) (s : State) : ByEvents s (releaseRun r s) :=
  (records _).trans (.urgent _)

theorem trimTile_byEvents (r t : Nat) (s : State) : ByEvents s (trimTile r t s) := by
  unfold trimTile; split
  · exact (records _).trans (.urgent _)
  · exact .refl s

theorem cancelCut_byEvents (r : Nat) (x : Option Run) (s : State) : ByEvents s (cancelCut r x s) := by
  unfold cancelCut; split
  · exact .cancel _ _
  · exact .refl s

theorem cutTop_byEvents (r : Nat) (cut : List Nat) (s : State) : ByEvents s (cutTop r cut s) := by
  unfold cutTop; split
  · refine .trans ?_ (cancelCut_byEvents _ _ _)
    split
    · exact records _
    · exact records _
  · exact .refl s

theorem cutHighest_byEvents (k : Nat) : ∀ cut s, ByEvents s (cutHighest k cut s) := by
  induction k with
  | zero => exact fun _ s => .refl s
  | succ k ih =>
    intro cut s; unfold cutHighest; split
    · exact (cutTop_byEvents _ _ _).trans (ih _ _)
    · exact .refl s

theorem topDownTrim_byEvents (k : Nat) (s : State) : ByEvents s (topDownTrim k s) := by
  unfold topDownTrim; split
  · exact .refl s
  · exact ((cutHighest_byEvents _ _ _).trans (.urgent _)).trans (.grant _ _ _ _)

theorem trimToCeiling_byEvents (s : State) : ByEvents s (trimToCeiling s) := topDownTrim_byEvents _ s

theorem mergeGrowth_byEvents (r t : Nat) (s : State) : ByEvents s (mergeGrowth r t s) := by
  unfold mergeGrowth; split
  · exact (records _).trans (.grant _ _ _ _)
  · split
    · exact (records _).trans (.grant _ _ _ _)
    · exact ByEvents.grant _ _ _ _

theorem requestGrowth_byEvents (s : State) : ByEvents s (requestGrowth s) := by
  unfold requestGrowth; split
  · exact (records _).trans (.request _ _)
  · exact .refl s

theorem growWhenDue_byEvents (s : State) : ByEvents s (growWhenDue s) := by
  unfold growWhenDue; split
  · exact .refl s
  · split
    · split
      · exact .latch _ _
      · exact .refl s
    · exact (requestGrowth_byEvents s).trans (records _)

theorem growthComparison_byEvents (s : State) : ByEvents s (growthComparison s) := by
  unfold growthComparison; split
  · exact records s
  · dsimp only; split
    · exact (records s).trans (growWhenDue_byEvents _)
    · exact records s

theorem freeCaughtGrowth_byEvents (s : State) : ByEvents s (freeCaughtGrowth s) := by
  unfold freeCaughtGrowth; split
  · split
    · exact (records _).trans (.cancel _ _)
    · exact .refl s
  · exact .refl s

theorem unmetBelowFloor_byEvents (s : State) : ByEvents s (unmetBelowFloor s) := by
  unfold unmetBelowFloor; split
  · exact ByEvents.latch _ _
  · exact .refl s

theorem settleReturned_byEvents (e : LoanEntry) (s : State) : ByEvents s (settleReturned e s) := by
  unfold settleReturned; split
  · split
    · exact records _
    · exact (records _).trans (.urgent _)
  · exact .refl s

theorem unwindStack_byEvents (n : Nat) : ∀ s, ByEvents s (unwindStack n s) := by
  induction n with
  | zero => exact ByEvents.refl
  | succ n ih =>
    intro s; unfold unwindStack; split
    · split
      · exact .refl s
      · exact (records _).trans (ih _)
      · exact ((records _).trans (settleReturned_byEvents _ _)).trans (ih _)
    · exact .refl s

theorem unwind_byEvents (s : State) : ByEvents s (unwind s) := by
  unfold unwind; dsimp only; split
  · exact ((unwindStack_byEvents _ s).trans (.grant _ _ _ _)).trans (trimToCeiling_byEvents _)
  · exact unwindStack_byEvents _ s

theorem voidLoan_byEvents (i r : Nat) (g : BitVec 4) (s : State) : ByEvents s (voidLoan i r g s) := by
  unfold voidLoan; split
  · split
    · exact (records _).trans (unwind_byEvents _)
    · exact records _
  · exact .refl s

theorem voidLoanOf_byEvents (r : Nat) (c : ClaimRecord) (s : State) : ByEvents s (voidLoanOf r c s) := by
  unfold voidLoanOf; split
  · exact voidLoan_byEvents _ _ _ _
  · exact .refl s

theorem lend_byEvents (b : Nat) (bg : BitVec 4) (l : Nat) (lg : BitVec 4) (t : Nat) (s : State) :
    ByEvents s (lend b bg l lg t s) := by
  unfold lend; dsimp only
  exact ((((records s).trans (records _)).trans
    (ByEvents.grant _ _ _ _)).trans (.grant _ _ _ _)).trans (.urgent _)

theorem degrade_byEvents (p : Nat) (s : State) : ByEvents s (degrade p s) :=
  (records _).trans (.latch _ _)

theorem startMigration_byEvents (p : Nat) (s : State) : ByEvents s (startMigration p s) := by
  unfold startMigration; split
  · exact (records _).trans (.request _ _)
  · exact degrade_byEvents _ _

theorem dropSuccessor_byEvents (p : Nat) (s : State) : ByEvents s (dropSuccessor p s) := by
  unfold dropSuccessor; split
  · exact (records _).trans (.cancel _ _)
  · exact .refl s

theorem tentativeLoss_byEvents (r : Nat) (s : State) : ByEvents s (tentativeLoss r s) := by
  unfold tentativeLoss; dsimp only; split
  · exact ((releaseRun_byEvents _ _).trans (records _)).trans (.request _ _)
  · exact ((releaseRun_byEvents _ _).trans (records _)).trans (.latch _ _)

theorem successorLoss_byEvents (r p : Nat) (s : State) : ByEvents s (successorLoss r p s) := by
  have h : ByEvents s
      (cancel r (setClaim p (s.claim p).unmoved (setClaim r (s.claim r).unrun.freed (releaseRun r s)))) :=
    (((releaseRun_byEvents _ _).trans (records _)).trans (records _)).trans
      (.cancel _ _)
  unfold successorLoss; dsimp only; split
  · exact h.trans (degrade_byEvents _ _)
  · exact h

theorem freeSuccessor_byEvents (c : ClaimRecord) (s : State) : ByEvents s (freeSuccessor c s) := by
  unfold freeSuccessor; split
  · exact (records _).trans (.cancel _ _)
  · exact .refl s

theorem heldLoss_byEvents (r w : Nat) (s : State) : ByEvents s (heldLoss r w s) := by
  unfold heldLoss; dsimp only
  refine .trans (.trans (.trans (.trans ?_ (.request _ _)) (freeSuccessor_byEvents _ _)) (.grant _ _ _ _))
    (voidLoanOf_byEvents _ _ _)
  exact ((ByEvents.latch _ s).trans (releaseRun_byEvents _ _)).trans (records _)

theorem movingLoss_byEvents (r w : Nat) (s : State) : ByEvents s (movingLoss r w s) := by
  unfold movingLoss; dsimp only
  refine .trans (.trans ?_ (.grant _ _ _ _)) (voidLoanOf_byEvents _ _ _)
  have h := (ByEvents.latch .lost s).trans (releaseRun_byEvents r _)
  split
  · exact h.trans (records _)
  · exact h.trans (records _)

theorem releaseAndFree_byEvents (r : Nat) (s : State) : ByEvents s (releaseAndFree r s) := by
  unfold releaseAndFree; dsimp only
  exact ((releaseRun_byEvents _ _).trans (records _)).trans (voidLoanOf_byEvents _ _ _)

theorem dataLoss_byEvents (r t w : Nat) (s : State) : ByEvents s (dataLoss r t w s) :=
  ((ByEvents.latch _ s).trans (trimTile_byEvents _ _ _)).trans (.grant _ _ _ _)

theorem applyLoss_byEvents (r : Nat) (g : BitVec 4) (t w : Nat) (s : State) : ByEvents s (applyLoss r g t w s) := by
  unfold applyLoss; split
  · split
    · split
      · exact successorLoss_byEvents _ _ _
      · exact tentativeLoss_byEvents _ _
    · split
      · exact dataLoss_byEvents _ _ _ _
      · exact heldLoss_byEvents _ _ _
    · exact movingLoss_byEvents _ _ _
    · exact releaseAndFree_byEvents _ _
    · exact releaseAndFree_byEvents _ _
    · exact .refl s
    · exact .refl s
  · exact .refl s

theorem resumeSeeking_byEvents (p : Nat) (s : State) : ByEvents s (resumeSeeking p s) := by
  unfold resumeSeeking; dsimp only; split
  · exact (records _).trans (dropSuccessor_byEvents _ _)
  · exact records _

theorem tentativeNoise_byEvents (r : Nat) (s : State) : ByEvents s (tentativeNoise r s) := by
  have h := ((releaseRun_byEvents r s).trans (setClaim_byEvents r { (s.claim r).unrun with phase := .seeking } _)).trans
    (.request r _)
  unfold tentativeNoise; dsimp only; split
  · exact h.trans (resumeSeeking_byEvents _ _)
  · exact h

theorem heldNoise_byEvents (r : Nat) (s : State) : ByEvents s (heldNoise r s) := by
  unfold heldNoise; split
  · exact startMigration_byEvents _ _
  · exact .refl s

theorem applyNoise_byEvents (r : Nat) (g : BitVec 4) (t : Nat) (s : State) : ByEvents s (applyNoise r g t s) := by
  unfold applyNoise; split
  · split
    · exact tentativeNoise_byEvents _ _
    · split
      · exact (trimTile_byEvents _ _ _).trans (.grant _ _ _ _)
      · exact heldNoise_byEvents _ _
    · exact .refl s
  · exact .refl s

theorem commitContention_byEvents (r : Nat) (x : Run) (s : State) : ByEvents s (commitContention r x s) := by
  unfold commitContention; split
  · exact applyLoss_byEvents _ _ _ _ _
  · exact .refl s

theorem commitNoise_byEvents (r : Nat) (x : Run) (s : State) : ByEvents s (commitNoise r x s) := by
  unfold commitNoise; split
  · exact applyNoise_byEvents _ _ _ _
  · exact .refl s

theorem applyQuiet_byEvents (r : Nat) (g : BitVec 4) (t : Nat) (s : State) : ByEvents s (applyQuiet r g t s) := by
  unfold applyQuiet; split
  · split
    · exact dropSuccessor_byEvents _ _
    · exact records _
  · exact .refl s

theorem endDrain_byEvents (r : Nat) (s : State) : ByEvents s (endDrain r s) := by
  unfold endDrain; split
  · exact releaseAndFree_byEvents _ _
  · exact .refl s

theorem sentItem_byEvents (s : State) (i : CarriedItem) : ByEvents s (sentItem s i) := by
  unfold sentItem; dsimp only; split
  · exact .refl s
  · split
    · exact records _
    · split
      · exact (records _).trans (endDrain_byEvents _ _)
      · exact .refl s

theorem sentNotice_byEvents (l : List CarriedItem) (s : State) : ByEvents s (sentNotice l s) :=
  foldl_frame ByEvents .refl .trans _ sentItem_byEvents l s

theorem promote_byEvents (r : Nat) (s : State) : ByEvents s (promote r s) := by
  unfold promote; split
  · exact (records _).trans (.grant _ _ _ _)
  · dsimp only; split
    · exact (records _).trans (mergeGrowth_byEvents _ _ _)
    · exact (records _).trans (.grant _ _ _ _)

theorem promoteIfDue_byEvents (s : State) (r : Nat) : ByEvents s (promoteIfDue s r) := by
  unfold promoteIfDue; split
  · split
    · exact applyLoss_byEvents _ _ _ _ _
    · exact promote_byEvents _ _
  · exact .refl s

theorem buildNotice_byEvents (s : State) : ByEvents s (buildNotice s) :=
  foldl_frame ByEvents .refl .trans _ promoteIfDue_byEvents _ s

theorem takeCommit_byEvents (r : Nat) (x : Run) (s : State) : ByEvents s (takeCommit r x s) := by
  unfold takeCommit; dsimp only
  refine .trans ?_ (.urgent _)
  split
  · exact records _
  · exact records _

theorem applyOutcome_byEvents (r : Nat) (s : State) : ByEvents s (applyOutcome r s) := by
  unfold applyOutcome; split
  · exact (records _).trans (degrade_byEvents _ _)
  · split
    · exact (records _).trans (unmetBelowFloor_byEvents _)
    · exact (records _).trans (.latch _ _)

theorem expireRetry_byEvents (r : Nat) (s : State) : ByEvents s (expireRetry r s) := by
  unfold expireRetry; split
  · exact (records _).trans (.request _ _)
  · dsimp only; split
    · exact (records _).trans (startMigration_byEvents _ _)
    · exact records _
  · exact .refl s

theorem freeClosed_byEvents (s : State) (r : Nat) : ByEvents s (freeClosed s r) := by
  have h : ByEvents s (if (s.claim r).run.isSome = true then releaseRun r s else s) := by
    split
    · exact releaseRun_byEvents _ _
    · exact .refl s
  unfold freeClosed; dsimp only
  exact (h.trans (records _)).trans (.cancel _ _)

theorem closeProgram_byEvents (n : Nat) (s : State) : ByEvents s (closeProgram n s) :=
  (foldl_frame ByEvents .refl .trans _ freeClosed_byEvents _ s).trans (.grant _ _ _ _)

theorem closeCallRecord_byEvents (s : State) (r : Nat) : ByEvents s (closeCallRecord s r) := by
  unfold closeCallRecord; split
  · exact (ByEvents.cancel _ _).trans (records _)
  · exact freeClosed_byEvents _ _

theorem parkRemaining_byEvents (s : State) (r : Nat) : ByEvents s (parkRemaining s r) := by
  unfold parkRemaining; split
  · exact .refl s
  · exact records _

theorem closeCall_byEvents (n : Nat) (s : State) : ByEvents s (closeCall n s) := by
  have h := foldl_frame ByEvents .refl .trans _ closeCallRecord_byEvents (closingRecords .voice n s) s
  have k := (h.trans (unwindStack_byEvents ((closingRecords .voice n s).foldl closeCallRecord s).loans.length _)).trans
    ((foldl_frame ByEvents .refl .trans _ parkRemaining_byEvents (closingRecords .voice n s) _).trans
      (.grant .voice .closed none _))
  unfold closeCall; dsimp only; split
  · exact (k.trans (.grant _ _ _ _)).trans (trimToCeiling_byEvents _)
  · exact k

theorem openSlot_byEvents (k : ServiceClass) (n w : Nat) (s : State) : ByEvents s (openSlot k n w s) := by
  unfold openSlot; split
  · exact (records _).trans (.request _ _)
  · exact .refl s

theorem openByLine_byEvents (n : Nat) (s : State) : ByEvents s (openByLine n s) := by
  unfold openByLine; split
  · exact .refl s
  · split
    · exact openSlot_byEvents _ _ _ _
    · exact ByEvents.latch _ _

/-! ### The call lines -/

theorem takeEdge_byEvents (n : Nat) (s : State) : ByEvents s (takeEdge n s) := by
  unfold takeEdge; split
  · exact .refl s
  · exact (ByEvents.line _ _ _).trans (openByLine_byEvents _ _)

theorem closeLine_byEvents (n : Nat) (s : State) : ByEvents s (closeLine n s) := by
  unfold closeLine; split
  · exact (closeCall_byEvents _ _).trans (.line _ _ _)
  · exact .line _ _ _

theorem acknowledgeLine_byEvents (n : Nat) (s : State) : ByEvents s (acknowledgeLine n s) := by
  unfold acknowledgeLine; split
  · split
    · exact .line _ _ _
    · exact closeLine_byEvents _ _
  · exact .line _ _ _

theorem releaseLine_byEvents (n : Nat) (s : State) : ByEvents s (releaseLine n s) := by
  unfold releaseLine; split
  · exact closeLine_byEvents _ _
  · exact .refl s

theorem takeLevel_byEvents (s : State) (n : Nat) : ByEvents s (takeLevel s n) := by
  unfold takeLevel; split
  · exact takeEdge_byEvents _ _
  · exact .refl s

/-! ### The notices of the scanner -/

theorem noiseNotice_byEvents (t : Nat) (s : State) : ByEvents s (noiseNotice t s) := by
  unfold noiseNotice; split
  · rename_i r _
    have hlatch : ByEvents s (if (s.claim r).phase = .held ∨ (s.claim r).phase = .moving then latch .noise s else s) := by
      split
      · exact .latch _ _
      · exact .refl s
    dsimp only; split
    · exact hlatch.trans (applyNoise_byEvents _ _ _ _)
    · exact hlatch
  · exact .refl s

theorem quietNotice_byEvents (t : Nat) (s : State) : ByEvents s (quietNotice t s) := by
  unfold quietNotice; split
  · split
    · exact applyQuiet_byEvents _ _ _ _
    · exact .refl s
  · exact .refl s

/-! ### The Peer Table's operations -/

theorem contend_byEvents (t : Nat) (e : ClaimantEntry) (s : State) : ByEvents s (contend t e s) := by
  unfold contend; split
  · exact applyLoss_byEvents _ _ _ _ _
  · exact .refl s

theorem presentEntry_byEvents (e : ClaimantEntry) (s : State) (t : Nat) : ByEvents s (presentEntry e s t) := by
  unfold presentEntry; split
  · exact .refl s
  · exact (records _).trans (contend_byEvents _ _ _)

theorem weakenOn_byEvents (p : Nat) (s : State) (t : Nat) : ByEvents s (weakenOn p s t) := by
  unfold weakenOn; split
  · exact (records _).trans (contend_byEvents _ _ _)
  · exact .refl s

theorem replaceClaims_byEvents (p : Nat) (old new : List HeardRun) (s : State) :
    ByEvents s (replaceClaims p old new s) := by
  unfold replaceClaims
  refine (records s).trans (foldl_frame ByEvents .refl .trans _ (fun s h => ?_) new _)
  exact foldl_frame ByEvents .refl .trans _ (presentEntry_byEvents _) _ s

theorem newPeerFrame_byEvents (p : Nat) (new : List HeardRun) (s : State) : ByEvents s (newPeerFrame p new s) := by
  unfold newPeerFrame; split
  · exact replaceClaims_byEvents _ _ _ _
  · split
    · exact (records _).trans (replaceClaims_byEvents _ _ _ _)
    · exact .latch _ _

theorem applyFrame_byEvents (f : ReceivedFrame) (s : State) : ByEvents s (applyFrame f s) := by
  unfold applyFrame; split
  · split
    · exact records _
    · exact replaceClaims_byEvents _ _ _ _
  · split
    · exact .refl s
    · exact newPeerFrame_byEvents _ _ _

theorem turnStale_byEvents (p : Nat) (s : State) : ByEvents s (turnStale p s) := by
  unfold turnStale; split
  · split
    · exact (records _).trans (foldl_frame ByEvents .refl .trans _ (weakenOn_byEvents p) _ _)
    · exact .refl s
  · exact .refl s

theorem turnGone_byEvents (p : Nat) (s : State) : ByEvents s (turnGone p s) := by
  unfold turnGone; split
  · split
    · exact records _
    · exact .refl s
  · exact .refl s

theorem agePeer_byEvents (s : State) (p : Nat) : ByEvents s (agePeer s p) := by
  unfold agePeer; split
  · exact ((records _).trans (turnStale_byEvents _ _)).trans (turnGone_byEvents _ _)
  · exact .refl s

theorem agePeers_byEvents (s : State) : ByEvents s (agePeers s) :=
  foldl_frame ByEvents .refl .trans _ agePeer_byEvents _ s

end

end Sys2Proof.Machine

/-! Every step keeps the ranges of the configuration and of the interface (R40, R50, R95, R137, R162, R168, R182, O58): first for the
operations of the tables, then for the changes of part state, the transceiver, the scanner and the service link. -/

namespace Sys2Proof.Machine

/-- An event that keeps both laws of the ranges. -/
structure KeepsRanges (s t : State) : Prop where
  config : ConfigLaw s → ConfigLaw t
  interface : InterfaceLaw s → InterfaceLaw t

namespace KeepsRanges

theorem refl (s : State) : KeepsRanges s s := ⟨id, id⟩

theorem trans {s t u : State} (h : KeepsRanges s t) (k : KeepsRanges t u) : KeepsRanges s u :=
  ⟨k.config ∘ h.config, k.interface ∘ h.interface⟩

end KeepsRanges

/-! ### The transceiver -/

/-- The feedback bit stands in for the one that leaves at the top, so the LFSR never reaches 0 (R40). -/
theorem lfsrNext_ne_zero {x : Word16} (h : x ≠ 0) : lfsrNext x ≠ 0 := by
  intro hzero
  have hbit : ∀ i, (lfsrNext x).getLsbD i = false := fun i => by rw [hzero]; exact BitVec.getLsbD_zero
  have hlow : ∀ i < 15, x.getLsbD i = false := fun i hi => by
    have hshift : i + 1 < 16 → x.getLsbD i = false := by simpa [lfsrNext] using hbit (i + 1)
    exact hshift (by omega)
  have htop : x.getLsbD 15 = false := by
    have hfeedback : x[15] = (x[13] != (x[12] != x[10])) := by simpa [lfsrNext] using hbit 0
    simpa [← BitVec.getLsbD_eq_getElem, hlow] using hfeedback
  refine h (BitVec.eq_of_getLsbD_eq fun i hi => ?_)
  rw [show BitVec.getLsbD 0 i = false from BitVec.getLsbD_zero]
  rcases Nat.lt_succ_iff_lt_or_eq.mp hi with hlt | rfl
  · exact hlow i hlt
  · exact htop

theorem chan_keepsRanges {s : State} {c : Transceiver} (hx : s.chan.lfsr ≠ 0 → c.lfsr ≠ 0) (hd : c.dropped = s.chan.dropped) :
    KeepsRanges s { s with chan := c } := by
  refine ⟨fun ⟨hv, hrest⟩ => ⟨fun v hc => ⟨(hv v hc).1, hx (hv v hc).2⟩, hrest⟩, fun h => ?_⟩
  rw [InterfaceLaw] at h ⊢
  rwa [hd]

theorem takeUrgent_lfsr {c : Transceiver} (h : c.lfsr ≠ 0) : c.takeUrgent.lfsr ≠ 0 := by
  unfold Transceiver.takeUrgent; split
  · exact lfsrNext_ne_zero h
  · exact h

theorem takeUrgent_dropped (c : Transceiver) : c.takeUrgent.dropped = c.dropped := by
  unfold Transceiver.takeUrgent; split <;> rfl

theorem urgentRequest_keepsRanges (s : State) : KeepsRanges s (urgentRequest s) := by
  unfold urgentRequest; split
  · exact chan_keepsRanges takeUrgent_lfsr (takeUrgent_dropped _)
  · exact .refl s

theorem attemptFrame_lfsr (busy : Bool) (f : Frame) {x : Word16} (h : x ≠ 0) : (attemptFrame busy f x).2 ≠ 0 := by
  unfold attemptFrame; split
  · exact h
  · split
    · exact lfsrNext_ne_zero h
    · exact h

theorem attempt_lfsr (busy : Bool) {c : Transceiver} (h : c.lfsr ≠ 0) : (c.attempt busy).lfsr ≠ 0 := by
  unfold Transceiver.attempt; split
  · exact h
  · split
    · exact attemptFrame_lfsr _ _ h
    · exact attemptFrame_lfsr _ _ h
    · exact h

theorem write_lfsr (c : Transceiver) (f : Frame) : (c.write f).lfsr = c.lfsr := by
  unfold Transceiver.write; split <;> rfl

theorem attemptSend_keepsRanges (s : State) : KeepsRanges s (attemptSend s) :=
  chan_keepsRanges (attempt_lfsr _) (attempt_reception s.chan _).2

theorem drawPeriod_keepsRanges (s : State) : KeepsRanges s { s with chan := s.chan.drawPeriod } :=
  chan_keepsRanges lfsrNext_ne_zero rfl

/-! ### Grants and latches -/

theorem latched_or {x y : Byte} (hx : x &&& allCauses = x) (hy : y &&& allCauses = y) : (x ||| y) &&& allCauses = x ||| y := by
  rw [BitVec.and_or_distrib_right, hx, hy]

theorem bit_allCauses (c : Cause) : c.bit &&& allCauses = c.bit := by cases c <;> rfl

theorem latch_keepsRanges (c : Cause) (s : State) : KeepsRanges s (latch c s) := by
  refine ⟨id, fun ⟨hgrants, hlatched, hrest⟩ => ⟨hgrants, latched_or hlatched (bit_allCauses c), hrest⟩⟩

theorem grantEntries_length (claims : List ClaimRecord) (k : ServiceClass) : (grantEntries claims k).length = slotCount k := by
  simp [grantEntries]

theorem put_keepsRanges (k : ServiceClass) {g : GrantRecord} (s : State) (h : g.entries.length = slotCount k) :
    KeepsRanges s { s with grants := s.grants.put k g } := by
  refine ⟨id, fun ⟨⟨hdata, hvideo, hvoice⟩, hrest⟩ => ⟨?_, hrest⟩⟩
  cases k with
  | data => exact ⟨h, hvideo, hvoice⟩
  | video => exact ⟨hdata, h, hvoice⟩
  | voice => exact ⟨hdata, hvideo, h⟩

theorem commitGrant_keepsRanges (k : ServiceClass) (c : GrantCause) (d : Option Nat) (s : State) :
    KeepsRanges s (commitGrant k c d s) := by
  unfold commitGrant; split
  · exact (put_keepsRanges k s (grantEntries_length s.claims k)).trans (latch_keepsRanges .grant _)
  · exact .refl s

theorem OnlyPlacement.keepsRanges {s t : State} (h : OnlyPlacement s t) : KeepsRanges s t := by
  constructor
  · intro k; simpa only [ConfigLaw, classMax, h.loader, h.chan, h.demand] using k
  · intro k; simpa only [InterfaceLaw, h.loader, h.chan, h.grants, h.attn, h.pins, h.link, h.lines] using k

theorem ByEvents.keepsRanges {s t : State} (h : ByEvents s t) : KeepsRanges s t := by
  induction h with
  | records s => exact ⟨id, id⟩
  | line n x s => exact ⟨id, by simp [InterfaceLaw, setLine]⟩
  | latch c s => exact latch_keepsRanges c s
  | grant k c d s => exact commitGrant_keepsRanges k c d s
  | urgent s => exact urgentRequest_keepsRanges s
  | placement h => exact h.keepsRanges
  | trans _ _ ih ih' => exact ih.trans ih'

theorem ByEvents.link {s t : State} (h : ByEvents s t) : t.link = s.link := by
  induction h with
  | records | line | latch | grant | urgent => rfl
  | placement h => exact h.link
  | trans _ _ ih ih' => exact ih'.trans ih

theorem settle_keepsRanges {s t : State} (h : KeepsRanges s t) : KeepsRanges s (settle t) := h.trans (settle_frame t).keepsRanges

theorem settleFrom_keepsRanges (e : Engine) {s t : State} (h : KeepsRanges s t) : KeepsRanges s (settleFrom e t) :=
  h.trans (settleFrom_frame e t).keepsRanges

/-! ### The changes of part state -/

/-- The loader may change its part state, but not to LOADING, and its counts. -/
theorem loader_keepsRanges {s : State} (l : Loader) (hv : l.config = s.loader.config) (hp : l.part ≠ .loading) :
    KeepsRanges s { s with loader := l } := by
  constructor
  · intro ⟨hvalues, _, hdemand⟩
    refine ⟨by simpa only [hv] using hvalues, fun h => absurd h hp, ?_⟩
    simpa only [classMax, hv] using hdemand
  · intro h; simpa only [InterfaceLaw, hv] using h

theorem freeAll_keepsRanges (s : State) : KeepsRanges s (freeAll s) := by
  refine .trans ?_ (latch_keepsRanges .grant _)
  exact ⟨id, fun ⟨_, hrest⟩ => ⟨⟨rfl, rfl, rfl⟩, hrest⟩⟩

theorem standDown_keepsRanges (s : State) : KeepsRanges s (standDown s) :=
  (freeAll_keepsRanges s).trans ⟨id, fun ⟨hgrants, hl, hm, hd, hi, hr, hlen, _, hrest⟩ =>
    ⟨hgrants, hl, hm, hd, hi, hr, hlen, rfl, hrest⟩⟩

theorem enterLeaving_keepsRanges (s : State) : KeepsRanges s (enterLeaving s) := by
  have h : KeepsRanges s (standDown { s with loader := { s.loader with part := .leaving, leavingCount := 0 } }) :=
    (loader_keepsRanges { s.loader with part := .leaving, leavingCount := 0 } rfl nofun).trans (standDown_keepsRanges _)
  unfold enterLeaving; dsimp only; split
  · exact h
  · exact h.trans (drawPeriod_keepsRanges _)

theorem enterFault_keepsRanges (c : FaultCause) (s : State) : KeepsRanges s (enterFault c s) := by
  have h : KeepsRanges s (standDown { s with loader := { s.loader with part := .fault, faultCause := c } }) :=
    (loader_keepsRanges { s.loader with part := .fault, faultCause := c } rfl nofun).trans (standDown_keepsRanges _)
  refine .trans (h.trans ?_) (latch_keepsRanges .fault _)
  exact ⟨id, id⟩

theorem seed_ne_zero {p : Nat} (h : stationOk p = true) : BitVec.ofNat 16 p ≠ 0 := by
  simp only [stationOk, Bool.and_eq_true, decide_eq_true_eq] at h
  intro hzero
  have := congrArg BitVec.toNat hzero
  simp only [BitVec.toNat_ofNat, BitVec.ofNat_eq_ofNat] at this
  omega

/-- The LFSR is seeded with the own id, which is a station's (R40). -/
theorem enterWarmListen_config {s : State} (hv : ∀ v ∈ s.loader.config, ConfigValuesLaw v) (hf : s.demand.floor ≤ s.demand.ceiling)
    (hc : s.demand.ceiling ≤ classMax s .data) : ConfigLaw (enterWarmListen s) := by
  refine ⟨fun v hmem => ⟨hv v hmem, ?_⟩, nofun, hf, hc⟩
  have hown : ownId s = some v.ownId := congrArg (Option.map ConfigValues.ownId) hmem
  simp only [enterWarmListen, hown, Option.getD_some]
  exact seed_ne_zero (hv v hmem).1

theorem enterWarmListen_keepsRanges (s : State) : KeepsRanges s (enterWarmListen s) :=
  ⟨fun ⟨hv, _, hf, hc⟩ => enterWarmListen_config (fun v hmem => (hv v hmem).1) hf hc, id⟩

theorem enterActive_keepsRanges (s : State) : KeepsRanges s (enterActive s) := by
  refine .trans (.trans ?_ (foldl_frame OnlyPlacement .refl .trans _ (fun s r => queuePlacement_frame r s) _ _).keepsRanges)
    (foldl_frame ByEvents .refl .trans _ takeLevel_byEvents _ _).keepsRanges
  have hstart : KeepsRanges s { s with loader := { s.loader with part := .active } } := loader_keepsRanges _ rfl nofun
  exact (hstart.trans (drawPeriod_keepsRanges _)).trans ⟨id, id⟩

theorem endWarmListen_keepsRanges (s : State) : KeepsRanges s (endWarmListen s) := by
  unfold endWarmListen; split
  · exact enterActive_keepsRanges s
  · exact .refl s

theorem completeLeaving_keepsRanges (s : State) : KeepsRanges s (completeLeaving s) := by
  unfold completeLeaving; split
  · have hquiet : KeepsRanges s (setPart .quiet s) := loader_keepsRanges _ rfl nofun
    exact hquiet.trans ⟨id, id⟩
  · exact .refl s

theorem countWarmTick_keepsRanges (s : State) : KeepsRanges s (countWarmTick s) := by
  unfold countWarmTick; split
  · exact loader_keepsRanges _ rfl (by simp [*])
  · exact .refl s

theorem giveSentNotice_keepsRanges (f : Frame) (s : State) : KeepsRanges s (giveSentNotice f s) := by
  unfold giveSentNotice; split
  · refine .trans ?_ (completeLeaving_keepsRanges _)
    split
    · exact loader_keepsRanges _ rfl (by simp [*])
    · exact .refl s
  · exact (sentNotice_byEvents _ s).keepsRanges

/-- A build writes a frame into a buffer, after its notice in ACTIVE (R42, R43). -/
theorem buildFrame_keepsRanges (s : State) : KeepsRanges s (buildFrame s) := by
  have hnotice : KeepsRanges s (if isActive s = true then buildNotice s else s) := by
    split
    · exact (buildNotice_byEvents s).keepsRanges
    · exact .refl s
  refine hnotice.trans (chan_keepsRanges (fun h => ?_) ?_)
  · rw [write_lfsr]; exact h
  · rw [(write_reception _ _).2]; rfl

/-! ### Reset and the configuration record -/

theorem reset_keepsRanges {s t : State} (e : execReset s = .next t) : KeepsRanges s t := by
  cases e
  refine ⟨fun _ => reset_configLaw, fun h => ?_⟩
  obtain ⟨hgrants, hlatched, hmask, hdropped, -, hindex, hlength, hlines, -, hconfig⟩ := reset_interfaceLaw
  obtain ⟨-, -, -, -, -, -, -, -, hcalls, -⟩ := h
  exact ⟨hgrants, hlatched, hmask, hdropped, fun _ => rfl, hindex, hlength, hlines, hcalls, hconfig⟩

theorem releaseReset_keepsRanges (s : State) : KeepsRanges s (releaseReset s) := by
  refine ⟨id, fun ⟨hgrants, hl, hm, hd, _, _, hrest⟩ => ⟨hgrants, hl, hm, hd, fun h => ?_, fun h => ?_, hrest⟩⟩
  · exact if_neg (by simpa [releaseReset] using h)
  · unfold releaseReset at h; dsimp only at h; split at h <;> cases h

theorem lockRange_law (lo hi : Byte) : (lockRange lo hi).length ≤ 1 ∧
    ∀ g ∈ lockRange lo hi, g.1 ≤ g.2 ∧ g.2 < Config.tileCount := by
  unfold lockRange; split
  · exact ⟨Nat.zero_le _, nofun⟩
  · refine ⟨le_rfl, fun g hg => ?_⟩
    rw [List.mem_singleton.mp hg]
    simp only [Config.tileCount]; omega

theorem clamp_mem {lo hi : Nat} (x : Nat) (h : lo ≤ hi) : lo ≤ clamp lo hi x ∧ clamp lo hi x ≤ hi := by
  unfold clamp; omega

/-- NOISE_ON stays above the hysteresis, and their difference is 1 to 46 (R182). -/
theorem clampHysteresis_law {on : Nat} (x : Nat) (h : 6 ≤ on ∧ on ≤ 48) : (2 ≤ clampHysteresis on x ∧ clampHysteresis on x ≤ 12) ∧
    1 ≤ on - clampHysteresis on x ∧ on - clampHysteresis on x ≤ 46 := by
  have := clamp_mem (lo := 2) (hi := 12) x (by decide)
  unfold clampHysteresis; split <;> omega

theorem recordValues_mask (bs : List Byte) : (recordValues bs).mask &&& allCauses = (recordValues bs).mask := by
  rw [recordValues, BitVec.and_assoc, BitVec.and_self]

/-- The values of an accepted record are in their ranges (R181, R182). -/
theorem recordValues_law {bs : List Byte} (h : recordAccepted bs = true) : ConfigValuesLaw (recordValues bs) := by
  simp only [recordAccepted, Bool.and_eq_true, decide_eq_true_eq, bne_iff_ne] at h
  obtain ⟨⟨⟨⟨-, hzero⟩, htop⟩, hband⟩, hhigh⟩ := h
  have hlocks := fun i j => lockRange_law (byteAt bs i) (byteAt bs j)
  have hnoise := clamp_mem (lo := 6) (hi := 48) (byteAt bs 17).toNat (by decide)
  have hhysteresis := clampHysteresis_law (byteAt bs 18).toNat hnoise
  have hstation : value16 (byteAt bs 1) (byteAt bs 2) < 65535 :=
    lt_of_le_of_ne (Nat.le_of_lt_succ (value16_lt _ _)) htop
  refine ⟨?_, hband, Nat.lt_succ_of_le hhigh, fun g hg => ?_, ?_, clamp_mem _ (by decide), min_le_left _ _, min_le_left _ _,
    min_le_left _ _, hnoise, hhysteresis.1, hhysteresis.2, rfl, ?_⟩
  · exact Bool.and_eq_true_iff.mpr ⟨decide_eq_true (Nat.pos_of_ne_zero hzero), decide_eq_true hstation⟩
  · simp only [recordValues, List.mem_append] at hg
    rcases hg with ((hg | hg) | hg) | hg
    all_goals exact (hlocks _ _).2 g hg
  · simp only [recordValues, List.length_append]
    have := (hlocks 5 6).1; have := (hlocks 7 8).1; have := (hlocks 9 10).1; have := (hlocks 11 12).1
    omega
  · exact recordValues_mask bs

theorem acceptConfig_keepsRanges {bs : List Byte} (s : State) (h : recordAccepted bs = true) (hp : s.loader.part = .loading) :
    KeepsRanges s (acceptConfig (recordValues bs) s) := by
  have hlaw := recordValues_law h
  constructor
  · intro ⟨_, hnone, hfloor, hceiling⟩
    have hmax : classMax s .data = 0 := by rw [classMax, hnone hp]; rfl
    refine enterWarmListen_config (fun v hv => ?_) hfloor ?_
    · cases hv; exact hlaw
    · exact (hceiling.trans_eq hmax).trans (Nat.zero_le _)
  · intro ⟨hgrants, hlatched, _, hd, hi, hr, hlen, hlines, hcalls, _⟩
    refine ⟨hgrants, hlatched, ?_, hd, hi, hr, hlen, hlines, hcalls, fun v hv => ?_⟩
    · exact recordValues_mask bs
    · cases hv; exact recordValues_mask bs

theorem refuseConfig_keepsRanges (s : State) : KeepsRanges s (refuseConfig s) := by
  have hfault := enterFault_keepsRanges .config { s with loader := { s.loader with reading := false } }
  refine ⟨hfault.config, fun h => ?_⟩
  obtain ⟨hgrants, hlatched, -, hrest⟩ := hfault.interface h
  exact ⟨hgrants, hlatched, BitVec.and_self, hrest⟩

end Sys2Proof.Machine

namespace Sys2Proof.Machine

/-! ### The scanner -/

theorem changeNoise_keepsRanges (t : Nat) (f : TileNoise → TileNoise) (s : State) : KeepsRanges s (changeNoise t f s) := ⟨id, id⟩

theorem takeSample_keepsRanges (t : Nat) (v : Option Nat) (s : State) : KeepsRanges s (takeSample t v s) := by
  unfold takeSample; split
  · exact changeNoise_keepsRanges _ _ s
  · exact .refl s

theorem recoverTile_keepsRanges (t : Nat) (s : State) : KeepsRanges s (recoverTile t s) := by
  unfold recoverTile; split
  · exact (changeNoise_keepsRanges _ _ s).trans (quietNotice_byEvents _ _).keepsRanges
  · exact .refl s

theorem enterNoisy_keepsRanges (t : Nat) (s : State) : KeepsRanges s (enterNoisy t s) :=
  (changeNoise_keepsRanges _ _ s).trans (noiseNotice_byEvents _ _).keepsRanges

theorem driveNoise_keepsRanges (t : Nat) (s : State) : KeepsRanges s (driveNoise t s) := by
  unfold driveNoise; dsimp only; split
  · split
    · exact enterNoisy_keepsRanges t s
    · exact .refl s
  · split
    · exact changeNoise_keepsRanges _ _ s
    · exact .refl s
  · split
    · exact (changeNoise_keepsRanges _ _ s).trans (recoverTile_keepsRanges _ _)
    · exact enterNoisy_keepsRanges t s

theorem endSweep_keepsRanges (m : Measurement) (s : State) : KeepsRanges s (endSweep m s) := by
  have h := takeSample_keepsRanges m.tile m.sample s
  unfold endSweep; dsimp only; split
  · exact (h.trans (driveNoise_keepsRanges _ _)).trans ⟨id, id⟩
  · exact h.trans ⟨id, id⟩

theorem endSpot_keepsRanges (m : Measurement) (s : State) : KeepsRanges s (endSpot m s) :=
  (takeSample_keepsRanges m.tile m.sample s).trans (endSpot_frame m s).keepsRanges

/-! ### The service link -/

theorem linkSelect_keepsRanges {s t : State} (e : execLinkSelect s = .next t) : KeepsRanges s t := by
  cases e; dsimp only; split
  · exact ⟨id, fun ⟨hgrants, hlatched, hmask, hd, _, hrest⟩ => ⟨hgrants, hlatched, hmask, hd, nofun, hrest⟩⟩
  · exact ⟨id, fun ⟨hgrants, hlatched, hmask, hd, _, _, _, hrest⟩ =>
      ⟨hgrants, hlatched, hmask, hd, nofun, nofun, Nat.zero_le _, hrest⟩⟩

theorem linkDeselect_keepsRanges {s t : State} (e : execLinkDeselect s = .next t) : KeepsRanges s t := by
  cases e
  exact ⟨id, fun ⟨hgrants, hlatched, hmask, hd, _, _, _, hrest⟩ =>
    ⟨hgrants, hlatched, hmask, hd, fun _ => rfl, nofun, Nat.zero_le _, hrest⟩⟩

/-- The link may move, but not out of IDLE nor into RESPONSE, and its response buffer stays (R163). -/
theorem link_keepsRanges {s : State} {l : Link} (hidle : s.link.state = .idle → l.state = .idle)
    (hindex : (s.link.state = .response → s.link.index < s.link.response.length) → l.state = .response →
      l.index < l.response.length) (hresponse : l.response = s.link.response) : KeepsRanges s { s with link := l } :=
  ⟨id, fun ⟨hgrants, hlatched, hmask, hd, hi, hr, hlen, hrest⟩ =>
    ⟨hgrants, hlatched, hmask, hd, fun h => hidle (hi h), hindex hr, hresponse ▸ hlen, hrest⟩⟩

theorem clockByte_idle {l : Link} (b : Byte) : (l.clockByte b).state = .idle ↔ l.state = .idle := by
  cases h : l.state with
  | code | response =>
    simp only [Link.clockByte, Link.clockOut, h]; split <;> simp
  | _ => simp [Link.clockByte, h]

theorem clockByte_index {l : Link} (b : Byte) (h : (l.clockByte b).state = .response) :
    (l.clockByte b).index < (l.clockByte b).response.length := by
  revert h
  unfold Link.clockByte; split
  · rename_i hl; intro h; cases hl.symm.trans h
  · dsimp only; split <;> nofun
  · rename_i hl; intro h; cases hl.symm.trans h
  · unfold Link.clockOut; dsimp only; split
    · exact fun _ => ‹_›
    · nofun
  · rename_i hl; intro h; cases hl.symm.trans h

theorem clockByte_response (l : Link) (b : Byte) : (l.clockByte b).response = l.response := by
  unfold Link.clockByte; split <;> rfl

theorem clockBytes_keepsRanges (b : Byte) (s : State) : KeepsRanges s (clockBytes [b] s) :=
  link_keepsRanges (clockByte_idle b).mpr (fun _ => clockByte_index b) (clockByte_response _ b)

/-- A link that is not IDLE is selected, so a response may stand in it (R163). -/
theorem respond_interface {s : State} (r : LinkResult) {bytes : List Byte} (h : InterfaceLaw s) (hl : s.link.state ≠ .idle)
    (hb : bytes.length ≤ 240) : InterfaceLaw (respond r bytes s) := by
  obtain ⟨hgrants, hlatched, hmask, hd, hi, -, -, hrest⟩ := h
  exact ⟨hgrants, hlatched, hmask, hd, fun hs => absurd (hi hs) hl, fun _ => Nat.zero_lt_succ _, Nat.succ_le_succ hb, hrest⟩

/-- A request whose effect keeps the ranges and the link keeps the ranges, where its reply fits the buffer. -/
theorem takeRequest_keepsRanges (check : State → LinkResult) (effect : State → State) (reply : State → List Byte) {s : State}
    (hl : s.link.state ≠ .idle) (he : KeepsRanges s (effect s)) (hk : (effect s).link = s.link)
    (hr : InterfaceLaw s → check s = .ok → (reply s).length ≤ 240) : KeepsRanges s (takeRequest check effect reply s) := by
  unfold takeRequest; split
  · exact ⟨he.config, fun h => respond_interface _ (he.interface h) (hk ▸ hl) (hr h ‹_›)⟩
  · exact ⟨id, fun h => respond_interface _ h hl (Nat.zero_le _)⟩

theorem applyDemand_keepsRanges (floor ceiling : Nat) (s : State) : KeepsRanges s (applyDemand floor ceiling s) ∧
    (applyDemand floor ceiling s).link = s.link := by
  have hdemand : KeepsRanges s { s with demand := clampDemand (classMax s .data) floor ceiling } :=
    ⟨fun ⟨hv, hp, _⟩ => ⟨hv, hp, min_le_right _ _, min_le_right _ _⟩, id⟩
  unfold applyDemand; dsimp only; split
  · have h := (trimToCeiling_byEvents { s with demand := clampDemand (classMax s .data) floor ceiling }).trans
      (freeCaughtGrowth_byEvents _)
    exact ⟨hdemand.trans h.keepsRanges, h.link⟩
  · exact ⟨hdemand, rfl⟩

theorem unlatch_keepsRanges (causes : Byte) (s : State) : KeepsRanges s (unlatch causes s) := by
  refine ⟨id, fun ⟨hgrants, hlatched, hrest⟩ => ⟨hgrants, ?_, hrest⟩⟩
  rw [unlatch, BitVec.and_assoc, BitVec.and_comm _ allCauses, ← BitVec.and_assoc, hlatched]

theorem grantEntryBytes_length (e : Option Run) : (grantEntryBytes e).length = 2 := by cases e <;> rfl

theorem lastChangeBytes_length (c : Option LastChange) : (lastChangeBytes c).length = 5 := by cases c <;> rfl

theorem mapBytes_length (s : State) (start count : Nat) : (mapBytes s start count).length = 2 * count := by
  simp [mapBytes, tileSummary, Nat.mul_comm]

theorem grantBytes_length (k : ServiceClass) (g : GrantRecord) : (grantBytes k g).length = 7 + 2 * g.entries.length := by
  simp [grantBytes, grantEntryBytes_length, lastChangeBytes_length]; omega

/-- An effect with no reply. -/
theorem takeSilent_keepsRanges (check : State → LinkResult) (effect : State → State) {s : State} (hl : s.link.state ≠ .idle)
    (he : KeepsRanges s (effect s)) (hk : (effect s).link = s.link) : KeepsRanges s (takeRequest check effect noReply s) :=
  takeRequest_keepsRanges _ _ _ hl he hk fun _ _ => Nat.zero_le _

/-- The effects that are events at the tables, followed by the engine's work. -/
theorem takeEvents_keepsRanges (check : State → LinkResult) (effect : State → State) {s : State} (hl : s.link.state ≠ .idle)
    (h : ByEvents s (effect s)) : KeepsRanges s (takeRequest check (fun s => settle (effect s)) noReply s) :=
  takeSilent_keepsRanges _ _ hl (settle_keepsRanges h.keepsRanges) ((settle_frame _).link.trans h.link)

theorem serve_keepsRanges (c : Instr) {s : State} (hl : s.link.state ≠ .idle) : KeepsRanges s (serve c s) := by
  cases c with
  | badCode code => exact ⟨id, fun h => respond_interface _ h hl (Nat.zero_le _)⟩
  | readStatus =>
    change KeepsRanges s (serveReadStatus s)
    unfold serveReadStatus
    refine takeRequest_keepsRanges _ _ _ hl (.refl s) rfl fun _ _ => ?_
    simp [statusBytes, bytes16]
  | ackAttn causes =>
    change KeepsRanges s (serveAckAttn causes s)
    unfold serveAckAttn
    exact takeSilent_keepsRanges _ _ hl (unlatch_keepsRanges causes s) rfl
  | setData floor ceiling =>
    change KeepsRanges s (serveSetData floor ceiling s)
    unfold serveSetData
    obtain ⟨h, hlink⟩ := applyDemand_keepsRanges floor.toNat ceiling.toNat s
    exact takeSilent_keepsRanges _ _ hl (settle_keepsRanges h) ((settle_frame _).link.trans hlink)
  | openProgram slot width => exact takeEvents_keepsRanges _ _ hl (openSlot_byEvents _ _ _ s)
  | closeProgram slot => exact takeEvents_keepsRanges _ _ hl (closeProgram_byEvents _ s)
  | openCall slot => exact takeEvents_keepsRanges _ _ hl (openSlot_byEvents _ _ _ s)
  | closeCall slot => exact takeEvents_keepsRanges _ _ hl (closeLine_byEvents _ s)
  | ackCallLine slot => exact takeEvents_keepsRanges _ _ hl (acknowledgeLine_byEvents _ s)
  | readGrant service =>
    change KeepsRanges s (serveReadGrant service s)
    unfold serveReadGrant
    refine takeRequest_keepsRanges _ _ _ hl (.refl s) rfl fun ⟨⟨hdata, hvideo, hvoice⟩, _⟩ _ => ?_
    split
    · rename_i k _
      rw [grantBytes_length]
      cases k with
      | data => simp [Grants.of, hdata, slotCount]
      | video => simp [Grants.of, hvideo, slotCount]
      | voice => simp [Grants.of, hvoice, slotCount]
    · exact Nat.zero_le _
  | readMap start count =>
    change KeepsRanges s (serveReadMap start count s)
    unfold serveReadMap
    refine takeRequest_keepsRanges _ _ _ hl (.refl s) rfl fun _ hok => ?_
    have hcount : start.toNat ≤ 119 ∧ 1 ≤ count.toNat ∧ count.toNat ≤ 120 := by
      by_contra h; simp [h] at hok
    rw [mapBytes_length]; omega
  | leave =>
    change KeepsRanges s (serveLeave s)
    unfold serveLeave
    exact takeSilent_keepsRanges _ _ hl (enterLeaving_keepsRanges s) rfl
  | join =>
    change KeepsRanges s (serveJoin s)
    unfold serveJoin
    exact takeSilent_keepsRanges _ _ hl (enterWarmListen_keepsRanges s) rfl
  | _ => exact .refl s

theorem clockIn_keepsRanges (b : Byte) (s : State) : KeepsRanges s (clockIn b s) := by
  have h := clockBytes_keepsRanges b s
  unfold clockIn; dsimp only; split
  · rename_i hstate
    have hl : (clockBytes [b] s).link.state ≠ .idle := fun hidle => by
      have := (clockByte_idle b).mp hidle
      simp [this] at hstate
    split
    · exact h.trans (serve_keepsRanges _ hl)
    · exact h
  · exact h

theorem transact_keepsRanges (bs : List Byte) (s : State) : KeepsRanges s (transact bs s) := by
  have hfold : ∀ l : List Byte, KeepsRanges s (l.foldl (fun u b => clockIn b u) s) := fun l =>
    foldl_frame KeepsRanges .refl .trans _ (fun s b => clockIn_keepsRanges b s) l s
  unfold transact; split
  · exact .refl s
  · split
    · exact hfold _
    · exact .refl s
  · exact hfold _

/-! ### Receptions and transmissions -/

theorem KeepsRanges.sampled (b : Bool) (s : State) : KeepsRanges s (sampleCarrier b s) := ⟨id, id⟩

theorem dropFrame_keepsRanges (s : State) : KeepsRanges s (dropFrame s) :=
  ⟨id, fun ⟨hgrants, hlatched, hmask, _, hrest⟩ => ⟨hgrants, hlatched, hmask, min_le_left _ _, hrest⟩⟩

theorem handOn_keepsRanges (f : ReceivedFrame) (s : State) : KeepsRanges s (handOn f s) := by
  unfold handOn; split
  · split
    · exact .refl s
    · exact enterFault_keepsRanges _ s
  · exact (applyFrame_byEvents f s).keepsRanges

theorem endSending_keepsRanges {s : State} {f : Frame} {c : Transceiver} (h : s.chan.endSending = some (f, c)) :
    KeepsRanges s { s with chan := c } := by
  unfold Transceiver.endSending at h; split at h <;> cases h <;> exact ⟨id, id⟩

theorem setCallLevel_keepsRanges (n : Nat) (level : Bool) (s : State) : KeepsRanges s (setCallLevel n level s) :=
  ⟨id, fun ⟨hgrants, hl, hm, hd, hi, hr, hlen, hlines, hcalls, hrest⟩ =>
    ⟨hgrants, hl, hm, hd, hi, hr, hlen, hlines, List.length_set.trans hcalls, hrest⟩⟩

/-! ### Every command and every step -/

/-- Every command keeps the ranges: the events at the tables, the changes of part state, the transceiver, the scanner and the link. -/
theorem exec_keepsRanges {c : Instr} {s t : State} (e : exec c s = .next t) : KeepsRanges s t := by
  have keep : ∀ {f : State → State}, outOfReset s f = .next t → KeepsRanges s (f s) → KeepsRanges s t := fun k hf =>
    outOfReset_keeps (P := KeepsRanges s) k (.refl s) hf
  have answered : ∀ {m : Instr} {u : State}, OnlyPlacement (arrive m s) u → KeepsRanges s u := fun h =>
    ((arrive_frame _ s).trans h).keepsRanges
  unfold exec at e
  cases c with
  | reset => exact reset_keepsRanges e
  | resetRelease =>
    cases e; split
    · exact releaseReset_keepsRanges s
    · exact .refl s
  | configReadComplete bytes =>
    refine keep e ?_; split
    · rename_i hreading
      split
      · exact acceptConfig_keepsRanges s ‹_› hreading.2
      · exact refuseConfig_keepsRanges s
    · exact .refl s
  | ageingTick =>
    refine keep e ?_; split
    · have hstamp : KeepsRanges s (stampTick s) := ⟨id, id⟩
      exact settle_keepsRanges (((hstamp.trans (agePeers_byEvents _).keepsRanges).trans (countWarmTick_keepsRanges _)).trans
        (endWarmListen_keepsRanges _))
    · exact .refl s
  | peerStale p => exact keep e (settle_keepsRanges (turnStale_byEvents p s).keepsRanges)
  | peerGone p => exact keep e (turnGone_byEvents p s).keepsRanges
  | warmListenEnd => exact keep e (settle_keepsRanges (endWarmListen_keepsRanges s))
  | announcementTimerExpiry ccCs =>
    refine keep e ?_; split
    · refine settle_keepsRanges (.trans ?_ (attemptSend_keepsRanges _))
      have hbuild := ((drawPeriod_keepsRanges s).trans (.sampled ccCs _)).trans (buildFrame_keepsRanges _)
      exact hbuild.trans ⟨id, id⟩
    · exact .refl s
  | deferralBackoffEnd ccCs =>
    refine keep e ?_; split
    · refine .trans ?_ (attemptSend_keepsRanges _)
      exact ⟨id, id⟩
    · exact .refl s
  | urgentBackoffEnd ccCs =>
    refine keep e ?_; split
    · refine settle_keepsRanges (.trans (.trans ?_ (buildFrame_keepsRanges _)) (attemptSend_keepsRanges _))
      exact ⟨id, id⟩
    · exact .refl s
  | transmissionEnd ccCs =>
    refine keep e ?_; split
    · rename_i f c hsent
      exact settleFrom_keepsRanges _ ((((endSending_keepsRanges hsent).trans (.sampled ccCs _)).trans
        (giveSentNotice_keepsRanges f _)).trans (attemptSend_keepsRanges _))
    · exact .refl s
  | drainEnd r => exact keep e (settleFrom_keepsRanges _ (endDrain_byEvents r s).keepsRanges)
  | leavingComplete => exact keep e (completeLeaving_keepsRanges s)
  | syncDetected =>
    refine keep e ?_; split
    · exact ⟨id, id⟩
    · exact .refl s
  | receptionEnd bytes =>
    refine keep e ?_; dsimp only; split
    · have hended : KeepsRanges s (setReception none (sampleCarrier false s)) := ⟨id, id⟩
      split
      · exact settle_keepsRanges (hended.trans (handOn_keepsRanges _ _))
      · exact hended.trans (dropFrame_keepsRanges _)
    · exact .refl s
  | receptionOverrun =>
    refine keep e ?_; split
    · have hended : KeepsRanges s (setReception none (sampleCarrier true s)) := ⟨id, id⟩
      exact hended.trans (dropFrame_keepsRanges _)
    · exact .refl s
  | entryCountAssembled bytes =>
    refine keep e ?_; split
    · split
      · have hended : KeepsRanges s (setReception none s) := ⟨id, id⟩
        exact hended.trans (dropFrame_keepsRanges _)
      · exact ⟨id, id⟩
    · exact .refl s
  | measSampleValid sample =>
    refine keep e ?_; split
    · split
      · exact ⟨id, id⟩
      · exact .refl s
    · exact .refl s
  | dwellEnd =>
    refine keep e ?_; split
    · split
      · exact settle_keepsRanges (endSweep_keepsRanges _ s)
      · exact settle_keepsRanges (endSpot_keepsRanges _ s)
      · exact (takeSample_keepsRanges _ _ s).trans ⟨id, id⟩
    · exact .refl s
  | noiseRecovered tile => exact keep e (settle_keepsRanges (recoverTile_keepsRanges tile s))
  | roomRequest r g w =>
    refine keep e ?_; dsimp only
    have harrive := (arrive_frame (.roomRequest r g w) s).keepsRanges
    refine settleFrom_keepsRanges _ (.trans ?_ (send_frame _ _).keepsRanges)
    split
    · exact harrive.trans (topDownTrim_byEvents _ _).keepsRanges
    · exact harrive
  | roomAnswer r g a =>
    refine keep e ?_; dsimp only; split
    · split
      · exact settle_keepsRanges (answered (takeRoomAnswer_frame _ _ _))
      · exact answered (.refl _)
    · exact answered (.refl _)
  | commit r g x =>
    refine keep e ?_; dsimp only
    have harrive := (arrive_frame (.commit r g x) s).keepsRanges
    split
    · exact settleFrom_keepsRanges _ ((((harrive.trans (takeCommit_byEvents r x _).keepsRanges).trans
        (send_frame _ _).keepsRanges).trans (commitContention_byEvents r x _).keepsRanges).trans
        (commitNoise_byEvents r x _).keepsRanges)
    · exact answered (send_frame _ _)
  | commitAnswer r g a =>
    refine keep e ?_; dsimp only; split
    · split
      · exact answered (.refl _)
      · exact settle_keepsRanges (answered (takeCommitAnswer_frame _ _ _))
    · exact answered (.refl _)
  | lendRequest b bg l lg n =>
    refine keep e ?_; dsimp only; split
    · have harrive := (arrive_frame (.lendRequest b bg l lg n) s).keepsRanges
      exact (harrive.trans (lend_byEvents b bg l lg n _).keepsRanges).trans (send_frame _ _).keepsRanges
    · exact answered (send_frame _ _)
  | lendAnswer r g a =>
    refine keep e ?_; dsimp only; split
    · split
      · exact settle_keepsRanges (answered (setActive_frame _ _))
      · exact settle_keepsRanges (answered (reenter_frame _ _))
    · exact answered (.refl _)
  | placementOutcome r g o =>
    refine keep e ?_; dsimp only
    have harrive := (arrive_frame (.placementOutcome r g o) s).keepsRanges
    split
    · exact harrive.trans (applyOutcome_byEvents r _).keepsRanges
    · exact harrive
  | retryExpiry r =>
    refine keep e ?_; split
    · exact settle_keepsRanges (expireRetry_byEvents r s).keepsRanges
    · exact .refl s
  | dataGrowthExpiry =>
    refine keep e ?_; split
    · refine settle_keepsRanges (.trans ?_ (growthComparison_byEvents _).keepsRanges)
      exact ⟨id, id⟩
    · exact .refl s
  | linkSelect => exact linkSelect_keepsRanges e
  | linkDeselect => exact linkDeselect_keepsRanges e
  | linkTimeout =>
    refine keep e ?_; split
    · rename_i hmeasured
      have hspent : KeepsRanges s { s with link := { s.link with state := .spent, timedOut := true } } :=
        link_keepsRanges (fun h => absurd h hmeasured.2.1) (fun _ => nofun) rfl
      exact hspent.trans (latch_keepsRanges .link _)
    · exact .refl s
  | badCode code =>
    refine keep e ?_; split
    · exact .refl s
    · exact transact_keepsRanges _ s
  | readStatus | ackAttn | setData | openProgram | closeProgram | openCall | closeCall | ackCallLine | readGrant | readMap
  | leave | join => exact keep e (transact_keepsRanges _ s)
  | callLineAssert line =>
    have hlevel := setCallLevel_keepsRanges line true s
    cases e; dsimp only; split
    · exact settle_keepsRanges (hlevel.trans (takeEdge_byEvents line _).keepsRanges)
    · exact hlevel
  | callLineDeassert line =>
    have hlevel := setCallLevel_keepsRanges line false s
    cases e; dsimp only; split
    · exact settle_keepsRanges (hlevel.trans (releaseLine_byEvents line _).keepsRanges)
    · exact hlevel
  | responseByteClockedOut =>
    refine keep e ?_; split
    · exact clockBytes_keepsRanges 0 s
    · exact .refl s

/-- The passing of time touches timers alone. -/
theorem idle_keepsRanges (s : State) : KeepsRanges s (idle s) := by
  unfold idle; split
  · exact ⟨id, id⟩
  · exact ⟨id, id⟩

/-- Settles O58: every command by `exec_keepsRanges`, and the passing of time. -/
theorem stepKeepsConfiguration : Obligations.StepKeepsConfiguration := by
  have hstep : ∀ {s t : State}, step s = .next t → KeepsRanges s t := by
    intro s t e
    unfold step at e
    split at e
    · rename_i rest _
      have h := exec_keepsRanges (s := { s with pending := rest }) e
      exact ⟨h.config, h.interface⟩
    · cases e; exact idle_keepsRanges s
  exact ⟨fun s t h e => (hstep e).config h, fun s t h e => (hstep e).interface h⟩

end Sys2Proof.Machine

/-! The Peer Table as a list (R55): its records stand by ascending station id, and what a look-up finds after a record has been put
into the table or taken out of it. -/

namespace Sys2Proof.Machine

/-! ### Look-ups -/

/-- The records stand by ascending station id (assumption log 20). -/
abbrev ByStation (l : List PeerRecord) : Prop := l.Pairwise (fun a b => a.station < b.station)

/-- The record of a station in a table. -/
abbrev recordOf (p : Nat) (l : List PeerRecord) : Option PeerRecord := l.find? (fun x => x.station == p)

theorem peer_eq_recordOf (s : State) (p : Nat) : peer s p = recordOf p s.peers := rfl

theorem recordOf_cons (p : Nat) (x : PeerRecord) (l : List PeerRecord) :
    recordOf p (x :: l) = if x.station = p then some x else recordOf p l := by
  split
  · rename_i h; exact List.find?_cons_of_pos (by simpa using h)
  · rename_i h; exact List.find?_cons_of_neg (by simpa using h)

theorem recordOf_station {p : Nat} {x : PeerRecord} {l : List PeerRecord} (h : recordOf p l = some x) : x.station = p := by
  simpa using List.find?_some h

theorem recordOf_mem {p : Nat} {x : PeerRecord} {l : List PeerRecord} (h : recordOf p l = some x) : x ∈ l :=
  List.mem_of_find?_eq_some h

theorem recordOf_eq_none {p : Nat} {l : List PeerRecord} : recordOf p l = none ↔ ∀ x ∈ l, x.station ≠ p := by
  simp [recordOf]

theorem ByStation.station_inj {l : List PeerRecord} (h : ByStation l) {x y : PeerRecord} (hx : x ∈ l) (hy : y ∈ l)
    (k : x.station = y.station) : x = y := by
  have hnodup : (l.map (·.station)).Nodup := (List.pairwise_map.mpr h).imp Nat.ne_of_lt
  exact List.inj_on_of_nodup_map hnodup hx hy k

theorem ByStation.recordOf_of_mem {l : List PeerRecord} (h : ByStation l) {x : PeerRecord} (hx : x ∈ l) :
    recordOf x.station l = some x := by
  cases hf : recordOf x.station l with
  | none => exact absurd rfl (recordOf_eq_none.mp hf x hx)
  | some y => rw [h.station_inj (recordOf_mem hf) hx (recordOf_station hf)]

/-! ### A record is put into the table -/

theorem recordOf_putPeer_self (x : PeerRecord) (l : List PeerRecord) : recordOf x.station (putPeer x l) = some x := by
  induction l with
  | nil => simp [putPeer]
  | cons y t ih =>
    unfold putPeer; split
    · rename_i hlt; rw [recordOf_cons, if_neg (Nat.ne_of_lt hlt), ih]
    · split <;> rw [recordOf_cons, if_pos rfl]

theorem recordOf_putPeer_ne {p : Nat} {x : PeerRecord} (h : p ≠ x.station) (l : List PeerRecord) :
    recordOf p (putPeer x l) = recordOf p l := by
  induction l with
  | nil => simp [putPeer, h.symm]
  | cons y t ih =>
    unfold putPeer; split
    · rw [recordOf_cons, ih, recordOf_cons]
    · split
      · rename_i hy; rw [recordOf_cons, if_neg h.symm, recordOf_cons, hy, if_neg h.symm]
      · rw [recordOf_cons, if_neg h.symm]

theorem mem_putPeer {x y : PeerRecord} {l : List PeerRecord} (h : ByStation l) :
    y ∈ putPeer x l ↔ y = x ∨ y ∈ l ∧ y.station ≠ x.station := by
  induction l with
  | nil => simp [putPeer]
  | cons z t ih =>
    obtain ⟨hz, ht⟩ := List.pairwise_cons.mp h
    have htail : z.station = x.station ∨ x.station < z.station → y ∈ t → y.station ≠ x.station := fun k hy => by
      have := hz y hy; omega
    unfold putPeer; split
    · rename_i hlt
      have hne : y = z → y.station ≠ x.station := by rintro rfl; omega
      rw [List.mem_cons, ih ht, List.mem_cons]; tauto
    · split
      · rename_i heq
        have hne : y = z → y.station = x.station := by rintro rfl; exact heq
        rw [List.mem_cons, List.mem_cons]
        have := htail (.inl heq); tauto
      · rename_i hlt hne
        have hgt : x.station < z.station := by omega
        have hy : y = z → y.station ≠ x.station := by rintro rfl; exact hne
        rw [List.mem_cons, List.mem_cons]
        have := htail (.inr hgt); tauto

theorem ByStation.putPeer {l : List PeerRecord} (h : ByStation l) (x : PeerRecord) : ByStation (putPeer x l) := by
  induction l with
  | nil => exact List.pairwise_singleton _ _
  | cons z t ih =>
    obtain ⟨hz, ht⟩ := List.pairwise_cons.mp h
    unfold Machine.putPeer; split
    · rename_i hlt
      refine List.pairwise_cons.mpr ⟨fun y hy => ?_, ih ht⟩
      rcases (mem_putPeer ht).mp hy with rfl | ⟨hy, -⟩
      · exact hlt
      · exact hz y hy
    · split
      · rename_i heq
        exact List.pairwise_cons.mpr ⟨fun y hy => heq ▸ hz y hy, ht⟩
      · rename_i hlt hne
        have hgt : x.station < z.station := by omega
        refine List.pairwise_cons.mpr ⟨fun y hy => ?_, h⟩
        rcases List.mem_cons.mp hy with rfl | hy
        · exact hgt
        · exact hgt.trans (hz y hy)

/-- A record takes the place of the one of its station. -/
theorem putPeer_replaces {front back : List PeerRecord} {x y : PeerRecord} (hfront : ∀ z ∈ front, z.station < y.station)
    (h : x.station = y.station) : putPeer y (front ++ x :: back) = front ++ y :: back := by
  induction front with
  | nil => simp [putPeer, h]
  | cons z front ih =>
    rw [List.cons_append, putPeer, if_pos (hfront z (.head _)), ih fun w hw => hfront w (.tail _ hw), List.cons_append]

theorem length_putPeer_new {x : PeerRecord} {l : List PeerRecord} (h : recordOf x.station l = none) :
    (putPeer x l).length = l.length + 1 := by
  induction l with
  | nil => rfl
  | cons z t ih =>
    have hz : z.station ≠ x.station := recordOf_eq_none.mp h z (.head _)
    have ht : recordOf x.station t = none := recordOf_eq_none.mpr fun y hy => recordOf_eq_none.mp h y (.tail _ hy)
    unfold putPeer; split
    · rw [List.length_cons, ih ht, List.length_cons]
    · rfl

theorem length_putPeer_known {x : PeerRecord} {l : List PeerRecord} (h : ByStation l) (k : (recordOf x.station l).isSome) :
    (putPeer x l).length = l.length := by
  obtain ⟨y, hy⟩ := Option.isSome_iff_exists.mp k
  obtain ⟨front, back, rfl⟩ := List.append_of_mem (recordOf_mem hy)
  have hs := recordOf_station hy
  have hfront : ∀ z ∈ front, z.station < x.station := fun z hz => by
    rw [← hs]; exact (List.pairwise_append.mp h).2.2 z hz y (.head _)
  rw [putPeer_replaces hfront hs]; simp

/-! ### A record is taken out of the table -/

theorem mem_withoutPeer {p : Nat} {x : PeerRecord} {l : List PeerRecord} :
    x ∈ withoutPeer p l ↔ x ∈ l ∧ x.station ≠ p := by simp [withoutPeer]

theorem ByStation.withoutPeer {l : List PeerRecord} (h : ByStation l) (p : Nat) : ByStation (withoutPeer p l) := h.filter _

theorem recordOf_withoutPeer_self (p : Nat) (l : List PeerRecord) : recordOf p (withoutPeer p l) = none :=
  recordOf_eq_none.mpr fun _ hx => (mem_withoutPeer.mp hx).2

theorem withoutPeer_absent {p : Nat} {l : List PeerRecord} (h : recordOf p l = none) : withoutPeer p l = l :=
  List.filter_eq_self.mpr fun x hx => by simpa using recordOf_eq_none.mp h x hx

theorem withoutPeer_split {front back : List PeerRecord} {x : PeerRecord} (h : ByStation (front ++ x :: back)) :
    withoutPeer x.station (front ++ x :: back) = front ++ back := by
  obtain ⟨-, hback, hfront⟩ := List.pairwise_append.mp h
  have hf : withoutPeer x.station front = front := withoutPeer_absent (recordOf_eq_none.mpr fun z hz =>
    Nat.ne_of_lt (hfront z hz x (.head _)))
  have hb : withoutPeer x.station back = back := withoutPeer_absent (recordOf_eq_none.mpr fun z hz =>
    Nat.ne_of_gt ((List.pairwise_cons.mp hback).1 z hz))
  rw [withoutPeer, List.filter_append, List.filter_cons_of_neg (by simp)]
  exact congrArg₂ _ hf hb

theorem length_withoutPeer {x : PeerRecord} {l : List PeerRecord} (h : ByStation l) (k : x ∈ l) :
    (withoutPeer x.station l).length + 1 = l.length := by
  obtain ⟨front, back, rfl⟩ := List.append_of_mem k
  rw [withoutPeer_split h]; simp [Nat.add_assoc]

end Sys2Proof.Machine

/-! The claimant lists under a row of visits (R7, R8, R60, R61, R65): a visit changes one tile's list, and a tile's list after the row
is its list before, changed once for every visit to it. -/

namespace Sys2Proof.Machine

/-! ### Visits -/

/-- A change of the claimant lists of some tiles, one tile after another. -/
def visitTiles (f : List ClaimantEntry → List ClaimantEntry) (l : List Nat) (tiles : List TileRecord) : List TileRecord :=
  l.foldl (fun ts t => changeClaimants t f ts) tiles

/-- The tile record of a tile in a band. -/
abbrev tileOf (tiles : List TileRecord) (n : Nat) : TileRecord := tiles.getD n TileRecord.reset

theorem tile_eq_tileOf (s : State) (n : Nat) : s.tile n = tileOf s.tiles n := rfl

theorem tileOf_beyond {tiles : List TileRecord} {n : Nat} (h : tiles.length ≤ n) : tileOf tiles n = TileRecord.reset :=
  List.getD_eq_default _ _ h

@[simp] theorem changeClaimants_length (t : Nat) (f : List ClaimantEntry → List ClaimantEntry) (tiles : List TileRecord) :
    (changeClaimants t f tiles).length = tiles.length := List.length_modify _ _ _

@[simp] theorem visitTiles_length (f : List ClaimantEntry → List ClaimantEntry) (l : List Nat) :
    ∀ tiles, (visitTiles f l tiles).length = tiles.length := by
  induction l with
  | nil => exact fun _ => rfl
  | cons t l ih => exact fun tiles => (ih _).trans (changeClaimants_length t f tiles)

theorem tileOf_changeClaimants {f : List ClaimantEntry → List ClaimantEntry} {tiles : List TileRecord} {n : Nat} (t : Nat)
    (h : n < tiles.length) : tileOf (changeClaimants t f tiles) n =
      if t = n then { tileOf tiles n with claimants := f (tileOf tiles n).claimants } else tileOf tiles n := by
  rw [tileOf, tileOf, List.getD_eq_getElem _ _ h, List.getD_eq_getElem _ _ (by simpa using h)]
  simp only [changeClaimants, List.getElem_modify]

theorem tileOf_visitTiles {f : List ClaimantEntry → List ClaimantEntry} {n : Nat} (l : List Nat) :
    ∀ tiles : List TileRecord, n < tiles.length → tileOf (visitTiles f l tiles) n =
      { tileOf tiles n with claimants := f^[l.count n] (tileOf tiles n).claimants } := by
  induction l with
  | nil => exact fun _ _ => rfl
  | cons t l ih =>
    intro tiles h
    rw [show visitTiles f (t :: l) tiles = visitTiles f l (changeClaimants t f tiles) from rfl, ih _ (by simpa using h),
      tileOf_changeClaimants t h, List.count_cons]
    by_cases k : t = n
    · simp [k]
    · simp [k]

/-- No more comes of several visits to a tile than of one where the change is idempotent. -/
theorem tileOf_visitTiles_idem {f : List ClaimantEntry → List ClaimantEntry} (hf : ∀ c, f (f c) = f c) {n : Nat} (l : List Nat)
    {tiles : List TileRecord} (h : n < tiles.length) : tileOf (visitTiles f l tiles) n =
      if n ∈ l then { tileOf tiles n with claimants := f (tileOf tiles n).claimants } else tileOf tiles n := by
  rw [tileOf_visitTiles l tiles h]; split
  · rename_i hn
    obtain ⟨k, hk⟩ := Nat.exists_eq_add_one_of_ne_zero (List.count_pos_iff.mpr hn).ne'
    have hfix : f^[k] (f (tileOf tiles n).claimants) = f (tileOf tiles n).claimants := Function.iterate_fixed (hf _) k
    rw [hk, Function.iterate_succ_apply, hfix]
  · rename_i hn; rw [List.count_eq_zero_of_not_mem hn]; rfl

/-- Where no tile is visited twice, a visited list is changed once. -/
theorem tileOf_visitTiles_nodup {f : List ClaimantEntry → List ClaimantEntry} {n : Nat} {l : List Nat} (hl : l.Nodup)
    {tiles : List TileRecord} (h : n < tiles.length) : tileOf (visitTiles f l tiles) n =
      if n ∈ l then { tileOf tiles n with claimants := f (tileOf tiles n).claimants } else tileOf tiles n := by
  rw [tileOf_visitTiles l tiles h, hl.count]; split <;> rfl

/-! ### Removal -/

theorem mem_removeStation {p : Nat} {e : ClaimantEntry} {l : List ClaimantEntry} :
    e ∈ removeStation p l ↔ e ∈ l ∧ e.station ≠ p := by simp [removeStation]

theorem removeStation_idem (p : Nat) (l : List ClaimantEntry) : removeStation p (removeStation p l) = removeStation p l :=
  List.filter_eq_self.mpr fun _ he => by simpa using (mem_removeStation.mp he).2

theorem removeStation_of_absent {p : Nat} {l : List ClaimantEntry} (h : ∀ e ∈ l, e.station ≠ p) : removeStation p l = l :=
  List.filter_eq_self.mpr fun e he => by simpa using h e he

theorem mem_tilesOf {runs : List HeardRun} {n : Nat} :
    n ∈ runs.flatMap (fun h => runTiles h.run) ↔ runs.any (fun h => runHas h.run n) = true := by
  simp [mem_runTiles]

theorem removeClaims_length (p : Nat) (runs : List HeardRun) (tiles : List TileRecord) :
    (removeClaims p runs tiles).length = tiles.length := visitTiles_length _ _ _

/-- The removal of a station's entries over some runs (R7, R60), tile by tile. -/
theorem tileOf_removeClaims (p : Nat) (runs : List HeardRun) (tiles : List TileRecord) (n : Nat) :
    tileOf (removeClaims p runs tiles) n = if runs.any (fun h => runHas h.run n) then
      { tileOf tiles n with claimants := removeStation p (tileOf tiles n).claimants } else tileOf tiles n := by
  by_cases h : n < tiles.length
  · rw [show removeClaims p runs tiles = visitTiles (removeStation p) (runs.flatMap fun h => runTiles h.run) tiles from rfl,
      tileOf_visitTiles_idem (removeStation_idem p) _ h]
    simp only [mem_tilesOf]
  · rw [tileOf_beyond (by rw [removeClaims_length]; omega), tileOf_beyond (by omega)]
    split <;> rfl

/-! ### Weakening -/

/-- The entry with the effective phase that a change to STALE gives it (R8). -/
abbrev ClaimantEntry.weakened (e : ClaimantEntry) : ClaimantEntry := { e with effective := .tentative }

theorem weakenable_eq_some {p : Nat} {e : ClaimantEntry} {l : List ClaimantEntry} (h : weakenable p l = some e) :
    e ∈ l ∧ e.station = p ∧ e.announced = .held := by
  have hp := List.find?_some h
  simp only [Bool.and_eq_true, beq_iff_eq] at hp
  exact ⟨List.mem_of_find?_eq_some h, hp.1.1, hp.1.2⟩

theorem weakenable_eq_none {p : Nat} {l : List ClaimantEntry} :
    weakenable p l = none ↔ ∀ e ∈ l, e.station = p → e.announced = .held → e.effective = .tentative := by
  have hne : ∀ x : ClaimPhase, x ≠ .held ↔ x = .tentative := by intro x; cases x <;> simp
  simp [weakenable, ← hne]

theorem weakenEntry_of_none {p : Nat} {l : List ClaimantEntry} (h : weakenable p l = none) : weakenEntry p l = l := by
  rw [weakenEntry, h]

theorem weakenEntry_of_some {p : Nat} {e : ClaimantEntry} {l : List ClaimantEntry} (h : weakenable p l = some e) :
    (weakenEntry p l).Perm (e.weakened :: removeStation p l) := by
  rw [weakenEntry, h]; exact placeEntry_perm _ _

/-- After the change every entry of the station that was announced HELD is effective TENTATIVE (R8). -/
theorem weakenable_weakenEntry (p : Nat) (l : List ClaimantEntry) : weakenable p (weakenEntry p l) = none := by
  cases h : weakenable p l with
  | none => rwa [weakenEntry_of_none h]
  | some e =>
    refine weakenable_eq_none.mpr fun x hx hp _ => ?_
    rcases List.mem_cons.mp ((weakenEntry_of_some h).subset hx) with rfl | hx
    · rfl
    · exact absurd hp (mem_removeStation.mp hx).2

theorem weakenEntry_idem (p : Nat) (l : List ClaimantEntry) : weakenEntry p (weakenEntry p l) = weakenEntry p l :=
  weakenEntry_of_none (weakenable_weakenEntry p l)

theorem weakenEntry_length_le (p : Nat) (l : List ClaimantEntry) : (weakenEntry p l).length ≤ l.length := by
  cases h : weakenable p l with
  | none => rw [weakenEntry_of_none h]
  | some e =>
    obtain ⟨he, rfl, -⟩ := weakenable_eq_some h
    rw [(weakenEntry_of_some h).length_eq]; exact removeStation_length he

/-- The change brings in no entry but a weakened one of the station. -/
theorem mem_weakenEntry {p : Nat} {x : ClaimantEntry} {l : List ClaimantEntry} (h : x ∈ weakenEntry p l) :
    x ∈ l ∨ ∃ e ∈ l, e.station = p ∧ x = e.weakened := by
  cases hw : weakenable p l with
  | none => rw [weakenEntry_of_none hw] at h; exact .inl h
  | some e =>
    obtain ⟨he, hp, -⟩ := weakenable_eq_some hw
    rcases List.mem_cons.mp ((weakenEntry_of_some hw).subset h) with rfl | hx
    · exact .inr ⟨e, he, hp, rfl⟩
    · exact .inl (mem_removeStation.mp hx).1

/-- In a list of distinct stations the change replaces the station's entry alone, and reorders (R8). -/
theorem weakenEntry_perm {p : Nat} {l : List ClaimantEntry} (h : l.Pairwise (fun a b => a.station ≠ b.station)) :
    (weakenEntry p l).Perm (l.map fun e => if e.station = p ∧ e.announced = .held then e.weakened else e) := by
  cases hw : weakenable p l with
  | none =>
    have hfix : ∀ e ∈ l, (if e.station = p ∧ e.announced = .held then e.weakened else e) = e := fun e he => by
      split
      · rename_i k; rw [ClaimantEntry.weakened, ← weakenable_eq_none.mp hw e he k.1 k.2]
      · rfl
    rw [weakenEntry_of_none hw, List.map_congr_left hfix, List.map_id']
  | some e =>
    obtain ⟨he, rfl, hheld⟩ := weakenable_eq_some hw
    obtain ⟨front, back, rfl⟩ := List.append_of_mem he
    obtain ⟨-, hback, hfront⟩ := List.pairwise_append.mp h
    have hf : ∀ y ∈ front, y.station ≠ e.station := fun y hy => hfront y hy e (.head _)
    have hb : ∀ y ∈ back, y.station ≠ e.station := fun y hy => ((List.pairwise_cons.mp hback).1 y hy).symm
    have hid : ∀ m : List ClaimantEntry, (∀ y ∈ m, y.station ≠ e.station) →
        m.map (fun y => if y.station = e.station ∧ y.announced = .held then y.weakened else y) = m := fun m hm => by
      rw [List.map_congr_left fun y hy => if_neg fun k => hm y hy k.1, List.map_id']
    have hrest : removeStation e.station (front ++ e :: back) = front ++ back := by
      rw [removeStation, List.filter_append, List.filter_cons_of_neg (by simp)]
      exact congrArg₂ _ (removeStation_of_absent hf) (removeStation_of_absent hb)
    refine (weakenEntry_of_some hw).trans ?_
    rw [hrest, List.map_append, List.map_cons, hid front hf, hid back hb, if_pos ⟨rfl, hheld⟩]
    exact List.perm_middle.symm

end Sys2Proof.Machine

/-! What the operations of the Peer Table do to its records and to the claimant lists (R57 to R66): one equation for each, and from them
what keeps the map in agreement with the table (R72). -/

namespace Sys2Proof.Machine

/-! ### The records and lists that an operation leaves -/

theorem contend_peers (t : Nat) (e : ClaimantEntry) (s : State) : (contend t e s).peers = s.peers := (contend_frame t e s).peers

theorem contend_tiles (t : Nat) (e : ClaimantEntry) (s : State) : (contend t e s).tiles = s.tiles := (contend_frame t e s).tiles

theorem weakenOn_peers (p : Nat) (s : State) (t : Nat) : (weakenOn p s t).peers = s.peers := by
  unfold weakenOn; split
  · exact contend_peers _ _ _
  · rfl

theorem changeClaimants_of_fixed {f : List ClaimantEntry → List ClaimantEntry} {tiles : List TileRecord} {t : Nat}
    (h : f (tileOf tiles t).claimants = (tileOf tiles t).claimants) : changeClaimants t f tiles = tiles := by
  refine List.ext_getElem (changeClaimants_length t f tiles) fun n h₁ h₂ => ?_
  have hn := tileOf_changeClaimants (f := f) t h₂
  rw [tileOf, tileOf, List.getD_eq_getElem _ _ h₁, List.getD_eq_getElem _ _ h₂] at hn
  rw [hn]; split
  · rename_i k; subst k
    rw [tileOf, List.getD_eq_getElem _ _ h₂] at h; rw [h]
  · rfl

theorem weakenOn_tiles (p : Nat) (s : State) (t : Nat) :
    (weakenOn p s t).tiles = changeClaimants t (weakenEntry p) s.tiles := by
  unfold weakenOn; split
  · exact contend_tiles _ _ _
  · rename_i h; exact (changeClaimants_of_fixed (weakenEntry_of_none h)).symm

theorem weakenAll_peers (p : Nat) (l : List Nat) : ∀ s : State, (l.foldl (weakenOn p) s).peers = s.peers := by
  induction l with
  | nil => exact fun _ => rfl
  | cons t l ih => exact fun s => (ih _).trans (weakenOn_peers p s t)

theorem weakenAll_tiles (p : Nat) (l : List Nat) :
    ∀ s : State, (l.foldl (weakenOn p) s).tiles = visitTiles (weakenEntry p) l s.tiles := by
  induction l with
  | nil => exact fun _ => rfl
  | cons t l ih =>
    intro s
    rw [List.foldl_cons, ih, weakenOn_tiles]; rfl

theorem presentEntry_peers (e : ClaimantEntry) (s : State) (t : Nat) : (presentEntry e s t).peers = s.peers := by
  unfold presentEntry; split
  · rfl
  · exact contend_peers _ _ _

theorem presentEntry_ownId (e : ClaimantEntry) (s : State) (t : Nat) : ownId (presentEntry e s t) = ownId s := by
  rw [ownId, (presentEntry_frame e s t).loader]; rfl

theorem presentEntry_tiles {e : ClaimantEntry} {s : State} (h : ownId s ≠ some e.station) (t : Nat) :
    (presentEntry e s t).tiles = changeClaimants t (insertEntry e) s.tiles := by
  unfold presentEntry; rw [if_neg h]; exact contend_tiles _ _ _

theorem presentAll_tiles {e : ClaimantEntry} (l : List Nat) : ∀ s : State, ownId s ≠ some e.station →
    (l.foldl (presentEntry e) s).tiles = visitTiles (insertEntry e) l s.tiles := by
  induction l with
  | nil => exact fun _ _ => rfl
  | cons t l ih =>
    intro s h
    rw [List.foldl_cons, ih _ (by rwa [presentEntry_ownId]), presentEntry_tiles h]; rfl

theorem insertRun_peers (p : Nat) (s : State) (h : HeardRun) : (insertRun p s h).peers = s.peers := by
  unfold insertRun
  generalize runTiles h.run = l
  induction l generalizing s with
  | nil => rfl
  | cons t l ih => exact (ih _).trans (presentEntry_peers _ s t)

theorem insertRun_frame (p : Nat) (s : State) (h : HeardRun) : OnlyPeers s (insertRun p s h) :=
  foldl_frame OnlyPeers .refl .trans _ (presentEntry_frame _) _ s

theorem insertRun_tiles {p : Nat} {s : State} (h : ownId s ≠ some p) (x : HeardRun) :
    (insertRun p s x).tiles = visitTiles (insertEntry (entryOf p x)) (runTiles x.run) s.tiles := presentAll_tiles _ s h

theorem runTiles_nodup (x : Run) : (runTiles x).Nodup := List.nodup_range'

/-- The claimant list of tile `n` after the runs of a frame have been inserted, in frame order (R61). -/
def insertedList (p : Nat) (new : List HeardRun) (n : Nat) (l : List ClaimantEntry) : List ClaimantEntry :=
  (new.filter (fun h => runHas h.run n)).foldl (fun l h => insertEntry (entryOf p h) l) l

theorem insertRuns_peers (p : Nat) (new : List HeardRun) : ∀ s : State, (new.foldl (insertRun p) s).peers = s.peers := by
  induction new with
  | nil => exact fun _ => rfl
  | cons h new ih => exact fun s => (ih _).trans (insertRun_peers p s h)

theorem insertRuns_tiles {p : Nat} (new : List HeardRun) : ∀ s : State, ownId s ≠ some p →
    (new.foldl (insertRun p) s).tiles.length = s.tiles.length ∧ ∀ n < s.tiles.length,
      ((new.foldl (insertRun p) s).tile n).claimants = insertedList p new n (s.tile n).claimants := by
  induction new with
  | nil => exact fun _ _ => ⟨rfl, fun _ _ => rfl⟩
  | cons h new ih =>
    intro s hs
    have hown : ownId (insertRun p s h) ≠ some p := by rwa [ownId, (insertRun_frame p s h).loader]
    have htiles := insertRun_tiles hs h
    have hlen : (insertRun p s h).tiles.length = s.tiles.length := by rw [htiles, visitTiles_length]
    obtain ⟨ihlen, ihtile⟩ := ih _ hown
    refine ⟨ihlen.trans hlen, fun n hn => ?_⟩
    have htile : ((insertRun p s h).tile n).claimants = if runHas h.run n then
        insertEntry (entryOf p h) (s.tile n).claimants else (s.tile n).claimants := by
      rw [tile_eq_tileOf, htiles, tileOf_visitTiles_nodup (runTiles_nodup _) hn]
      simp only [mem_runTiles]
      split <;> rfl
    rw [List.foldl_cons, ihtile n (hlen.symm ▸ hn), htile, insertedList, insertedList, List.filter_cons]
    split <;> rfl

theorem replaceClaims_peers (p : Nat) (old new : List HeardRun) (s : State) :
    (replaceClaims p old new s).peers = putPeer ⟨p, .fresh, 0, new⟩ s.peers := insertRuns_peers p new _

theorem replaceClaims_tiles {p : Nat} {s : State} (old new : List HeardRun) (h : ownId s ≠ some p) :
    (replaceClaims p old new s).tiles.length = s.tiles.length ∧ ∀ n < s.tiles.length,
      ((replaceClaims p old new s).tile n).claimants =
        insertedList p new n (tileOf (removeClaims p old s.tiles) n).claimants := by
  have k := insertRuns_tiles new { s with
    tiles := removeClaims p old s.tiles, peers := putPeer ⟨p, .fresh, 0, new⟩ s.peers } h
  simp only [removeClaims_length] at k
  exact k

theorem mem_insertEntry {e x : ClaimantEntry} {l : List ClaimantEntry} (h : x ∈ insertEntry e l) : x = e ∨ x ∈ l := by
  unfold insertEntry at h; split at h
  · rename_i old hf
    rcases List.mem_cons.mp ((placeEntry_perm _ _).subset h) with rfl | hx
    · split
      · exact .inr (List.mem_of_find?_eq_some hf)
      · exact .inl rfl
    · exact .inr (mem_removeStation.mp hx).1
  · exact List.mem_cons.mp ((placeEntry_perm _ _).subset (List.mem_of_mem_take h))

theorem mem_insertEntries {p : Nat} {x : ClaimantEntry} (ys : List HeardRun) : ∀ l : List ClaimantEntry,
    x ∈ ys.foldl (fun l h => insertEntry (entryOf p h) l) l → x ∈ l ∨ ∃ y ∈ ys, x = entryOf p y := by
  induction ys with
  | nil => exact fun _ hx => .inl hx
  | cons y ys ih =>
    intro l hx
    rcases ih _ hx with hx | ⟨z, hz, rfl⟩
    · rcases mem_insertEntry hx with rfl | hx
      · exact .inr ⟨y, .head _, rfl⟩
      · exact .inl hx
    · exact .inr ⟨z, .tail _ hz, rfl⟩

/-- The insertion of a frame's runs brings in no entry but those of its runs on the tile. -/
theorem mem_insertedList {p n : Nat} {x : ClaimantEntry} {new : List HeardRun} {l : List ClaimantEntry}
    (h : x ∈ insertedList p new n l) : x ∈ l ∨ ∃ y ∈ new, runHas y.run n = true ∧ x = entryOf p y := by
  rcases mem_insertEntries _ l h with hx | ⟨y, hy, rfl⟩
  · exact .inl hx
  · obtain ⟨hmem, hcov⟩ := List.mem_filter.mp hy
    exact .inr ⟨y, hmem, hcov, rfl⟩

/-! ### Agreement -/

/-- The records stand by station, and every entry on the map agrees with the record of its station (R72). -/
abbrev Agreed (s : State) : Prop := ByStation s.peers ∧ ∀ n, ∀ e ∈ (s.tile n).claimants, EntryAgrees s.peers n e

theorem agreementLaw_iff (s : State) : AgreementLaw s ↔ PeerLaw s ∧ Agreed s := by
  refine ⟨fun h => ⟨h.1, h.1.2.1, fun n e he => ?_⟩, fun h => ⟨h.1, fun n _ => h.2.2 n⟩⟩
  by_cases hn : n < s.tiles.length
  · exact h.2 n hn e he
  · rw [tile_eq_tileOf, tileOf_beyond (by omega)] at he; cases he

theorem Agreed.congr {s t : State} (h : Agreed s) (hp : t.peers = s.peers) (ht : t.tiles = s.tiles) : Agreed t := by
  refine ⟨hp ▸ h.1, fun n e he => ?_⟩
  rw [hp]; rw [State.tile, ht] at he; exact h.2 n e he

/-- Agreement speaks of the station's own record alone. -/
theorem entryAgrees_mono {l l' : List PeerRecord} {n : Nat} {e : ClaimantEntry} (h : EntryAgrees l n e)
    (k : ∀ x ∈ l, x.station = e.station → x ∈ l') : EntryAgrees l' n e := by
  obtain ⟨x, hx, hstation, hrest⟩ := h
  exact ⟨x, k x hx hstation, hstation, hrest⟩

/-- An entry agrees with the one record of its station. -/
theorem Agreed.entry {s : State} (h : Agreed s) {x : PeerRecord} (hx : peer s x.station = some x) {n : Nat} {e : ClaimantEntry}
    (he : e ∈ (s.tile n).claimants) (hp : e.station = x.station) :
    (∃ y ∈ x.runs, runHas y.run n = true ∧ y.cls = e.cls ∧ y.phase = e.announced) ∧
      e.effective = if x.state = .stale then .tentative else e.announced := by
  obtain ⟨z, hz, hstation, hagrees⟩ := h.2 n e he
  rwa [h.1.station_inj hz (recordOf_mem hx) (hstation.trans hp)] at hagrees

/-- The runs that a station's record last announced; none without a record. -/
def heardRuns (p : Nat) (s : State) : List HeardRun :=
  match peer s p with
  | some x => x.runs
  | none => []

theorem heardRuns_of_peer {p : Nat} {s : State} {x : PeerRecord} (h : peer s p = some x) : heardRuns p s = x.runs := by
  rw [heardRuns, h]

/-- The removal over a station's last-heard runs leaves no entry of it, because every one came from them (R60, R72). -/
theorem Agreed.cleared {s : State} (h : Agreed s) (p n : Nat) :
    (tileOf (removeClaims p (heardRuns p s) s.tiles) n).claimants = removeStation p (s.tile n).claimants := by
  rw [tileOf_removeClaims]; split
  · rfl
  · rename_i hruns
    refine (removeStation_of_absent fun e he hp => hruns ?_).symm
    obtain ⟨z, hz, hstation, ⟨y, hy, hcov, -⟩, -⟩ := h.2 n e he
    have hz' : peer s p = some z := by rw [← hp, ← hstation]; exact h.1.recordOf_of_mem hz
    rw [heardRuns_of_peer hz']
    exact List.any_eq_true.mpr ⟨y, hy, hcov⟩

theorem deletePeer_eq {p : Nat} {s : State} {x : PeerRecord} (h : peer s p = some x) :
    deletePeer x s = { s with tiles := removeClaims p (heardRuns p s) s.tiles, peers := withoutPeer p s.peers } := by
  rw [heardRuns_of_peer h, deletePeer, recordOf_station h]

/-- A deletion takes away every entry of the station and no other (R60, R63, R66). -/
theorem Agreed.deletePeer_claimants {p : Nat} {s : State} {x : PeerRecord} (h : Agreed s) (hx : peer s p = some x) (n : Nat) :
    ((deletePeer x s).tile n).claimants = removeStation p (s.tile n).claimants := by
  rw [deletePeer_eq hx]; exact h.cleared p n

theorem Agreed.deletePeer {p : Nat} {s : State} {x : PeerRecord} (h : Agreed s) (hx : peer s p = some x) :
    Agreed (deletePeer x s) := by
  have hclaimants := h.deletePeer_claimants hx
  rw [deletePeer_eq hx] at hclaimants ⊢
  refine ⟨h.1.withoutPeer p, fun n e he => ?_⟩
  rw [hclaimants n] at he
  obtain ⟨he, hp⟩ := mem_removeStation.mp he
  exact entryAgrees_mono (h.2 n e he) fun z hz k => mem_withoutPeer.mpr ⟨hz, k ▸ hp⟩

/-- The application of a frame to its station's record keeps the agreement (R60, R61). -/
theorem Agreed.replaceClaims {p : Nat} {s : State} (h : Agreed s) (hown : ownId s ≠ some p) (new : List HeardRun) :
    Agreed (replaceClaims p (heardRuns p s) new s) := by
  obtain ⟨hlen, hclaimants⟩ := replaceClaims_tiles (heardRuns p s) new hown
  refine ⟨replaceClaims_peers p _ new s ▸ h.1.putPeer _, fun n e he => ?_⟩
  rw [replaceClaims_peers]
  by_cases hn : n < s.tiles.length
  · rw [hclaimants n hn, h.cleared] at he
    rcases mem_insertedList he with he | ⟨y, hy, hcov, rfl⟩
    · obtain ⟨he, hp⟩ := mem_removeStation.mp he
      exact entryAgrees_mono (h.2 n e he) fun z hz k => (mem_putPeer h.1).mpr (.inr ⟨hz, k ▸ hp⟩)
    · exact ⟨_, (mem_putPeer h.1).mpr (.inl rfl), rfl, ⟨y, hy, hcov, rfl, rfl⟩, rfl⟩
  · rw [tile_eq_tileOf, tileOf_beyond (by omega)] at he; cases he

/-! ### Ageing -/

theorem mem_heldTiles {x : PeerRecord} {n : Nat} :
    n ∈ heldTiles x ↔ ∃ y ∈ x.runs, y.phase = .held ∧ runHas y.run n = true := by
  simp [heldTiles, mem_runTiles, and_assoc]

/-- A record that turns STALE takes the place of the FRESH one, and its HELD entries are weakened (R65). -/
theorem turnStale_of_due {p : Nat} {s : State} {x : PeerRecord} (h : peer s p = some x) (ha : 8 ≤ x.age) (hf : x.state = .fresh) :
    turnStale p s = (heldTiles x).foldl (weakenOn p) { s with peers := putPeer { x with state := .stale } s.peers } := by
  unfold turnStale; rw [h]; exact if_pos ⟨ha, hf⟩

theorem turnStale_of_not_due {p : Nat} {s : State} (h : ∀ x, peer s p = some x → x.age < 8 ∨ x.state = .stale) :
    turnStale p s = s := by
  unfold turnStale; split
  · rename_i x hx
    rw [if_neg]
    rintro ⟨ha, hf⟩
    rcases h x hx with k | k
    · exact absurd ha (Nat.not_le.mpr k)
    · rw [hf] at k; cases k
  · rfl

theorem turnGone_of_due {p : Nat} {s : State} {x : PeerRecord} (h : peer s p = some x) (ha : 30 ≤ x.age) :
    turnGone p s = deletePeer x s := by
  unfold turnGone; rw [h]; exact if_pos ha

theorem turnGone_of_not_due {p : Nat} {s : State} (h : ∀ x, peer s p = some x → x.age < 30) : turnGone p s = s := by
  unfold turnGone; split
  · rename_i x hx; exact if_neg (Nat.not_le.mpr (h x hx))
  · rfl

theorem turnStale_peers {p : Nat} {s : State} {x : PeerRecord} (h : peer s p = some x) (ha : 8 ≤ x.age) (hf : x.state = .fresh) :
    (turnStale p s).peers = putPeer { x with state := .stale } s.peers := by
  rw [turnStale_of_due h ha hf, weakenAll_peers]

theorem turnStale_tile {p : Nat} {s : State} {x : PeerRecord} (h : peer s p = some x) (ha : 8 ≤ x.age) (hf : x.state = .fresh)
    (n : Nat) : (turnStale p s).tile n = if n ∈ heldTiles x then
      { s.tile n with claimants := weakenEntry p (s.tile n).claimants } else s.tile n := by
  rw [turnStale_of_due h ha hf, tile_eq_tileOf, weakenAll_tiles]
  by_cases hn : n < s.tiles.length
  · exact tileOf_visitTiles_idem (weakenEntry_idem p) _ hn
  · rw [tileOf_beyond (by rw [visitTiles_length]; exact Nat.not_lt.mp hn), tile_eq_tileOf, tileOf_beyond (Nat.not_lt.mp hn)]
    split <;> rfl

/-- A change to STALE brings in no entry of another station (R65). -/
theorem mem_turnStale_other {p : Nat} {s : State} {x : PeerRecord} (hx : peer s p = some x) (ha : 8 ≤ x.age)
    (hf : x.state = .fresh) {n : Nat} {e : ClaimantEntry} (he : e ∈ ((turnStale p s).tile n).claimants) (hne : e.station ≠ p) :
    e ∈ (s.tile n).claimants := by
  rw [turnStale_tile hx ha hf] at he
  split at he
  · rcases mem_weakenEntry he with he | ⟨z, -, hz, rfl⟩
    · exact he
    · exact absurd hz hne
  · exact he

/-- After a change to STALE the station's entries come from its runs as before, and are effective TENTATIVE: those of the runs announced
HELD are weakened, and the others were so before (R65). -/
theorem Agreed.stale_entry {p : Nat} {s : State} {x : PeerRecord} (h : Agreed s) (hx : peer s p = some x) (ha : 8 ≤ x.age)
    (hf : x.state = .fresh) {n : Nat} {e : ClaimantEntry} (he : e ∈ ((Machine.turnStale p s).tile n).claimants)
    (hst : e.station = p) :
    (∃ y ∈ x.runs, runHas y.run n = true ∧ y.cls = e.cls ∧ y.phase = e.announced) ∧ e.effective = .tentative := by
  have hp : x.station = p := recordOf_station hx
  have hold : ∀ {e}, e ∈ (s.tile n).claimants → e.station = p →
      (∃ y ∈ x.runs, runHas y.run n = true ∧ y.cls = e.cls ∧ y.phase = e.announced) ∧ e.effective = e.announced := by
    intro e he hst
    have hentry := h.entry (hp.symm ▸ hx) he (hst.trans hp.symm)
    rwa [if_neg (by rw [hf]; nofun)] at hentry
  rw [turnStale_tile hx ha hf] at he; split at he
  · rcases mem_weakenEntry he with hmem | ⟨z, hz, hzp, rfl⟩
    · obtain ⟨hrun, heff⟩ := hold hmem hst
      refine ⟨hrun, ?_⟩
      cases k : e.announced with
      | tentative => rw [heff, k]
      | held => exact weakenable_eq_none.mp (weakenable_weakenEntry p _) e he hst k
    · exact ⟨(hold hz hzp).1, rfl⟩
  · rename_i hn
    obtain ⟨⟨y, hy, hcov, hcls, hphase⟩, heff⟩ := hold he hst
    refine ⟨⟨y, hy, hcov, hcls, hphase⟩, ?_⟩
    cases k : e.announced with
    | tentative => rw [heff, k]
    | held => exact absurd (mem_heldTiles.mpr ⟨y, hy, hphase.trans k, hcov⟩) hn

/-- A change to STALE keeps the agreement (R65, R72). -/
theorem Agreed.turnStale {s : State} (h : Agreed s) (p : Nat) : Agreed (turnStale p s) := by
  by_cases hdue : ∃ x, peer s p = some x ∧ 8 ≤ x.age ∧ x.state = .fresh
  · obtain ⟨x, hx, ha, hf⟩ := hdue
    have hp : x.station = p := recordOf_station hx
    refine ⟨turnStale_peers hx ha hf ▸ h.1.putPeer _, fun n e he => ?_⟩
    rw [turnStale_peers hx ha hf]
    by_cases hst : e.station = p
    · obtain ⟨hrun, heff⟩ := h.stale_entry hx ha hf he hst
      exact ⟨_, (mem_putPeer h.1).mpr (.inl rfl), hp.trans hst.symm, hrun, heff⟩
    · exact entryAgrees_mono (h.2 n e (mem_turnStale_other hx ha hf he hst)) fun z hz k =>
        (mem_putPeer h.1).mpr (.inr ⟨hz, fun k' => hst (k.symm.trans (k'.trans hp))⟩)
  · have hnot : ∀ x, peer s p = some x → x.age < 8 ∨ x.state = .stale := fun x hx => by
      cases hs : x.state with
      | stale => exact .inr rfl
      | fresh => exact .inl (Nat.not_le.mp fun ha => hdue ⟨x, hx, ha, hs⟩)
    rwa [turnStale_of_not_due hnot]

theorem Agreed.turnGone {s : State} (h : Agreed s) (p : Nat) : Agreed (turnGone p s) := by
  unfold Machine.turnGone; split
  · rename_i x hx
    split
    · exact h.deletePeer hx
    · exact h
  · exact h

/-- Agreement does not speak of the ages. -/
theorem Agreed.older {s : State} (h : Agreed s) {x : PeerRecord} (hx : x ∈ s.peers) (n : Nat) :
    Agreed { s with peers := putPeer { x with age := n } s.peers } := by
  refine ⟨h.1.putPeer _, fun n e he => ?_⟩
  obtain ⟨z, hz, hst, hrest⟩ := h.2 n e he
  by_cases hzx : z.station = x.station
  · rw [h.1.station_inj hz hx hzx] at hst hrest
    exact ⟨_, (mem_putPeer h.1).mpr (.inl rfl), hst, hrest⟩
  · exact ⟨z, (mem_putPeer h.1).mpr (.inr ⟨hz, hzx⟩), hst, hrest⟩

theorem Agreed.agePeers {s : State} (h : Agreed s) : Agreed (agePeers s) := by
  refine foldl_keeps (P := Agreed) (fun s p hs => ?_) _ s h
  unfold agePeer; split
  · rename_i x hx; exact ((hs.older (recordOf_mem hx) _).turnStale p).turnGone p
  · exact hs

end Sys2Proof.Machine

/-! The room that a frame of a new station finds or makes in the Peer Table (R58, R59), and the law of the table (R55) under frames and
ticks. -/

namespace Sys2Proof.Machine

/-! ### Eviction -/

/-- Record `a` is evicted rather than `b`, or is as good: older, or of equal age and no lower id (R58). -/
abbrev EvictedOver (a b : PeerRecord) : Prop := b.age < a.age ∨ b.age = a.age ∧ b.station ≤ a.station

theorem evictedBefore_decides (b a : PeerRecord) : Decides evictedBefore EvictedOver b a := by
  have hiff : evictedBefore a b = true ↔ b.age < a.age ∨ a.age = b.age ∧ b.station < a.station := by simp [evictedBefore]
  unfold Decides EvictedOver; simp only [hiff]; split <;> omega

/-- The evicted record is the selection among the STALE ones (R58). -/
theorem evictee_eq (l : List PeerRecord) : evictee l = selectBest evictedBefore (l.filter fun x => x.state == .stale) := by
  unfold evictee
  cases l.filter fun x => x.state == .stale with
  | nil => rfl
  | cons a l =>
    refine List.foldl_hom some (init := a) fun b c => ?_
    unfold keepBest; dsimp only; split <;> rfl

theorem evictee_spec {l : List PeerRecord} {z : PeerRecord} (h : evictee l = some z) : z ∈ l ∧ z.state = .stale ∧
    ∀ x ∈ l, x.state = .stale → EvictedOver z x := by
  rw [evictee_eq] at h
  obtain ⟨hm, hbest⟩ := selectBest_spec (R := EvictedOver) (fun _ => .inr ⟨rfl, le_rfl⟩)
    (fun _ _ _ h g => by unfold EvictedOver at *; omega) (List.pairwise_of_forall evictedBefore_decides) h
  simp only [List.mem_filter, beq_iff_eq] at hm hbest
  exact ⟨hm.1, hm.2, fun x hx hs => hbest x ⟨hx, hs⟩⟩

theorem evictee_eq_none {l : List PeerRecord} : evictee l = none ↔ ∀ x ∈ l, x.state = .fresh := by
  have hne : ∀ x : PeerState, ¬x = .stale ↔ x = .fresh := by intro x; cases x <;> simp
  rw [evictee_eq, selectBest_eq_none, List.filter_eq_nil_iff]; simp [hne]

/-! ### Room for a station -/

/-- The table can take a frame of a station: it has its record, or a free place, or a STALE record to evict (R57 to R59). -/
abbrev HasRoom (p : Nat) (s : State) : Prop :=
  (peer s p).isSome = true ∨ s.peers.length < 24 ∨ ∃ x ∈ s.peers, x.state = .stale

/-- The state in which a frame of a station is applied: where the table is full and has no record of the station, the evicted
record is gone (R58). -/
def makeRoom (p : Nat) (s : State) : State :=
  if (peer s p).isSome ∨ s.peers.length < 24 then s
  else
    match evictee s.peers with
    | some z => deletePeer z s
    | none => s

/-- What `makeRoom` does: nothing, or, in a full table without the station's record, one deletion. -/
theorem makeRoom_cases {p : Nat} {s : State} (h : HasRoom p s) :
    makeRoom p s = s ∧ ((peer s p).isSome = true ∨ s.peers.length < 24) ∨
      peer s p = none ∧ 24 ≤ s.peers.length ∧ ∃ z, evictee s.peers = some z ∧ makeRoom p s = deletePeer z s := by
  unfold makeRoom; split
  · rename_i k; exact .inl ⟨rfl, k⟩
  · rename_i k
    obtain ⟨hp, hl⟩ := not_or.mp k
    refine .inr ⟨by simpa using hp, Nat.not_lt.mp hl, ?_⟩
    obtain ⟨x, hx, hs⟩ := (h.resolve_left hp).resolve_left hl
    cases he : evictee s.peers with
    | none => rw [evictee_eq_none.mp he x hx] at hs; cases hs
    | some z => exact ⟨z, rfl, rfl⟩

theorem makeRoom_frame (p : Nat) (s : State) : OnlyPeers s (makeRoom p s) := by
  unfold makeRoom; split
  · exact .refl s
  · split
    · exact deletePeer_frame _ _
    · exact .refl s

/-- The application of a frame without LEAVING: its claims replace those of its station (R58, R60, R61). -/
theorem applyFrame_of_room {f : ReceivedFrame} {s : State} (hf : f.leaving = false) (h : HasRoom f.station s) :
    applyFrame f s =
      replaceClaims f.station (heardRuns f.station (makeRoom f.station s)) f.entries (makeRoom f.station s) := by
  have hnone : ∀ {u}, peer u f.station = none → heardRuns f.station u = [] := fun k => by rw [heardRuns, k]
  rcases makeRoom_cases h with ⟨hs, hk⟩ | ⟨hp, hl, z, hz, hs⟩ <;> rw [hs, applyFrame]
  · cases hp : peer s f.station with
    | some x => rw [heardRuns_of_peer hp]; simp only [hf, Bool.false_eq_true, if_false]
    | none =>
      rw [hp] at hk
      have hl : s.peers.length < Config.peerCapacity := by simpa using hk
      simp only [hf, Bool.false_eq_true, if_false, newPeerFrame, if_pos hl, hnone hp]
  · have hgone : peer (deletePeer z s) f.station = none :=
      recordOf_eq_none.mpr fun x hx => recordOf_eq_none.mp hp x (mem_withoutPeer.mp hx).1
    rw [hp, hnone hgone]
    simp only [hf, Bool.false_eq_true, if_false, newPeerFrame, if_neg (Nat.not_lt.mpr hl), hz]

/-- A frame without LEAVING that finds no room is dropped (R59). -/
theorem applyFrame_of_full {f : ReceivedFrame} {s : State} (hf : f.leaving = false) (h : ¬HasRoom f.station s) :
    applyFrame f s = latch .peersFull s := by
  obtain ⟨hp, h⟩ := not_or.mp h
  obtain ⟨hl, hs⟩ := not_or.mp h
  have hp : peer s f.station = none := by simpa using hp
  have he : evictee s.peers = none := evictee_eq_none.mpr fun x hx => by
    cases k : x.state with
    | fresh => rfl
    | stale => exact absurd ⟨x, hx, k⟩ hs
  rw [applyFrame, hp]
  simp only [hf, Bool.false_eq_true, if_false, newPeerFrame, if_neg hl, he]

/-- A LEAVING frame deletes its station's record (R63). -/
theorem applyFrame_of_leaving {f : ReceivedFrame} {s : State} {x : PeerRecord} (hf : f.leaving = true)
    (h : peer s f.station = some x) : applyFrame f s = deletePeer x s := by
  unfold applyFrame; rw [h]; exact if_pos hf

/-- A LEAVING frame of a station without a record does nothing (R63). -/
theorem applyFrame_of_leaving_unknown {f : ReceivedFrame} {s : State} (hf : f.leaving = true) (h : peer s f.station = none) :
    applyFrame f s = s := by
  unfold applyFrame; rw [h]; exact if_pos hf

theorem makeRoom_peer {p : Nat} {s : State} (h : HasRoom p s) : peer (makeRoom p s) p = peer s p := by
  rcases makeRoom_cases h with ⟨hs, -⟩ | ⟨hp, -, z, -, hs⟩ <;> rw [hs]
  rw [hp]
  exact recordOf_eq_none.mpr fun x hx => recordOf_eq_none.mp hp x (mem_withoutPeer.mp hx).1

theorem Agreed.makeRoom {s : State} (h : Agreed s) (p : Nat) : Agreed (makeRoom p s) := by
  unfold Machine.makeRoom; split
  · exact h
  · split
    · rename_i z hz; exact h.deletePeer (h.1.recordOf_of_mem (evictee_spec hz).1)
    · exact h

/-- The application of a frame keeps the map in agreement with the table (R57, R72). -/
theorem Agreed.applyFrame {s : State} {f : ReceivedFrame} (h : Agreed s) (hown : ownId s ≠ some f.station) :
    Agreed (applyFrame f s) := by
  cases hf : f.leaving with
  | true =>
    cases hp : peer s f.station with
    | some x => rw [applyFrame_of_leaving hf hp]; exact h.deletePeer hp
    | none => rwa [applyFrame_of_leaving_unknown hf hp]
  | false =>
    by_cases hroom : HasRoom f.station s
    · rw [applyFrame_of_room hf hroom]
      refine (h.makeRoom f.station).replaceClaims ?_ _
      rwa [ownId, (makeRoom_frame f.station s).loader]
    · rw [applyFrame_of_full hf hroom]; exact h

/-! ### The law of the table -/

/-- The law of the Peer Table in every part state (R55). -/
abbrev TableLaw (own : Option Nat) (l : List PeerRecord) : Prop :=
  l.length ≤ 24 ∧ ByStation l ∧ ∀ x ∈ l, PeerRecordLaw own x

theorem peerLaw_iff (s : State) : PeerLaw s ↔
    TableLaw (ownId s) s.peers ∧ (s.loader.part = .loading → s.chan.reception = none ∧ s.peers = []) :=
  ⟨fun h => ⟨⟨h.1, h.2.1, h.2.2.1⟩, h.2.2.2⟩, fun h => ⟨h.1.1, h.1.2.1, h.1.2.2, h.2⟩⟩

theorem tableLaw_nil (own : Option Nat) : TableLaw own [] := ⟨Nat.zero_le _, .nil, nofun⟩

theorem TableLaw.withoutPeer {own : Option Nat} {l : List PeerRecord} (h : TableLaw own l) (p : Nat) :
    TableLaw own (withoutPeer p l) :=
  ⟨(List.length_filter_le _ _).trans h.1, h.2.1.withoutPeer p, fun x hx => h.2.2 x (mem_withoutPeer.mp hx).1⟩

theorem TableLaw.putPeer {own : Option Nat} {l : List PeerRecord} {x : PeerRecord} (h : TableLaw own l)
    (hx : PeerRecordLaw own x) (hroom : (recordOf x.station l).isSome = true ∨ l.length < 24) : TableLaw own (putPeer x l) := by
  refine ⟨?_, h.2.1.putPeer x, fun y hy => ?_⟩
  · cases hr : recordOf x.station l with
    | none => rw [length_putPeer_new hr]; rw [hr] at hroom; simpa using hroom
    | some z => rw [length_putPeer_known h.2.1 (by rw [hr]; rfl)]; exact h.1
  · rcases (mem_putPeer h.2.1).mp hy with rfl | ⟨hy, -⟩
    · exact hx
    · exact h.2.2 y hy

/-- A valid frame (R50), as the receiver hands it on. -/
abbrev ReceivedFrame.Valid (f : ReceivedFrame) : Prop :=
  stationOk f.station = true ∧ f.entries.length ≤ 20 ∧ ∀ h ∈ f.entries, runOk h.run = true

theorem TableLaw.makeRoom {s : State} (h : TableLaw (ownId s) s.peers) (p : Nat) (hroom : HasRoom p s) :
    TableLaw (ownId s) (makeRoom p s).peers ∧
      ((recordOf p (Machine.makeRoom p s).peers).isSome = true ∨ (Machine.makeRoom p s).peers.length < 24) := by
  rcases makeRoom_cases hroom with ⟨hs, hk⟩ | ⟨-, -, z, hz, hs⟩ <;> rw [hs]
  · exact ⟨h, hk⟩
  · have hlen := length_withoutPeer h.2.1 (evictee_spec hz).1
    have hshort : (Machine.withoutPeer z.station s.peers).length < 24 := by have := h.1; omega
    exact ⟨h.withoutPeer _, .inr hshort⟩

/-- The application of a valid frame keeps the law of the table (R55, R58 to R63). -/
theorem TableLaw.applyFrame {s : State} {f : ReceivedFrame} (h : TableLaw (ownId s) s.peers) (hv : f.Valid)
    (hown : ownId s ≠ some f.station) : TableLaw (ownId s) (applyFrame f s).peers := by
  cases hf : f.leaving with
  | true =>
    cases hp : peer s f.station with
    | some x => rw [applyFrame_of_leaving hf hp]; exact h.withoutPeer _
    | none => rwa [applyFrame_of_leaving_unknown hf hp]
  | false =>
    by_cases hroom : HasRoom f.station s
    · obtain ⟨hlaw, hplace⟩ := h.makeRoom f.station hroom
      rw [applyFrame_of_room hf hroom, replaceClaims_peers]
      exact hlaw.putPeer ⟨hv.1, hown, Nat.zero_lt_succ _, by simp, hv.2.1, hv.2.2⟩ hplace
    · rw [applyFrame_of_full hf hroom]; exact h

/-! ### A tick -/

/-- A record one tick older (R64, R65). -/
def PeerRecord.aged (x : PeerRecord) : PeerRecord :=
  { x with age := x.age + 1, state := if 8 ≤ x.age + 1 then .stale else .fresh }

/-- One record under a tick: a tick older, or deleted at age 30 (R64 to R66). -/
def PeerRecord.afterTick (x : PeerRecord) : List PeerRecord := if x.age + 1 < 30 then [x.aged] else []

/-- A record as `turnStale` leaves it (R65). -/
def PeerRecord.checked (x : PeerRecord) : PeerRecord :=
  if 8 ≤ x.age ∧ x.state = .fresh then { x with state := .stale } else x

/-- A record that was FRESH exactly below age 8 is so one tick later (R64, R65). -/
theorem checked_older {x : PeerRecord} (h : x.state = .fresh ↔ x.age < 8) :
    PeerRecord.checked { x with age := x.age + 1 } = x.aged := by
  unfold PeerRecord.checked PeerRecord.aged
  cases hs : x.state with
  | fresh => simp only [and_true]; split <;> rfl
  | stale =>
    have hold : ¬x.age < 8 := fun ha => by rw [h.mpr ha] at hs; cases hs
    have hnot : ¬(8 ≤ x.age + 1 ∧ PeerState.stale = .fresh) := fun k => nomatch k.2
    rw [if_neg hnot, if_pos (show 8 ≤ x.age + 1 by omega)]

section

variable {s : State} {front back : List PeerRecord} {x : PeerRecord}

theorem putPeer_split {y : PeerRecord} (h : ByStation (front ++ x :: back)) (hy : x.station = y.station) :
    putPeer y (front ++ x :: back) = front ++ y :: back :=
  putPeer_replaces (fun z hz => hy ▸ (List.pairwise_append.mp h).2.2 z hz x (.head _)) hy

theorem peer_split (hs : s.peers = front ++ x :: back) (h : ByStation s.peers) : peer s x.station = some x :=
  h.recordOf_of_mem (hs ▸ List.mem_append_right _ (.head _))

theorem turnStale_split (hs : s.peers = front ++ x :: back) (h : ByStation s.peers) :
    (turnStale x.station s).peers = front ++ x.checked :: back := by
  have hpeer := peer_split hs h
  unfold PeerRecord.checked; split
  · rename_i hdue
    rw [turnStale_peers hpeer hdue.1 hdue.2, hs]
    exact putPeer_split (hs ▸ h) rfl
  · rename_i hdue
    have hnot : ∀ z, peer s x.station = some z → z.age < 8 ∨ z.state = .stale := fun z hz => by
      rw [hpeer] at hz; obtain rfl := Option.some.inj hz
      cases hst : x.state with
      | stale => exact .inr rfl
      | fresh => exact .inl (Nat.not_le.mp fun ha => hdue ⟨ha, hst⟩)
    rw [turnStale_of_not_due hnot, hs]

theorem turnGone_split (hs : s.peers = front ++ x :: back) (h : ByStation s.peers) :
    (turnGone x.station s).peers = front ++ (if x.age < 30 then [x] else []) ++ back := by
  have hpeer := peer_split hs h
  split
  · rename_i ha
    have hnot : ∀ z, peer s x.station = some z → z.age < 30 := fun z hz => by
      rw [hpeer] at hz; obtain rfl := Option.some.inj hz; exact ha
    rw [turnGone_of_not_due hnot, hs, List.append_assoc, List.singleton_append]
  · rename_i ha
    rw [turnGone_of_due hpeer (Nat.not_lt.mp ha), deletePeer, hs, List.append_nil]
    exact withoutPeer_split (hs ▸ h)

/-- A tick ages one record and leaves the others (R64). -/
theorem agePeer_peers (hs : s.peers = front ++ x :: back) (h : ByStation s.peers) (hx : x.state = .fresh ↔ x.age < 8) :
    (agePeer s x.station).peers = front ++ x.afterTick ++ back := by
  have hsplit : ByStation (front ++ x :: back) := hs ▸ h
  let y : PeerRecord := { x with age := x.age + 1 }
  let u : State := { s with peers := putPeer y s.peers }
  have hbu : ByStation u.peers := h.putPeer y
  have hu : u.peers = front ++ y :: back := (congrArg (putPeer y) hs).trans (putPeer_split hsplit rfl)
  have hv : (turnStale y.station u).peers = front ++ x.aged :: back := checked_older hx ▸ turnStale_split hu hbu
  have hbv : ByStation (turnStale y.station u).peers := by
    rw [hv, ← putPeer_split (y := x.aged) hsplit rfl]; exact hsplit.putPeer _
  have hstep : agePeer s x.station = turnGone x.aged.station (turnStale y.station u) := by
    unfold agePeer; rw [peer_split hs h]; rfl
  rw [hstep, turnGone_split hv hbv]; rfl

end

theorem byStation_iff (l : List PeerRecord) : ByStation l ↔ (l.map (·.station)).Pairwise (· < ·) := List.pairwise_map.symm

theorem afterTick_stations (x : PeerRecord) : List.Sublist (x.afterTick.map (·.station)) [x.station] := by
  unfold PeerRecord.afterTick; split
  · exact .refl _
  · exact List.nil_sublist _

theorem byStation_afterTick {front back : List PeerRecord} {x : PeerRecord} (h : ByStation (front ++ x :: back)) :
    ByStation (front ++ x.afterTick ++ back) := by
  rw [byStation_iff] at h ⊢
  refine h.sublist ?_
  simp only [List.map_append, List.map_cons, List.append_assoc]
  exact (List.Sublist.refl _).append ((afterTick_stations x).append (.refl _))

/-- A tick on its way through the table: `front` has aged, `back` has not. -/
theorem ageRest_peers (back : List PeerRecord) : ∀ (front : List PeerRecord) (s : State), s.peers = front ++ back →
    ByStation s.peers → (∀ x ∈ back, x.state = .fresh ↔ x.age < 8) →
    ((back.map (·.station)).foldl agePeer s).peers = front ++ back.flatMap (·.afterTick) := by
  induction back with
  | nil => exact fun front s hs _ _ => by simpa using hs
  | cons x back ih =>
    intro front s hs hby hx
    have hstep := agePeer_peers hs hby (hx x (.head _))
    have hnext : ByStation (agePeer s x.station).peers := hstep ▸ byStation_afterTick (hs ▸ hby)
    rw [List.map_cons, List.foldl_cons, ih _ _ hstep hnext fun y hy => hx y (.tail _ hy), List.flatMap_cons, List.append_assoc]

/-- A tick ages every record (R64 to R66). -/
theorem agePeers_peers {s : State} (h : ByStation s.peers) (hf : ∀ x ∈ s.peers, x.state = .fresh ↔ x.age < 8) :
    (agePeers s).peers = s.peers.flatMap (·.afterTick) := ageRest_peers s.peers [] s rfl h hf

theorem flatMap_afterTick (l : List PeerRecord) :
    l.flatMap (·.afterTick) = (l.filter fun x => decide (x.age + 1 < 30)).map (·.aged) := by
  induction l with
  | nil => rfl
  | cons x l ih =>
    rw [List.flatMap_cons, ih, List.filter_cons, PeerRecord.afterTick]
    by_cases h : x.age + 1 < 30 <;> simp [h]

/-- A tick keeps the law of the table (R55, R64 to R66). -/
theorem TableLaw.agePeers {s : State} (h : TableLaw (ownId s) s.peers) : TableLaw (ownId s) (agePeers s).peers := by
  obtain ⟨hlen, hby, hrec⟩ := h
  have hfresh : ∀ x ∈ s.peers, x.state = .fresh ↔ x.age < 8 := fun x hx => by
    obtain ⟨-, -, -, hf, -⟩ := hrec x hx; exact hf
  rw [agePeers_peers hby hfresh, flatMap_afterTick]
  refine ⟨?_, ?_, fun y hy => ?_⟩
  · rw [List.length_map]; exact (List.length_filter_le _ _).trans hlen
  · exact List.pairwise_map.mpr (hby.filter _)
  · obtain ⟨x, hx, rfl⟩ := List.mem_map.mp hy
    obtain ⟨hmem, hage⟩ := List.mem_filter.mp hx
    obtain ⟨hst, hown, -, -, hruns, hok⟩ := hrec x hmem
    have hage : x.age + 1 < 30 := by simpa using hage
    refine ⟨hst, hown, hage, ?_, hruns, hok⟩
    show (if 8 ≤ x.age + 1 then PeerState.stale else .fresh) = .fresh ↔ x.age + 1 < 8
    split
    · simp; omega
    · simp; omega

/-- In a table that meets the law no record waits to become STALE or to be deleted, so neither row does anything on its own
(assumption log 5). -/
theorem TableLaw.turnStale_eq {s : State} (h : TableLaw (ownId s) s.peers) (p : Nat) : turnStale p s = s :=
  turnStale_of_not_due fun x hx => by
    obtain ⟨-, -, -, hf, -⟩ := h.2.2 x (recordOf_mem hx)
    cases k : x.state with
    | stale => exact .inr rfl
    | fresh => exact .inl (hf.mp k)

theorem TableLaw.turnGone_eq {s : State} (h : TableLaw (ownId s) s.peers) (p : Nat) : turnGone p s = s :=
  turnGone_of_not_due fun x hx => by
    obtain ⟨-, -, hage, -⟩ := h.2.2 x (recordOf_mem hx)
    exact hage

end Sys2Proof.Machine

/-! Every step keeps the Peer Table in its form and the map in agreement with it (R55, R72, O52, O53). Both laws speak of the own id, the
table, the map, and of LOADING, where no frame is received; one argument over the commands serves both. -/

namespace Sys2Proof.Machine

/-! ### What the laws of the table speak of -/

/-- The configuration, the table and the map are as they were, and, where the part is in LOADING, it was, with the same reception. -/
structure KeepsTable (s t : State) : Prop where
  config : t.loader.config = s.loader.config
  peers : t.peers = s.peers
  tiles : t.tiles = s.tiles
  loading : t.loader.part = .loading → s.loader.part = .loading ∧ t.chan.reception = s.chan.reception

theorem KeepsMap.keepsTable {s t : State} (h : KeepsMap s t) (k : t.loader.part = .loading → s.loader.part = .loading) :
    KeepsTable s t := ⟨h.config, h.peers, h.tiles, fun l => ⟨k l, h.reception⟩⟩

theorem KeepsPart.keepsTable {s t : State} (h : KeepsPart s t) : KeepsTable s t := h.keepsMap.keepsTable fun l => h.loader ▸ l

/-- A law of the Peer Table that the operations of the table keep, that holds of an empty table and map in LOADING, and that speaks of
nothing else. -/
structure TableInvariant (P : State → Prop) : Prop where
  frame : ∀ {s t : State}, KeepsTable s t → P s → P t
  quiet : ∀ {s : State}, P s → s.loader.part = .loading → s.chan.reception = none
  reset : P State.reset
  accept : ∀ {s : State} (v : ConfigValues), P s → s.loader.part = .loading → P (acceptConfig v s)
  apply : ∀ {s : State} {f : ReceivedFrame}, P s → s.loader.part ≠ .loading → f.Valid → ownId s ≠ some f.station →
    P (applyFrame f s)
  age : ∀ {s : State}, P s → P (agePeers s)
  stale : ∀ {s : State} (p : Nat), P s → P (turnStale p s)
  gone : ∀ {s : State} (p : Nat), P s → P (turnGone p s)

/-! ### Valid frames -/

theorem parseEntry_runOk {b0 b1 : Byte} {h : HeardRun} (k : parseEntry b0 b1 = some h) : runOk h.run = true := by
  unfold parseEntry at k; split at k
  · split at k
    · rename_i hb
      cases k
      simp only [runOk, widthOk, Config.maxRunWidth, Config.tileCount, Bool.and_eq_true, decide_eq_true_eq]; omega
    · cases k
  · cases k

theorem parseEntries_valid {n : Nat} {bs : List Byte} {hs : List HeardRun} (k : parseEntries n bs = some hs) :
    hs.length = n ∧ ∀ h ∈ hs, runOk h.run = true := by
  fun_induction parseEntries n bs generalizing hs with
  | case1 => cases k; exact ⟨rfl, nofun⟩
  | case2 n b0 b1 rest h hs' hes he ih =>
    cases k
    obtain ⟨hlen, hok⟩ := ih hes
    refine ⟨by rw [List.length_cons, hlen], fun x hx => ?_⟩
    rcases List.mem_cons.mp hx with rfl | hx
    · exact parseEntry_runOk he
    · exact hok x hx
  | case3 => cases k
  | case4 => cases k

/-- What validation lets through is a valid frame (R50). -/
theorem parseFrame_valid {bs : List Byte} {f : ReceivedFrame} (h : parseFrame bs = some f) : f.Valid := by
  unfold parseFrame at h; dsimp only at h
  split at h
  · cases h
  · rename_i hlen
    split at h
    · cases h
    · split at h
      · cases h
      · rename_i hstation
        obtain ⟨hs, hparse, rfl⟩ := Option.map_eq_some_iff.mp h
        obtain ⟨hcount, hok⟩ := parseEntries_valid hparse
        have hhi := (byteAt bs 1).isLt
        have hlo := (byteAt bs 2).isLt
        have hfew : hs.length ≤ 20 := hcount ▸ Nat.not_lt.mp fun k => hlen (.inr (.inl k))
        have hrange : 0 < value16 (byteAt bs 1) (byteAt bs 2) ∧ value16 (byteAt bs 1) (byteAt bs 2) < 65535 := by
          simp only [value16] at hstation ⊢; omega
        exact ⟨by simpa [stationOk] using hrange, hfew, hok⟩

/-! ### The commands -/

namespace TableInvariant

variable {P : State → Prop} (inv : TableInvariant P)

include inv

theorem keepsMap {s t : State} (h : P s) (k : KeepsMap s t) (hp : t.loader.part = .loading → s.loader.part = .loading) : P t :=
  inv.frame (k.keepsTable hp) h

/-- A change outside LOADING that leaves the configuration, the table and the map. -/
theorem receiving {s t : State} (h : P s) (k : s.loader.part ≠ .loading) (hl : t.loader = s.loader) (hp : t.peers = s.peers)
    (ht : t.tiles = s.tiles) : P t :=
  inv.frame ⟨by rw [hl], hp, ht, fun l => absurd (hl ▸ l) k⟩ h

theorem part_ne_loading {s : State} (h : P s) {got : List Byte} (k : s.chan.reception = some got) : s.loader.part ≠ .loading :=
  fun l => by rw [inv.quiet h l] at k; cases k

theorem settled {s : State} (h : P s) : P (settle s) := inv.frame (settle_frame s).keepsPart.keepsTable h

theorem endWarmListen {s : State} (h : P s) : P (endWarmListen s) := by
  refine inv.keepsMap h (endWarmListen_keepsMap s) fun l => ?_
  rcases endWarmListen_part s with k | ⟨-, k⟩
  · exact k ▸ l
  · rw [k] at l; cases l

theorem completeLeaving {s : State} (h : P s) : P (completeLeaving s) := by
  refine inv.keepsMap h (completeLeaving_keepsMap s) fun l => ?_
  unfold Machine.completeLeaving at l; split at l
  · cases l
  · exact l

theorem giveSentNotice {s : State} (h : P s) (f : Frame) : P (giveSentNotice f s) := by
  refine inv.keepsMap h (giveSentNotice_keepsMap f s) fun l => ?_
  rcases giveSentNotice_part f s with k | ⟨-, k⟩
  · exact k ▸ l
  · rw [k] at l; cases l

theorem configReadComplete {bs : List Byte} {s t : State} (h : P s) (e : execConfigReadComplete bs s = .next t) : P t := by
  unfold execConfigReadComplete at e
  refine outOfReset_keeps e h ?_; split
  · rename_i k
    split
    · exact inv.accept _ h k.2
    · exact inv.frame (s := s) ⟨rfl, rfl, rfl, nofun⟩ h
  · exact h

theorem ageingTick {s t : State} (h : P s) (e : execAgeingTick s = .next t) : P t := by
  unfold execAgeingTick at e
  refine outOfReset_keeps e h ?_; split
  · have hs : P (stampTick s) := inv.frame (s := s) ⟨rfl, rfl, rfl, fun l => ⟨l, rfl⟩⟩ h
    have hw : P (countWarmTick (agePeers (stampTick s))) :=
      inv.keepsMap (inv.age hs) (countWarmTick_keepsMap _) fun l => countWarmTick_part _ ▸ l
    exact inv.settled (inv.endWarmListen hw)
  · exact h

theorem peerStale {p : Nat} {s t : State} (h : P s) (e : execPeerStale p s = .next t) : P t :=
  outOfReset_keeps e h (inv.settled (inv.stale p h))

theorem warmListenEnd {s t : State} (h : P s) (e : execWarmListenEnd s = .next t) : P t :=
  outOfReset_keeps e h (inv.settled (inv.endWarmListen h))

theorem transmissionEnd {b : Bool} {s t : State} (h : P s) (e : execTransmissionEnd b s = .next t) : P t := by
  unfold execTransmissionEnd at e
  refine outOfReset_keeps e h ?_; split
  · rename_i f c hc
    have hs : P (sampleCarrier b { s with chan := c }) :=
      inv.frame (s := s) ⟨rfl, rfl, rfl, fun l => ⟨l, endSending_reception hc⟩⟩ h
    have ha := inv.frame (attemptSend_keepsPart _).keepsTable (inv.giveSentNotice hs f)
    exact inv.frame (settleFrom_frame _ _).keepsPart.keepsTable ha
  · exact h

theorem syncDetected {s t : State} (h : P s) (e : execSyncDetected s = .next t) : P t := by
  unfold execSyncDetected at e
  refine outOfReset_keeps e h ?_; split
  · rename_i k
    have hp : s.loader.part ≠ .loading := by simpa [receiverOn] using k.1
    exact inv.receiving h hp rfl rfl rfl
  · exact h

theorem receptionEnd {bs : List Byte} {s t : State} (h : P s) (e : execReceptionEnd bs s = .next t) : P t := by
  unfold execReceptionEnd at e
  refine outOfReset_keeps e h ?_; dsimp only; split
  · rename_i got hr
    have hp := inv.part_ne_loading h hr
    have hu : P (setReception none (sampleCarrier false s)) := inv.receiving h hp rfl rfl rfl
    split
    · rename_i f hf
      refine inv.settled ?_
      unfold handOn; split
      · split
        · exact hu
        · exact inv.keepsMap hu (enterFault_keepsMap _ _) nofun
      · rename_i hown; exact inv.apply hu hp (parseFrame_valid hf) hown
    · exact inv.receiving h hp rfl rfl rfl
  · exact h

theorem receptionOverrun {s t : State} (h : P s) (e : execReceptionOverrun s = .next t) : P t := by
  unfold execReceptionOverrun at e
  refine outOfReset_keeps e h ?_; split
  · rename_i hr; exact inv.receiving h (inv.part_ne_loading h hr) rfl rfl rfl
  · exact h

theorem entryCountAssembled {bs : List Byte} {s t : State} (h : P s) (e : execEntryCountAssembled bs s = .next t) : P t := by
  unfold execEntryCountAssembled at e
  refine outOfReset_keeps e h ?_; split
  · rename_i hr
    have hp := inv.part_ne_loading h hr
    split
    · exact inv.receiving h hp rfl rfl rfl
    · exact inv.receiving h hp rfl rfl rfl
  · exact h

theorem takenRequest (check : State → LinkResult) (effect : State → State) (reply : State → List Byte) {s : State} (h : P s)
    (k : P (effect s)) : P (takeRequest check effect reply s) := by
  unfold takeRequest; split
  · exact inv.frame (respond_keepsPart _ _ _).keepsTable k
  · exact inv.frame (respond_keepsPart _ _ _).keepsTable h

theorem singleRequest {c : Instr} {b : Byte} (hb : requestBytes c = some [b]) (w : wellFormed c = true)
    (hc : ∀ u, P u → P (serve c u)) {s : State} (h : P s) : P (transact [b] s) := by
  have hu := inv.frame (clockBytes_keepsPart [b] s).keepsTable h
  rcases transact_single hb w s with e | e | e <;> rw [e]
  · exact h
  · exact hu
  · exact hc _ hu

theorem leave {s t : State} (h : P s) (e : execLeave s = .next t) : P t :=
  outOfReset_keeps e h (inv.singleRequest (c := .leave) rfl rfl (fun u hu => by
    unfold serve serveLeave; exact inv.takenRequest _ _ _ hu (inv.keepsMap hu (enterLeaving_keepsMap u) nofun)) h)

theorem join {s t : State} (h : P s) (e : execJoin s = .next t) : P t :=
  outOfReset_keeps e h (inv.singleRequest (c := .join) rfl rfl (fun u hu => by
    unfold serve serveJoin; exact inv.takenRequest _ _ _ hu (inv.keepsMap hu (enterWarmListen_keepsMap u) nofun)) h)

/-- Every command keeps a law of the table: the commands of `movesPart` one by one, the others by their frame. -/
theorem exec {c : Instr} {s t : State} (h : P s) (e : exec c s = .next t) : P t := by
  cases hm : movesPart c with
  | false => exact inv.frame (exec_keepsPart hm e).keepsTable h
  | true =>
    cases c with
    | reset => cases e; exact inv.frame (s := State.reset) ⟨rfl, rfl, rfl, fun l => ⟨l, rfl⟩⟩ inv.reset
    | resetRelease =>
      cases e; split
      · exact inv.frame (s := s) ⟨rfl, rfl, rfl, fun l => ⟨l, rfl⟩⟩ h
      · exact h
    | configReadComplete bytes => exact inv.configReadComplete h e
    | ageingTick => exact inv.ageingTick h e
    | peerStale p => exact inv.peerStale h e
    | peerGone p => exact outOfReset_keeps e h (inv.gone p h)
    | warmListenEnd => exact inv.warmListenEnd h e
    | transmissionEnd ccCs => exact inv.transmissionEnd h e
    | leavingComplete => exact outOfReset_keeps e h (inv.completeLeaving h)
    | syncDetected => exact inv.syncDetected h e
    | receptionEnd bytes => exact inv.receptionEnd h e
    | receptionOverrun => exact inv.receptionOverrun h e
    | entryCountAssembled bytes => exact inv.entryCountAssembled h e
    | leave => exact inv.leave h e
    | join => exact inv.join h e
    | _ => simp [movesPart] at hm

/-- Every step keeps a law of the table: its command does, and the passing of time leaves the table alone. -/
theorem step {s t : State} (h : P s) (e : step s = .next t) : P t := by
  unfold Machine.step at e; split at e
  · rename_i rest _
    have hs : P { s with pending := rest } := inv.frame (s := s) ⟨rfl, rfl, rfl, fun l => ⟨l, rfl⟩⟩ h
    exact inv.exec hs e
  · cases e
    refine inv.frame ?_ h
    unfold idle; split
    · exact ⟨rfl, rfl, rfl, fun l => ⟨l, rfl⟩⟩
    · exact ⟨rfl, rfl, rfl, fun l => ⟨l, rfl⟩⟩

end TableInvariant

/-! ### The two laws -/

theorem KeepsTable.ownId {s t : State} (h : KeepsTable s t) : ownId t = ownId s := by
  rw [Machine.ownId, h.config]; rfl

/-- An event at the Peer Table keeps its law where it keeps the records' and leaves an empty table empty. -/
theorem OnlyPeers.peerLaw {s t : State} (k : OnlyPeers s t) (h : PeerLaw s) (ht : TableLaw (ownId s) t.peers)
    (he : s.peers = [] → t.peers = []) : PeerLaw t := by
  have hown : ownId t = ownId s := by rw [ownId, k.loader]; rfl
  refine (peerLaw_iff t).mpr ⟨hown ▸ ht, fun l => ?_⟩
  obtain ⟨hr, hp⟩ := ((peerLaw_iff s).mp h).2 (k.loader ▸ l)
  exact ⟨k.reception.trans hr, he hp⟩

theorem agePeers_of_empty {s : State} (h : s.peers = []) : agePeers s = s := by rw [agePeers, h]; rfl

theorem peerLaw_invariant : TableInvariant PeerLaw where
  frame := fun {s t} k h => by
    obtain ⟨hl, hq⟩ := (peerLaw_iff s).mp h
    refine (peerLaw_iff t).mpr ⟨by rwa [k.ownId, k.peers], fun l => ?_⟩
    obtain ⟨hp, hr⟩ := k.loading l
    exact ⟨hr.trans (hq hp).1, k.peers.trans (hq hp).2⟩
  quiet := fun h l => (((peerLaw_iff _).mp h).2 l).1
  reset := reset_peerLaw
  accept := fun {s} v h l => (peerLaw_iff _).mpr ⟨by
    rw [show (acceptConfig v s).peers = [] from (((peerLaw_iff s).mp h).2 l).2]; exact tableLaw_nil _, nofun⟩
  apply := fun {s f} h l hv hown => by
    have k := applyFrame_frame f s
    have hid : ownId (applyFrame f s) = ownId s := by rw [ownId, k.loader]; rfl
    exact (peerLaw_iff _).mpr ⟨hid ▸ ((peerLaw_iff s).mp h).1.applyFrame hv hown, fun l' => absurd (k.loader ▸ l') l⟩
  age := fun {s} h => (agePeers_frame s).peerLaw h ((peerLaw_iff s).mp h).1.agePeers fun he => by rw [agePeers_of_empty he, he]
  stale := fun {s} p h => by rwa [((peerLaw_iff s).mp h).1.turnStale_eq p]
  gone := fun {s} p h => by rwa [((peerLaw_iff s).mp h).1.turnGone_eq p]

/-- With an empty table no tile has a claimant. -/
theorem Agreed.unclaimed {s : State} (h : Agreed s) (he : s.peers = []) : Unclaimed s.tiles := by
  intro x hx
  obtain ⟨n, hn, rfl⟩ := List.mem_iff_getElem.mp hx
  have hnone : ∀ e, e ∉ (s.tile n).claimants := fun e hm => by
    obtain ⟨z, hz, -⟩ := h.2 n e hm
    rw [he] at hz; cases hz
  rw [State.tile, List.getD_eq_getElem _ _ hn] at hnone
  exact List.eq_nil_iff_forall_not_mem.mpr hnone

theorem agreed_of_unclaimed {s : State} (hp : s.peers = []) (ht : Unclaimed s.tiles) : Agreed s :=
  ⟨hp ▸ .nil, fun n e he => by rw [tile_claimants_of_unclaimed ht] at he; cases he⟩

theorem agreementLaw_invariant : TableInvariant AgreementLaw where
  frame := fun {s t} k h => by
    obtain ⟨hl, ha⟩ := (agreementLaw_iff s).mp h
    exact (agreementLaw_iff t).mpr ⟨peerLaw_invariant.frame k hl, ha.congr k.peers k.tiles⟩
  quiet := fun h l => peerLaw_invariant.quiet h.1 l
  reset := reset_agreementLaw
  accept := fun {s} v h l => by
    obtain ⟨hl, ha⟩ := (agreementLaw_iff s).mp h
    have hp := (((peerLaw_iff s).mp hl).2 l).2
    exact (agreementLaw_iff _).mpr ⟨peerLaw_invariant.accept v hl l,
      agreed_of_unclaimed hp (flagTiles_unclaimed v (ha.unclaimed hp))⟩
  apply := fun {s f} h l hv hown => by
    obtain ⟨hl, ha⟩ := (agreementLaw_iff s).mp h
    exact (agreementLaw_iff _).mpr ⟨peerLaw_invariant.apply hl l hv hown, ha.applyFrame hown⟩
  age := fun {s} h => by
    obtain ⟨hl, ha⟩ := (agreementLaw_iff s).mp h
    exact (agreementLaw_iff _).mpr ⟨peerLaw_invariant.age hl, ha.agePeers⟩
  stale := fun {s} p h => by
    obtain ⟨hl, ha⟩ := (agreementLaw_iff s).mp h
    exact (agreementLaw_iff _).mpr ⟨peerLaw_invariant.stale p hl, ha.turnStale p⟩
  gone := fun {s} p h => by
    obtain ⟨hl, ha⟩ := (agreementLaw_iff s).mp h
    exact (agreementLaw_iff _).mpr ⟨peerLaw_invariant.gone p hl, ha.turnGone p⟩

/-- Settles O52: the law of the table is one that the commands keep. -/
theorem stepKeepsPeerTable : Obligations.StepKeepsPeerTable := fun _ _ h e => peerLaw_invariant.step h e

/-- Settles O53: so is its agreement with the map. -/
theorem stepKeepsMapAgreement : Obligations.StepKeepsMapAgreement := fun _ _ h e => agreementLaw_invariant.step h e

end Sys2Proof.Machine

/-! The rows of the Peer Table on their own (R63, R65, R66; O13 to O15), the frame that finds no room (R59, O17), and the ageing tick
(R56, R64, R183, O12). -/

namespace Sys2Proof.Machine

/-! ### Deletions -/

/-- The claimant lists after a deletion (R60, R66), tile by tile. -/
theorem deletePeer_tile {p : Nat} {s : State} {x : PeerRecord} (h : peer s p = some x) (n : Nat) :
    (deletePeer x s).tile n = if x.runs.any (fun y => runHas y.run n) then
      { s.tile n with claimants := removeStation p (s.tile n).claimants } else s.tile n := by
  rw [deletePeer_eq h, heardRuns_of_peer h]; exact tileOf_removeClaims p x.runs s.tiles n

theorem deletePeer_flags (x : PeerRecord) (s : State) (n : Nat) :
    ((deletePeer x s).tile n).locked = (s.tile n).locked ∧ ((deletePeer x s).tile n).inWindow = (s.tile n).inWindow := by
  rw [show (deletePeer x s).tile n = _ from tileOf_removeClaims x.station x.runs s.tiles n]
  split <;> exact ⟨rfl, rfl⟩

/-- Settles O14: the deletion, tile by tile. -/
theorem peerGoneDeletesRecordAndEntries : Obligations.PeerGoneDeletesRecordAndEntries := by
  intro p x s hr hx hage
  have hgone : turnGone p s = deletePeer x s := turnGone_of_due hx hage
  refine ⟨deletePeer x s, ?_, rfl, ?_, removeClaims_length _ _ _, fun n => ?_⟩
  · exact (outOfReset_released hr _).trans (congrArg _ hgone)
  · rw [← recordOf_station hx]; rfl
  · obtain ⟨hlocked, hwindow⟩ := deletePeer_flags x s n
    refine ⟨hlocked, hwindow, ?_⟩
    rw [deletePeer_tile hx]
    split <;> rfl

/-- The state in which a frame reaches the Peer Table: the reception is over, and its energy with it (R49). -/
abbrev afterReception (s : State) : State := setReception none (sampleCarrier false s)

/-- A valid frame of another station is applied (R51, R57). -/
theorem receptionEnd_applied {bs got : List Byte} {f : ReceivedFrame} {s : State} (hr : s.loader.inReset = false)
    (hrec : s.chan.reception = some got) (hparse : parseFrame (got ++ bs) = some f) (hown : ownId s ≠ some f.station) :
    exec (.receptionEnd bs) s = .next (settle (applyFrame f (afterReception s))) := by
  rw [receptionEnd_valid hr hrec hparse, handOn, if_neg (by exact hown)]

/-- An event that leaves the engine leaves no work to it at the end of the step. -/
theorem settle_of_engine_eq {s t : State} (h : EngineLaw s) (k : t.engine = s.engine) : settle t = t := by
  obtain ⟨hidle, hstage, -⟩ := h
  exact settle_idle (k ▸ hidle) (k ▸ hstage)

/-- Settles O15: a deletion by agreement leaves no entry of the station, and without a record there is none. -/
theorem leavingFrameDeletesItsPeer : Obligations.LeavingFrameDeletesItsPeer := by
  intro bs got f s hr hrec hparse hleaving hown hengine hlaw
  have hagreed : Agreed (afterReception s) := ((agreementLaw_iff s).mp hlaw).2.congr rfl rfl
  have hexec := receptionEnd_applied hr hrec hparse hown
  cases hp : peer (afterReception s) f.station with
  | some x =>
    rw [applyFrame_of_leaving hleaving hp, settle_of_engine_eq hengine (t := deletePeer x (afterReception s)) rfl] at hexec
    refine ⟨deletePeer x (afterReception s), hexec, rfl, ?_, removeClaims_length _ _ _, fun n => ?_⟩
    · rw [← recordOf_station hp]; rfl
    · obtain ⟨hlocked, hwindow⟩ := deletePeer_flags x (afterReception s) n
      exact ⟨hlocked, hwindow, hagreed.deletePeer_claimants hp n⟩
  | none =>
    rw [applyFrame_of_leaving_unknown hleaving hp, settle_of_engine_eq hengine (t := afterReception s) rfl] at hexec
    have habsent : ∀ n, ∀ e ∈ (s.tile n).claimants, e.station ≠ f.station := fun n e he hst => by
      obtain ⟨z, hz, hzs, -⟩ := hagreed.2 n e he
      exact recordOf_eq_none.mp hp z hz (hzs.trans hst)
    exact ⟨afterReception s, hexec, rfl, (withoutPeer_absent hp).symm, rfl, fun n =>
      ⟨rfl, rfl, (removeStation_of_absent (habsent n)).symm⟩⟩

/-- Settles O17: without room the frame does no more than latch PEERS_FULL. -/
theorem fullTableDropsNewPeer : Obligations.FullTableDropsNewPeer := by
  intro bs got f s hr hrec hparse hleaving hown hp hlen hfresh hengine
  have hfull : ¬HasRoom f.station (afterReception s) := by
    rintro (h | h | ⟨x, hx, h⟩)
    · rw [show peer (afterReception s) f.station = none from hp] at h; cases h
    · exact absurd hlen (Nat.ne_of_lt h)
    · rw [hfresh x hx] at h; cases h
  rw [receptionEnd_applied hr hrec hparse hown, applyFrame_of_full hleaving hfull,
    settle_of_engine_eq hengine (t := latch .peersFull (afterReception s)) rfl]
  rfl

/-! ### A record turns STALE -/

/-- Settles O13: the tiles of the runs announced HELD are visited, and each visit weakens the station's entry. -/
theorem peerStaleWeakensHeldEntries : Obligations.PeerStaleWeakensHeldEntries := by
  intro p x s hr hx hf ha
  have hst : x.station = p := recordOf_station hx
  have hframe := settle_frame (turnStale p s)
  have htile : ∀ n, (settle (turnStale p s)).tile n = if n ∈ heldTiles x then
      { s.tile n with claimants := weakenEntry p (s.tile n).claimants } else s.tile n := fun n => by
    rw [State.tile, hframe.tiles]; exact turnStale_tile hx ha hf n
  have hpeers : (settle (turnStale p s)).peers = putPeer { x with state := .stale } s.peers :=
    hframe.peers.trans (turnStale_peers hx ha hf)
  refine ⟨settle (turnStale p s), outOfReset_released hr fun s => settle (turnStale p s),
    (turnStale_frame p s).trans hframe.claimsFrame.peersFrame, ?_, fun q hq => ?_, fun n hn => ?_, fun n hn => ?_, fun hlaw n hn => ?_⟩
  · rw [peer_eq_recordOf, hpeers, ← hst]; exact recordOf_putPeer_self { x with state := .stale } _
  · rw [peer_eq_recordOf, hpeers]; exact recordOf_putPeer_ne (by rw [hst]; exact hq) _
  · rw [htile, if_pos hn]
    exact ⟨weakenable_eq_none.mp (weakenable_weakenEntry p _), weakenEntry_length_le p _⟩
  · rw [htile, if_neg hn]
  · rw [htile, if_pos hn]
    refine weakenEntry_perm ?_
    by_cases h : n < s.tiles.length
    · rw [State.tile, List.getD_eq_getElem _ _ h]
      obtain ⟨-, hsorted, -⟩ := hlaw.1 _ (List.getElem_mem h)
      exact hsorted.imp And.right
    · rw [tile_eq_tileOf, tileOf_beyond (Nat.not_lt.mp h)]; exact .nil

/-! ### The ageing tick -/

/-- What an event leaves as it was that acts on the Claim Table and the call lines. -/
abbrev ClaimsAndLines (s t : State) : Prop := OnlyClaims { s with lines := t.lines } t

theorem ClaimsAndLines.trans {s t u : State} (h : ClaimsAndLines s t) (k : ClaimsAndLines t u) : ClaimsAndLines s u := by
  have hlines : OnlyClaims { s with lines := u.lines } { t with lines := u.lines } := by
    obtain ⟨⟩ := h; constructor <;> first | rfl | assumption
  exact hlines.trans k

theorem OnlyClaims.andLines {s t : State} (h : OnlyClaims s t) : ClaimsAndLines s t := by
  rw [ClaimsAndLines, h.lines]; exact h

theorem takeLevel_frame (s : State) (n : Nat) : ClaimsAndLines s (takeLevel s n) := by
  unfold takeLevel takeEdge; split
  · split
    · exact .refl s
    · have hline : ClaimsAndLines s (setLine n ⟨true, false⟩ s) := .refl _
      exact hline.trans (openByLine_frame _ _).andLines
  · exact .refl s

/-- Entry to ACTIVE starts the timers (R183); what it asks for besides is the Claim Table's and the call lines'. -/
theorem enterActive_frame (s : State) : ClaimsAndLines (startActive s) (enterActive s) :=
  (foldl_frame OnlyClaims .refl .trans (fun w r => queuePlacement r w)
    (fun w r => (queuePlacement_frame r w).claimsFrame) _ (startActive s)).andLines.trans
  (foldl_frame ClaimsAndLines .refl .trans _ takeLevel_frame _ _)

/-- The state with another warm-listen count (R183). -/
abbrev withWarmCount (n : Nat) (s : State) : State := { s with loader := { s.loader with warmCount := n } }

theorem countWarmTick_listening {s : State} (h : s.loader.part = .warmListen) :
    countWarmTick s = withWarmCount (min 30 (s.loader.warmCount + 1)) s := if_pos h

theorem countWarmTick_elsewhere {s : State} (h : s.loader.part ≠ .warmListen) : countWarmTick s = s := if_neg h

theorem endWarmListen_due {s : State} (h : s.loader.part = .warmListen) (k : 30 ≤ s.loader.warmCount) :
    endWarmListen s = enterActive s := if_pos ⟨h, k⟩

theorem endWarmListen_not_due {s : State} (h : s.loader.part = .warmListen → s.loader.warmCount < 30) : endWarmListen s = s :=
  if_neg fun k => absurd k.2 (Nat.not_le.mpr (h k.1))

theorem ageingTick_eq {s : State} (hr : s.loader.inReset = false) (h : s.clock.ageing.isSome = true) : exec .ageingTick s =
    .next (settle (endWarmListen (countWarmTick (agePeers (stampTick s))))) := by
  rw [show exec .ageingTick s = _ from outOfReset_released hr _, if_pos h]

/-- The Peer Table after a tick (R64 to R66). -/
theorem agePeers_eq {s : State} (h : PeerLaw s) : (agePeers s).peers =
    (s.peers.filter fun x => decide (x.age + 1 < 30)).map fun x =>
      { x with age := x.age + 1, state := if 8 ≤ x.age + 1 then .stale else .fresh } := by
  obtain ⟨-, hby, hrec, -⟩ := h
  have hfresh : ∀ x ∈ s.peers, x.state = .fresh ↔ x.age < 8 := fun x hx => by
    obtain ⟨-, -, -, hf, -⟩ := hrec x hx; exact hf
  rw [agePeers_peers hby hfresh, flatMap_afterTick]; rfl

/-- Settles O12: the tick of the table by its frame and its equation, and the three cases of the count. -/
theorem ageingTickAgesEveryPeer : Obligations.AgeingTickAgesEveryPeer := by
  intro s hr hageing hlaw
  let u := agePeers (stampTick s)
  have hu : OnlyPeers (stampTick s) u := agePeers_frame (stampTick s)
  have hpeers : u.peers = _ := agePeers_eq (s := stampTick s) hlaw
  have hmap : KeepsMap u (settle (endWarmListen (countWarmTick u))) :=
    ((countWarmTick_keepsMap u).trans (endWarmListen_keepsMap _)).trans (settle_frame _).keepsPart.keepsMap
  have hpart : u.loader = s.loader := hu.loader
  refine ⟨_, ageingTick_eq hr hageing, hmap.clock.trans hu.clock, hmap.peers.trans hpeers, fun hp => ?_, fun hp hc => ?_,
    fun hp hc => ?_⟩
  · have hp' : u.loader.part ≠ .warmListen := by rwa [hpart]
    rw [countWarmTick_elsewhere hp', endWarmListen_not_due fun k => absurd k hp']
    exact hu.trans (settle_frame u).claimsFrame.peersFrame
  · have hp' : u.loader.part = .warmListen := by rwa [hpart]
    have hcount : min 30 (u.loader.warmCount + 1) = s.loader.warmCount + 1 := by rw [hpart]; omega
    have hnot : endWarmListen (withWarmCount (s.loader.warmCount + 1) u) = _ := endWarmListen_not_due fun _ => hc
    rw [countWarmTick_listening hp', hcount, hnot]
    refine OnlyPeers.trans ?_ (settle_frame _).claimsFrame.peersFrame
    obtain ⟨⟩ := hu; constructor <;> simp only [*] <;> rfl
  · have hp' : u.loader.part = .warmListen := by rwa [hpart]
    have hcount : min 30 (u.loader.warmCount + 1) = 30 := by rw [hpart]; omega
    have hdue : endWarmListen (withWarmCount 30 u) = _ := endWarmListen_due hp' le_rfl
    rw [countWarmTick_listening hp', hcount, hdue]
    have hsettled := settle_frame (enterActive (withWarmCount 30 u))
    have h := (enterActive_frame (withWarmCount 30 u)).trans hsettled.claimsFrame.andLines
    refine ⟨?_, h.growth, ?_, h.bufA.trans hu.bufA, h.bufB.trans hu.bufB, h.dropped.trans hu.dropped,
      h.reception.trans hu.reception, ?_, ?_, h.levels.trans hu.levels, h.sweep.trans hu.sweep, h.link.trans hu.link,
      h.demand.trans hu.demand, h.mask.trans hu.mask, h.pins.trans hu.pins, h.pending.trans hu.pending⟩
    · rw [h.loader, ← hpart]; rfl
    · rw [h.timer]; rfl
    · rw [h.tiles]; exact hu.locked
    · rw [h.tiles]; exact hu.inWindow

end Sys2Proof.Machine

/-! A step on an empty queue (R23, R37, R41, R45, R47, R56, R82, R139, R164, O2): the messages between the blocks arrive, or one
microsecond passes. -/

namespace Sys2Proof.Machine

/-! ### Running times -/

theorem due_eq (left : Option Nat) (c : Instr) : due left c = if left = some 0 ∨ left = some 1 then [c] else [] := by
  cases left with
  | none => rfl
  | some n =>
    have h : n ≤ 1 ↔ some n = some 0 ∨ some n = some 1 := by simp only [Option.some.injEq]; omega
    rw [due]; simp only [h]

theorem linkMeasures_iff (s : State) : linkMeasures s = true ↔
    s.pins.linkSelected = true ∧ s.link.state ≠ .idle ∧ s.link.timedOut = false := by
  simp [linkMeasures, and_assoc]

theorem linkTimeout_iff (s : State) : (linkMeasures s && decide (30000 ≤ s.link.sinceEdge + 1)) = true ↔
    (s.pins.linkSelected = true ∧ s.link.state ≠ .idle ∧ s.link.timedOut = false) ∧ 30000 ≤ s.link.sinceEdge + 1 := by
  rw [Bool.and_eq_true, linkMeasures_iff, decide_eq_true_iff]

/-! ### The step -/

theorem step_empty {s : State} (h : s.pending = []) : step s = .next (idle s) := by rw [step, h]

theorem idle_delivers {s : State} (h : s.outbox ≠ []) : idle s = deliver s := if_neg h

theorem idle_passes {s : State} (h : s.outbox = []) : idle s = passMicrosecond s := if_pos h

/-- Settles O2: the two cases of the outbox, and the commands that fall due, each by its running time. -/
theorem emptyQueueDeliversOrPassesTime : Obligations.EmptyQueueDeliversOrPassesTime := by
  intro s h
  refine ⟨fun ho => ?_, fun ho => ?_⟩
  · rw [step_empty h, idle_delivers ho, deliver, h, List.nil_append]
  · rw [step_empty h, idle_passes ho, passMicrosecond, dueCommands, h, List.nil_append]
    simp only [due_eq, linkMeasures_iff, Config.linkTimeout, linkTimeout_iff]
    cases s.chan.bufA <;> cases s.chan.bufB <;> rfl

end Sys2Proof.Machine

/-! What the insertion of a frame's runs makes of one tile's claimant list (R5, R61): either every claim of the station is refused and the
list is as it was, or the strongest of its claims is in the list, in the place of the third entry where there were three. -/

namespace Sys2Proof.Machine

/-! ### Claims of one station -/

/-- An announced run as a contender (R10). -/
abbrev HeardRun.contender (p : Nat) (h : HeardRun) : Contender := ⟨h.cls, h.phase, p⟩

/-- Class rank first, then phase: what decides between two claims of one station. -/
def HeardRun.strength (h : HeardRun) : Nat := 2 * rank h.cls + phaseBit h.phase

theorem beats_same_station (p : Nat) (a b : HeardRun) :
    beats (a.contender p) (b.contender p) = true ↔ b.strength < a.strength := by
  obtain ⟨-, k, x⟩ := a; obtain ⟨-, l, y⟩ := b
  cases x <;> cases y <;> cases k <;> cases l <;> simp [beats, rank, HeardRun.strength, phaseBit]

theorem oldStronger_same_station (p : Nat) (a b : HeardRun) :
    oldStronger (entryOf p a) (entryOf p b) = true ↔ b.strength < a.strength := by
  obtain ⟨-, k, x⟩ := a; obtain ⟨-, l, y⟩ := b
  cases x <;> cases y <;> cases k <;> cases l <;> simp [oldStronger, entryOf, rank, HeardRun.strength, phaseBit]

/-! ### One entry -/

/-- Where an entry is placed: behind the entries that beat it, before the first that does not (R5). -/
theorem placeEntry_split (e : ClaimantEntry) (l : List ClaimantEntry) : ∃ front back, l = front ++ back ∧
    placeEntry e l = front ++ e :: back ∧ (∀ x ∈ front, entryBeats x e = true) ∧
    ∀ x ∈ back.head?, entryBeats x e = false := by
  induction l with
  | nil => exact ⟨[], [], rfl, rfl, nofun, nofun⟩
  | cons h t ih =>
    unfold placeEntry; split
    · rename_i hb
      obtain ⟨front, back, rfl, hplace, hfront, hback⟩ := ih
      refine ⟨h :: front, back, rfl, by rw [hplace]; rfl, fun x hx => ?_, hback⟩
      rcases List.mem_cons.mp hx with rfl | hx
      · exact hb
      · exact hfront x hx
    · rename_i hb
      refine ⟨[], h :: t, rfl, rfl, nofun, fun x hx => ?_⟩
      obtain rfl := Option.some.inj hx
      exact Bool.eq_false_iff.mpr hb

theorem removeStation_placeEntry {e : ClaimantEntry} {l : List ClaimantEntry} (h : ∀ x ∈ l, x.station ≠ e.station) :
    removeStation e.station (placeEntry e l) = l := by
  obtain ⟨front, back, rfl, hplace, -, -⟩ := placeEntry_split e l
  rw [hplace, removeStation, List.filter_append, List.filter_cons_of_neg (by simp)]
  exact congrArg₂ _ (removeStation_of_absent fun x hx => h x (List.mem_append_left _ hx))
    (removeStation_of_absent fun x hx => h x (List.mem_append_right _ hx))

/-- The claim of a station that had none is refused: the three entries that are kept beat it. -/
abbrev Refuses (e : ClaimantEntry) (l : List ClaimantEntry) : Prop :=
  3 ≤ l.length ∧ insertEntry e l = l.take 3 ∧ ∀ x ∈ l.take 3, entryBeats x e = true

/-- An entry is the one of its station in a list whose other entries are given. -/
abbrev StoredBeside (e : ClaimantEntry) (others l : List ClaimantEntry) : Prop :=
  e ∈ l ∧ (∀ x ∈ l, x.station = e.station → x = e) ∧ removeStation e.station l = others

theorem storedBeside_placeEntry {e : ClaimantEntry} {l : List ClaimantEntry} (h : ∀ x ∈ l, x.station ≠ e.station) :
    StoredBeside e l (placeEntry e l) := by
  refine ⟨(placeEntry_perm e l).mem_iff.mpr (.head _), fun x hx hs => ?_, removeStation_placeEntry h⟩
  rcases List.mem_cons.mp ((placeEntry_perm e l).subset hx) with rfl | hx
  · rfl
  · exact absurd hs (h x hx)

/-- The claim of a station that had none is refused, or stored; in a full list it is stored where it beats one of the first three (R5). -/
theorem insertEntry_new {e : ClaimantEntry} {l : List ClaimantEntry} (h : ∀ x ∈ l, x.station ≠ e.station) :
    Refuses e l ∨ StoredBeside e (l.take 2) (insertEntry e l) ∧
      (3 ≤ l.length → ∃ x ∈ l.take 3, entryBeats e x = true) := by
  have hnone : l.find? (fun x => x.station == e.station) = none := List.find?_eq_none.mpr fun x hx => by simpa using h x hx
  have hins : insertEntry e l = (placeEntry e l).take 3 := by rw [insertEntry, hnone]
  obtain ⟨front, back, rfl, hplace, hfront, hback⟩ := placeEntry_split e l
  by_cases hlen : 3 ≤ front.length
  · refine .inl ⟨by rw [List.length_append]; omega, ?_, fun x hx => ?_⟩
    · rw [hins, hplace, List.take_append_of_le_length hlen, List.take_append_of_le_length hlen]
    · rw [List.take_append_of_le_length hlen] at hx; exact hfront x (List.mem_of_mem_take hx)
  · have htake : ∀ k, (front ++ back).take (front.length + k) = front ++ back.take k := fun k => List.take_length_add_append k
    obtain ⟨k, hk⟩ : ∃ k, 2 = front.length + k := ⟨2 - front.length, by omega⟩
    have hlist : insertEntry e (front ++ back) = front ++ e :: back.take k := by
      rw [hins, hplace, show 3 = front.length + (k + 1) by omega, List.take_length_add_append, List.take_succ_cons]
    refine .inr ⟨?_, fun hl => ?_⟩
    · have hothers : ∀ x ∈ front ++ back.take k, x.station ≠ e.station := fun x hx => by
        rcases List.mem_append.mp hx with hx | hx
        · exact h x (List.mem_append_left _ hx)
        · exact h x (List.mem_append_right _ (List.mem_of_mem_take hx))
      rw [hlist, hk, htake]
      refine ⟨by simp, fun x hx hs => ?_, ?_⟩
      · rcases List.mem_cons.mp (List.perm_middle.subset hx) with rfl | hx
        · rfl
        · exact absurd hs (hothers x hx)
      · rw [removeStation, List.filter_append, List.filter_cons_of_neg (by simp), ← List.filter_append]
        exact removeStation_of_absent hothers
    · rw [List.length_append] at hl
      obtain ⟨x, rest, rfl⟩ := List.exists_cons_of_length_pos (l := back) (by omega)
      have hx : x ∈ front ++ x :: rest := by simp
      refine ⟨x, ?_, beats_total (h x hx) (hback x rfl)⟩
      rw [show 3 = front.length + (k + 1) by omega, htake, List.take_succ_cons]; simp

/-- Of two claims of one station the stronger is kept, in the place that it takes (R5). -/
theorem insertEntry_stored {p : Nat} {y h : HeardRun} {others l : List ClaimantEntry}
    (hl : StoredBeside (entryOf p y) others l) :
    StoredBeside (entryOf p (if h.strength < y.strength then y else h)) others (insertEntry (entryOf p h) l) := by
  obtain ⟨hmem, hone, hrest⟩ := hl
  obtain ⟨old, hold⟩ : ∃ old, l.find? (fun x => x.station == p) = some old :=
    Option.isSome_iff_exists.mp (List.find?_isSome.mpr ⟨_, hmem, by simp [entryOf]⟩)
  have hstation : old.station = p := by simpa using List.find?_some hold
  have heq : old = entryOf p y := hone old (List.mem_of_find?_eq_some hold) hstation
  have hpick : (if oldStronger (entryOf p y) (entryOf p h) then entryOf p y else entryOf p h) =
      entryOf p (if h.strength < y.strength then y else h) := by
    simp only [oldStronger_same_station]; split <;> rfl
  have hins : insertEntry (entryOf p h) l = placeEntry (entryOf p (if h.strength < y.strength then y else h)) others := by
    rw [insertEntry, show (entryOf p h).station = p from rfl, hold, heq, ← hrest, ← hpick]; rfl
  rw [hins]
  exact storedBeside_placeEntry fun x hx => by rw [← hrest] at hx; exact (mem_removeStation.mp hx).2

/-! ### The runs of a frame -/

/-- A tile's list after some claims of station `p` have come to the list `l`: all refused by the entries kept, or the strongest of them
stored, which a full list does only where one of them beats one of its entries. -/
def Inserted (p : Nat) (done : List HeardRun) (l m : List ClaimantEntry) : Prop :=
  (3 ≤ l.length ∧ m = l.take 3 ∧ ∀ x ∈ m, ∀ d ∈ done, beats x.contender (d.contender p) = true) ∨
    (∃ y ∈ done, StoredBeside (entryOf p y) (l.take 2) m ∧ ∀ d ∈ done, d.strength ≤ y.strength) ∧
      (3 ≤ l.length → ∃ d ∈ done, ∃ x ∈ l.take 3, beats (d.contender p) x.contender = true)

/-- The first claim of a station that has none. -/
theorem inserted_first {p : Nat} {h : HeardRun} {l : List ClaimantEntry} (hl : ∀ x ∈ l, x.station ≠ p) :
    Inserted p [h] l (insertEntry (entryOf p h) l) := by
  rcases insertEntry_new (e := entryOf p h) hl with ⟨hlen, heq, hbeat⟩ | ⟨hst, hstrike⟩
  · refine .inl ⟨hlen, heq, fun x hx d hd => ?_⟩
    obtain rfl := List.mem_singleton.mp hd
    exact hbeat x (heq ▸ hx)
  · exact .inr ⟨⟨h, .head _, hst, fun d hd => by rw [List.mem_singleton.mp hd]⟩, fun k => ⟨h, .head _, hstrike k⟩⟩

/-- One claim more. -/
theorem Inserted.next {p : Nat} {done : List HeardRun} {l m : List ClaimantEntry} (hl : ∀ x ∈ l, x.station ≠ p)
    (hm : Inserted p done l m) (h : HeardRun) : Inserted p (done ++ [h]) l (insertEntry (entryOf p h) m) := by
  have hnew : h ∈ done ++ [h] := List.mem_append_right _ (.head _)
  have hcases : ∀ {d}, d ∈ done ++ [h] → d ∈ done ∨ d = h := fun hd =>
    (List.mem_append.mp hd).imp_right List.mem_singleton.mp
  rcases hm with ⟨hlen, rfl, hbeat⟩ | ⟨⟨y, hy, hst, hmax⟩, hstrike⟩
  · have htake : ∀ k ≤ 3, (l.take 3).take k = l.take k := fun k hk => by rw [List.take_take, Nat.min_eq_left hk]
    have hlen3 : 3 ≤ (l.take 3).length := by rw [List.length_take]; omega
    have hsub : ∀ x ∈ l.take 3, x.station ≠ p := fun x hx => hl x (List.mem_of_mem_take hx)
    rcases insertEntry_new (e := entryOf p h) hsub with ⟨-, heq, hall⟩ | ⟨hst, hstrikes⟩
    · rw [htake 3 le_rfl] at heq hall
      refine .inl ⟨hlen, heq, fun x hx d hd => ?_⟩
      rw [heq] at hx
      rcases hcases hd with hd | rfl
      · exact hbeat x hx d hd
      · exact hall x hx
    · obtain ⟨x, hx, hb⟩ := hstrikes hlen3
      rw [htake 3 le_rfl] at hx
      rw [htake 2 (by omega)] at hst
      refine .inr ⟨⟨h, hnew, hst, fun d hd => ?_⟩, fun _ => ⟨h, hnew, x, hx, hb⟩⟩
      rcases hcases hd with hd | rfl
      · by_contra hlt
        have hdx := beats_trans ((beats_same_station p d h).mpr (Nat.not_le.mp hlt)) hb
        have hxd := beats_asymm hdx
        rw [hbeat x hx d hd] at hxd; cases hxd
      · exact le_rfl
  · refine .inr ⟨⟨if h.strength < y.strength then y else h, ?_, insertEntry_stored hst, fun d hd => ?_⟩, fun k => ?_⟩
    · split
      · exact List.mem_append_left _ hy
      · exact hnew
    · rcases hcases hd with hd | rfl
      · have := hmax d hd
        split <;> omega
      · split <;> omega
    · obtain ⟨d, hd, hx⟩ := hstrike k
      exact ⟨d, List.mem_append_left _ hd, hx⟩

/-- The insertion of a frame's runs into a list without an entry of the station (R61). -/
theorem insertedList_spec {p n : Nat} {new : List HeardRun} {l : List ClaimantEntry} (hl : ∀ x ∈ l, x.station ≠ p)
    (h : new.filter (fun x => runHas x.run n) ≠ []) :
    Inserted p (new.filter fun x => runHas x.run n) l (insertedList p new n l) := by
  unfold insertedList
  generalize new.filter (fun x => runHas x.run n) = done at h
  induction done using List.reverseRecOn with
  | nil => exact absurd rfl h
  | append_singleton done x ih =>
    rw [List.foldl_append, List.foldl_cons, List.foldl_nil]
    by_cases hd : done = []
    · subst hd; exact inserted_first hl
    · exact (ih hd).next hl x

theorem insertedList_uncovered {p n : Nat} {new : List HeardRun} (l : List ClaimantEntry)
    (h : new.filter (fun x => runHas x.run n) = []) : insertedList p new n l = l := by
  rw [insertedList, h]; rfl

end Sys2Proof.Machine

/-! The loss notices of a frame (R16, R62) read neither the Peer Table nor the map: what they do to a state they do to it with any other
table and map. So they may be taken after the frame's entries have all been placed. -/

namespace Sys2Proof.Machine

/-! ### States with another table and map -/

/-- A state with the table and the map given. -/
def State.onMap (peers : List PeerRecord) (tiles : List TileRecord) (s : State) : State :=
  { s with peers := peers, tiles := tiles }

/-- An operation that reads neither the table nor the map, and leaves them as they are. -/
abbrev MapBlind (f : State → State) : Prop :=
  ∀ (peers : List PeerRecord) (tiles : List TileRecord) (s : State), f (s.onMap peers tiles) = (f s).onMap peers tiles

section

variable (peers : List PeerRecord) (tiles : List TileRecord) (s : State)

theorem onMap_claim (r : Nat) : (s.onMap peers tiles).claim r = s.claim r := rfl
theorem onMap_loans : (s.onMap peers tiles).loans = s.loans := rfl
theorem onMap_highestData : highestData (s.onMap peers tiles) = highestData s := rfl
theorem onMap_grantMoved (k : ServiceClass) : grantMoved (s.onMap peers tiles) k = grantMoved s k := rfl
theorem onMap_answersFor (e : LoanEntry) : answersFor e (s.onMap peers tiles) = answersFor e s := rfl
theorem onMap_returnsHome (e : LoanEntry) : returnsHome e (s.onMap peers tiles) = returnsHome e s := rfl
theorem onMap_loanNames (i r : Nat) (g : BitVec 4) : loanNames i r g (s.onMap peers tiles) = loanNames i r g s := rfl
theorem onMap_loanIs (i : Nat) (x : LoanState) : loanIs i x (s.onMap peers tiles) = loanIs i x s := rfl
theorem onMap_anyNoisy (r : Nat) : anyNoisy (s.onMap peers tiles) r = anyNoisy s r := rfl
theorem onMap_noticeApplies (r : Nat) (g : BitVec 4) (t : Nat) :
    noticeApplies r g t (s.onMap peers tiles) = noticeApplies r g t s := rfl

end

/-! ### The shared operations -/

theorem latch_mapBlind (c : Cause) : MapBlind (latch c) := fun _ _ _ => rfl
theorem setClaim_mapBlind (r : Nat) (c : ClaimRecord) : MapBlind (setClaim r c) := fun _ _ _ => rfl
theorem requestPlacement_mapBlind (r : Nat) : MapBlind (requestPlacement r) := fun _ _ _ => rfl
theorem cancel_mapBlind (r : Nat) : MapBlind (cancel r) := fun _ _ _ => rfl
theorem releaseRun_mapBlind (r : Nat) : MapBlind (releaseRun r) := fun _ _ _ => rfl
theorem commitGrant_mapBlind (k : ServiceClass) (c : GrantCause) (d : Option Nat) : MapBlind (commitGrant k c d) :=
  fun _ _ _ => rfl
theorem cutRecord_mapBlind (r : Nat) (x : Option Run) : MapBlind (cutRecord r x) := fun _ _ _ => rfl
theorem inheritSuccessor_mapBlind (q : Nat) : MapBlind (inheritSuccessor q) := fun _ _ _ => rfl

/-! ### Trims -/

theorem trimTile_mapBlind (r t : Nat) : MapBlind (trimTile r t) := fun ps ts s => by
  unfold trimTile; rw [onMap_claim]; split <;> rfl

theorem cancelCut_mapBlind (r : Nat) (x : Option Run) : MapBlind (cancelCut r x) := fun ps ts s => by
  unfold cancelCut; split <;> rfl

theorem cutTop_mapBlind (r : Nat) (cut : List Nat) : MapBlind (cutTop r cut) := fun ps ts s => by
  unfold cutTop; rw [onMap_claim]; split
  · split
    · rw [setClaim_mapBlind, cancelCut_mapBlind]
    · rw [cutRecord_mapBlind, cancelCut_mapBlind]
  · rfl

theorem cutHighest_mapBlind (k : Nat) : ∀ cut, MapBlind (cutHighest k cut) := by
  induction k with
  | zero => exact fun _ _ _ _ => rfl
  | succ k ih =>
    intro cut ps ts s; unfold cutHighest; rw [onMap_highestData]; split
    · rw [cutTop_mapBlind, ih]
    · rfl

theorem topDownTrim_mapBlind (k : Nat) : MapBlind (topDownTrim k) := fun ps ts s => by
  unfold topDownTrim; split
  · rfl
  · rw [cutHighest_mapBlind]; rfl

theorem trimToCeiling_mapBlind : MapBlind trimToCeiling := fun ps ts s => topDownTrim_mapBlind _ ps ts s

/-! ### The Loan Stack -/

theorem settleReturned_mapBlind (e : LoanEntry) : MapBlind (settleReturned e) := fun ps ts s => by
  unfold settleReturned; rw [onMap_answersFor, onMap_returnsHome]; split
  · split <;> rfl
  · rfl

theorem unwindStack_mapBlind (n : Nat) : MapBlind (unwindStack n) := by
  induction n with
  | zero => exact fun _ _ _ => rfl
  | succ n ih =>
    intro ps ts s; unfold unwindStack; rw [onMap_loans]; split
    · split
      · rfl
      · exact ih ps ts { s with loans := s.loans.dropLast }
      · have h := settleReturned_mapBlind ‹LoanEntry› ps ts { s with loans := s.loans.dropLast }
        exact (congrArg (unwindStack n) h).trans (ih ps ts _)
    · rfl

theorem unwind_mapBlind : MapBlind unwind := fun ps ts s => by
  unfold unwind; dsimp only
  rw [onMap_loans, unwindStack_mapBlind, onMap_grantMoved]; split
  · rw [commitGrant_mapBlind, trimToCeiling_mapBlind]
  · rfl

theorem voidLoan_mapBlind (i r : Nat) (g : BitVec 4) : MapBlind (voidLoan i r g) := fun ps ts s => by
  unfold voidLoan; rw [onMap_loanNames, onMap_loanIs, onMap_loans]; split
  · split
    · exact unwind_mapBlind ps ts (markLoan i .void s)
    · rfl
  · rfl

theorem voidLoanOf_mapBlind (r : Nat) (c : ClaimRecord) : MapBlind (voidLoanOf r c) := fun ps ts s => by
  unfold voidLoanOf; split
  · exact voidLoan_mapBlind _ _ _ ps ts s
  · rfl

/-! ### Losses -/

theorem tentativeLoss_mapBlind (r : Nat) : MapBlind (tentativeLoss r) := fun ps ts s => by
  unfold tentativeLoss; rw [onMap_claim]; dsimp only; split <;> rfl

theorem successorLoss_mapBlind (r p : Nat) : MapBlind (successorLoss r p) := fun ps ts s => by
  unfold successorLoss; dsimp only
  rw [releaseRun_mapBlind, onMap_claim, onMap_claim, setClaim_mapBlind, setClaim_mapBlind, cancel_mapBlind, onMap_anyNoisy]
  split <;> rfl

theorem freeSuccessor_mapBlind (c : ClaimRecord) : MapBlind (freeSuccessor c) := fun ps ts s => by
  unfold freeSuccessor; split <;> rfl

theorem heldLoss_mapBlind (r w : Nat) : MapBlind (heldLoss r w) := fun ps ts s => by
  unfold heldLoss; dsimp only
  rw [onMap_claim, latch_mapBlind, releaseRun_mapBlind, setClaim_mapBlind, requestPlacement_mapBlind, freeSuccessor_mapBlind,
    commitGrant_mapBlind, voidLoanOf_mapBlind]

theorem movingLoss_mapBlind (r w : Nat) : MapBlind (movingLoss r w) := fun ps ts s => by
  unfold movingLoss; dsimp only
  rw [onMap_claim, latch_mapBlind, releaseRun_mapBlind, setClaim_mapBlind]; split
  · rw [inheritSuccessor_mapBlind, commitGrant_mapBlind, voidLoanOf_mapBlind]
  · rw [commitGrant_mapBlind, voidLoanOf_mapBlind]

theorem releaseAndFree_mapBlind (r : Nat) : MapBlind (releaseAndFree r) := fun ps ts s => by
  unfold releaseAndFree; dsimp only
  rw [onMap_claim, releaseRun_mapBlind, setClaim_mapBlind, voidLoanOf_mapBlind]

theorem dataLoss_mapBlind (r t w : Nat) : MapBlind (dataLoss r t w) := fun ps ts s => by
  unfold dataLoss; rw [latch_mapBlind, trimTile_mapBlind, commitGrant_mapBlind]

/-- A loss notice is applied without a look at the table or the map (R87 to R90). -/
theorem applyLoss_mapBlind (r : Nat) (g : BitVec 4) (t w : Nat) : MapBlind (applyLoss r g t w) := fun ps ts s => by
  unfold applyLoss; rw [onMap_noticeApplies, onMap_claim]; split
  · cases (s.claim r).phase with
    | free => rfl
    | seeking => rfl
    | tentative =>
      dsimp only; split
      · exact successorLoss_mapBlind _ _ ps ts s
      · exact tentativeLoss_mapBlind _ ps ts s
    | held =>
      dsimp only; split
      · exact dataLoss_mapBlind _ _ _ ps ts s
      · exact heldLoss_mapBlind _ _ ps ts s
    | moving => exact movingLoss_mapBlind _ _ ps ts s
    | draining => exact releaseAndFree_mapBlind _ ps ts s
    | parked => exact releaseAndFree_mapBlind _ ps ts s
  · rfl

theorem contend_mapBlind (t : Nat) (e : ClaimantEntry) : MapBlind (contend t e) := fun ps ts s => by
  have hcontested : contested t e (s.onMap ps ts) = contested t e s := rfl
  unfold contend; rw [hcontested]; split
  · exact applyLoss_mapBlind _ _ _ _ ps ts s
  · rfl

/-! ### The notices of a frame -/

/-- Two states agree on everything but the table and the map. -/
abbrev OffMap (u w : State) : Prop := u = w.onMap u.peers u.tiles

theorem MapBlind.offMap {f : State → State} (h : MapBlind f) {u w : State} (k : OffMap u w) : OffMap (f u) (f w) := by
  rw [OffMap, k, h]; rfl

/-- One comparison of `lossNotices`: a run of station `p` on tile `n` with the own record that holds it (R16). -/
def lossNotice (p : Nat) (h : HeardRun) (w : State) (n : Nat) : State :=
  match ownRecord w n with
  | some r =>
    if beats (h.contender p) ((w.claim r).contender ((ownId w).getD 0)) then applyLoss r (w.claim r).generation n p w else w
  | none => w

theorem contend_entryOf (p n : Nat) (h : HeardRun) (w : State) : contend n (entryOf p h) w = lossNotice p h w n := by
  unfold contend contested lossNotice
  cases ownRecord w n with
  | none => rfl
  | some r =>
    dsimp only
    by_cases hb : beats (h.contender p) ((w.claim r).contender ((ownId w).getD 0)) = true
    · rw [if_pos hb, if_pos (by exact hb)]; rfl
    · rw [if_neg hb, if_neg (by exact hb)]

/-- The comparisons of one run, from its lowest tile upward (R62). -/
def runNotices (p : Nat) (s : State) (h : HeardRun) : State := (runTiles h.run).foldl (lossNotice p h) s

theorem lossNotices_eq (p : Nat) (entries : List HeardRun) (s : State) :
    lossNotices p entries s = entries.foldl (runNotices p) s := rfl

theorem presentEntry_offMap {p : Nat} {u w : State} (hown : ownId u ≠ some p) (h : OffMap u w) (x : HeardRun) (t : Nat) :
    OffMap (presentEntry (entryOf p x) u t) (lossNotice p x w t) := by
  have hplaced : OffMap { u with tiles := changeClaimants t (insertEntry (entryOf p x)) u.tiles } w := by rw [OffMap, h]; rfl
  unfold presentEntry; rw [if_neg (by exact hown), ← contend_entryOf]; exact (contend_mapBlind t _).offMap hplaced

theorem insertRun_offMap {p : Nat} {u w : State} (hown : ownId u ≠ some p) (h : OffMap u w) (x : HeardRun) :
    OffMap (insertRun p u x) (runNotices p w x) := by
  unfold insertRun runNotices
  generalize runTiles x.run = l
  induction l generalizing u w with
  | nil => exact h
  | cons t l ih => exact ih (by rwa [presentEntry_ownId]) (presentEntry_offMap hown h x t)

/-- What the insertion of a frame's runs does off the map is what its loss notices do (R62). -/
theorem insertRuns_offMap {p : Nat} (new : List HeardRun) : ∀ {u w : State}, ownId u ≠ some p → OffMap u w →
    OffMap (new.foldl (insertRun p) u) (new.foldl (runNotices p) w) := by
  induction new with
  | nil => exact fun _ h => h
  | cons x new ih =>
    intro u w hown h
    have hnext : ownId (insertRun p u x) ≠ some p := by rwa [ownId, (insertRun_frame p u x).loader]
    exact ih hnext (insertRun_offMap hown h x)

theorem lossNotices_frame (p : Nat) (entries : List HeardRun) (s : State) : OnlyClaims s (lossNotices p entries s) := by
  rw [lossNotices_eq]
  refine foldl_frame OnlyClaims .refl .trans _ (fun s h => ?_) entries s
  exact foldl_frame OnlyClaims .refl .trans _ (fun w n => contend_entryOf p n h w ▸ contend_frame n _ w) _ s

/-- The application of a frame is its loss notices over the table and the map that it leaves (R60 to R62). -/
theorem replaceClaims_eq {p : Nat} {s u : State} (hown : ownId u ≠ some p) (h : OffMap u s) (old new : List HeardRun) :
    replaceClaims p old new u = lossNotices p new
      (s.onMap (replaceClaims p old new u).peers (replaceClaims p old new u).tiles) := by
  generalize hv : replaceClaims p old new u = v
  have hstart : OffMap { u with tiles := removeClaims p old u.tiles, peers := putPeer ⟨p, .fresh, 0, new⟩ u.peers }
      (s.onMap v.peers v.tiles) := by rw [OffMap, h]; rfl
  have hend : OffMap v (lossNotices p new (s.onMap v.peers v.tiles)) := by
    rw [lossNotices_eq, ← hv]; rw [← hv] at hstart; exact insertRuns_offMap new hown hstart
  have hframe := lossNotices_frame p new (s.onMap v.peers v.tiles)
  exact hend.trans (congrArg₂ (fun ps ts => State.onMap ps ts (lossNotices p new (s.onMap v.peers v.tiles)))
    hframe.peers.symm hframe.tiles.symm)

end Sys2Proof.Machine

/-! The application of a frame without LEAVING (R58, R60 to R62, O16): the table, each tile's list, and the loss notices. -/

namespace Sys2Proof.Machine

/-! ### A tile's list, case by case -/

section

variable {p : Nat} {done : List HeardRun} {l m : List ClaimantEntry}

theorem StoredBeside.any {y : HeardRun} (h : StoredBeside (entryOf p y) l m) : m.any (fun e => e.station == p) = true :=
  List.any_eq_true.mpr ⟨_, h.1, by simp [entryOf]⟩

/-- Beside fewer than three entries the station's claim is stored, and they are kept. -/
theorem Inserted.short (h : Inserted p done l m) (hl : l.length < 3) : ∃ y ∈ done, StoredBeside (entryOf p y) l m := by
  rcases h with ⟨hlen, -⟩ | ⟨⟨y, hy, hst, -⟩, -⟩
  · omega
  · rw [List.take_of_length_le (by omega)] at hst; exact ⟨y, hy, hst⟩

/-- Of three entries the last falls off where a claim of the station beats one of them. -/
theorem Inserted.struck (h : Inserted p done l m) (hl : l.length = 3)
    (k : ∃ d ∈ done, ∃ x ∈ l, beats (d.contender p) x.contender = true) :
    ∃ y ∈ done, StoredBeside (entryOf p y) l.dropLast m := by
  rcases h with ⟨-, rfl, hbeat⟩ | ⟨⟨y, hy, hst, -⟩, -⟩
  · obtain ⟨d, hd, x, hx, hb⟩ := k
    have hxd := hbeat x (by rwa [List.take_of_length_le hl.le]) d hd
    rw [beats_asymm hb] at hxd; cases hxd
  · rw [List.dropLast_eq_take, hl]; exact ⟨y, hy, hst⟩

/-- Three entries of which the station's claims beat none are all kept. -/
theorem Inserted.unstruck (h : Inserted p done l m) (hl : l.length = 3)
    (k : ¬∃ d ∈ done, ∃ x ∈ l, beats (d.contender p) x.contender = true) : m = l := by
  rcases h with ⟨-, hm, -⟩ | ⟨-, hstrike⟩
  · rw [hm, List.take_of_length_le hl.le]
  · obtain ⟨d, hd, x, hx, hb⟩ := hstrike hl.ge
    exact absurd ⟨d, hd, x, List.mem_of_mem_take hx, hb⟩ k

/-- The entry of the station is beaten by none of its claims. -/
theorem Inserted.strongest (h : Inserted p done l m) (hl : ∀ x ∈ l, x.station ≠ p) {e : ClaimantEntry} (he : e ∈ m)
    (hp : e.station = p) {d : HeardRun} (hd : d ∈ done) : beats (d.contender p) e.contender = false := by
  rcases h with ⟨-, rfl, -⟩ | ⟨⟨y, -, ⟨-, hone, -⟩, hmax⟩, -⟩
  · exact absurd hp (hl e (List.mem_of_mem_take he))
  · rw [hone e he hp]
    exact Bool.eq_false_iff.mpr fun hb => absurd ((beats_same_station p d y).mp hb) (Nat.not_lt.mpr (hmax d hd))

end

section

variable {p n : Nat} {new : List HeardRun} {l : List ClaimantEntry}

/-- Beside fewer than three entries a covered tile has a claim of the station (R5). -/
theorem insertedList_any (hl : ∀ x ∈ l, x.station ≠ p) (hcov : new.any (fun h => runHas h.run n) = true)
    (hlen : l.length < 3) : (insertedList p new n l).any (fun e => e.station == p) = true := by
  obtain ⟨h, hh, hhas⟩ := List.any_eq_true.mp hcov
  have hc : new.filter (fun h => runHas h.run n) ≠ [] := List.ne_nil_of_mem (List.mem_filter.mpr ⟨hh, hhas⟩)
  obtain ⟨y, -, hstored⟩ := (insertedList_spec hl hc).short hlen
  exact hstored.any

/-- Of two runs of the station on one tile the stronger one's claim is kept (R5). -/
theorem insertedList_strongest (hl : ∀ x ∈ l, x.station ≠ p) {e : ClaimantEntry} (he : e ∈ insertedList p new n l)
    (hp : e.station = p) {h : HeardRun} (hh : h ∈ new) (hcov : runHas h.run n = true) :
    beats (h.contender p) e.contender = false := by
  have hmem : h ∈ new.filter (fun h => runHas h.run n) := List.mem_filter.mpr ⟨hh, hcov⟩
  exact (insertedList_spec hl (List.ne_nil_of_mem hmem)).strongest hl he hp hmem

/-- What becomes of the other stations' entries on a tile (R5). -/
theorem insertedList_cases (hl : ∀ x ∈ l, x.station ≠ p) :
    let covers := new.filter (fun h => runHas h.run n)
    let strikes := ∃ h ∈ covers, ∃ e ∈ l, beats (h.contender p) e.contender = true
    (covers = [] → insertedList p new n l = l) ∧
      (l.length < 3 → removeStation p (insertedList p new n l) = l) ∧
      (covers ≠ [] → l.length = 3 → strikes → removeStation p (insertedList p new n l) = l.dropLast ∧
        (insertedList p new n l).any (fun e => e.station == p) = true) ∧
      (l.length = 3 → ¬strikes → insertedList p new n l = l) := by
  refine ⟨insertedList_uncovered l, fun hlen => ?_, fun hc hlen hstrike => ?_, fun hlen hstrike => ?_⟩
  · by_cases hc : new.filter (fun h => runHas h.run n) = []
    · rw [insertedList_uncovered l hc]; exact removeStation_of_absent hl
    · obtain ⟨y, -, -, -, hrest⟩ := (insertedList_spec hl hc).short hlen
      exact hrest
  · obtain ⟨y, -, hstored⟩ := (insertedList_spec hl hc).struck hlen hstrike
    exact ⟨hstored.2.2, hstored.any⟩
  · by_cases hc : new.filter (fun h => runHas h.run n) = []
    · exact insertedList_uncovered l hc
    · exact (insertedList_spec hl hc).unstruck hlen hstrike

end

/-! ### The table after a frame -/

section

variable {f : ReceivedFrame} {u : State}

theorem applyFrame_peers (hf : f.leaving = false) (hroom : HasRoom f.station u) :
    (applyFrame f u).peers = putPeer ⟨f.station, .fresh, 0, f.entries⟩ (makeRoom f.station u).peers := by
  rw [applyFrame_of_room hf hroom, replaceClaims_peers]

theorem applyFrame_peer_self (hf : f.leaving = false) (hroom : HasRoom f.station u) :
    peer (applyFrame f u) f.station = some ⟨f.station, .fresh, 0, f.entries⟩ := by
  rw [peer_eq_recordOf, applyFrame_peers hf hroom]; exact recordOf_putPeer_self ⟨f.station, .fresh, 0, f.entries⟩ _

theorem applyFrame_peer_ne (hf : f.leaving = false) (hroom : HasRoom f.station u) {q : Nat} (hq : q ≠ f.station) :
    peer (applyFrame f u) q = peer (makeRoom f.station u) q := by
  rw [peer_eq_recordOf, applyFrame_peers hf hroom]; exact recordOf_putPeer_ne (by exact hq) _

theorem applyFrame_peers_length (hlaw : TableLaw (ownId u) u.peers) (hf : f.leaving = false) (hroom : HasRoom f.station u) :
    (applyFrame f u).peers.length = if (peer u f.station).isSome then u.peers.length else min 24 (u.peers.length + 1) := by
  obtain ⟨hlen, hby, -⟩ := hlaw
  let x : PeerRecord := ⟨f.station, .fresh, 0, f.entries⟩
  have hpeer : recordOf x.station (makeRoom f.station u).peers = peer u f.station := makeRoom_peer hroom
  rw [applyFrame_peers hf hroom]
  rcases makeRoom_cases hroom with ⟨hs, hk⟩ | ⟨hp, hl, z, hz, hs⟩
  · rw [hs] at hpeer ⊢
    split
    · rename_i hsome; exact length_putPeer_known hby (hpeer ▸ hsome)
    · rename_i hnone
      rw [length_putPeer_new (hpeer.trans (by simpa using hnone))]
      have := hk.resolve_left hnone; omega
  · rw [hp] at hpeer
    have hlen' : (makeRoom f.station u).peers.length + 1 = u.peers.length := by
      rw [hs]; exact length_withoutPeer hby (evictee_spec hz).1
    rw [length_putPeer_new hpeer, hp]; simp only [Option.isSome_none, Bool.false_eq_true, if_false]; omega

/-- The records of other stations stay, but for the evicted one. -/
theorem mem_applyFrame_peers (h : Agreed u) (hf : f.leaving = false) (hroom : HasRoom f.station u) {x : PeerRecord}
    (hx : x ∈ (makeRoom f.station u).peers) (hne : x.station ≠ f.station) : x ∈ (applyFrame f u).peers := by
  rw [applyFrame_peers hf hroom]; exact (mem_putPeer (h.makeRoom f.station).1).mpr (.inr ⟨hx, hne⟩)

/-- A frame of a new station at a full table evicts a record (R58). -/
theorem applyFrame_evicts (hf : f.leaving = false) (hroom : HasRoom f.station u) (hnone : peer u f.station = none)
    (hfull : 24 ≤ u.peers.length) : ∃ z, evictee u.peers = some z ∧ makeRoom f.station u = deletePeer z u ∧
      peer (applyFrame f u) z.station = none := by
  rcases makeRoom_cases hroom with ⟨-, hk | hk⟩ | ⟨-, -, z, hz, hs⟩
  · rw [hnone] at hk; cases hk
  · exact absurd hk (Nat.not_lt.mpr hfull)
  · have hne : z.station ≠ f.station := recordOf_eq_none.mp hnone z (evictee_spec hz).1
    refine ⟨z, hz, hs, ?_⟩
    rw [applyFrame_peer_ne hf hroom hne, hs]; exact recordOf_withoutPeer_self _ _

/-- A FRESH record is never evicted (R58). -/
theorem fresh_mem_makeRoom (hby : ByStation u.peers) (hroom : HasRoom f.station u) {x : PeerRecord} (hx : x ∈ u.peers)
    (hfresh : x.state = .fresh) : x ∈ (makeRoom f.station u).peers := by
  rcases makeRoom_cases hroom with ⟨hs, -⟩ | ⟨-, -, z, hz, hs⟩ <;> rw [hs]
  · exact hx
  · obtain ⟨hmem, hstale, -⟩ := evictee_spec hz
    refine mem_withoutPeer.mpr ⟨hx, fun hst => ?_⟩
    rw [hby.station_inj hx hmem hst, hstale] at hfresh; cases hfresh

/-! ### The lists after a frame -/

/-- The entries that a frame of station `p` finds on a tile: those of other stations that have a record in `t`. -/
abbrev otherEntries (p n : Nat) (s t : State) : List ClaimantEntry :=
  (s.tile n).claimants.filter (fun e => decide (e.station ≠ p) && (peer t e.station).isSome)

theorem mem_otherEntries {p n : Nat} {s t : State} {e : ClaimantEntry} :
    e ∈ otherEntries p n s t ↔ e ∈ (s.tile n).claimants ∧ e.station ≠ p ∧ (peer t e.station).isSome = true := by
  simp [otherEntries]

/-- After room has been made, the entries on a tile are those of the stations that still have a record (R58, R72). -/
theorem makeRoom_claimants {p : Nat} (h : Agreed u) (n : Nat) : ((makeRoom p u).tile n).claimants =
    (u.tile n).claimants.filter (fun e => (peer (makeRoom p u) e.station).isSome) := by
  have hknown : ∀ e ∈ (u.tile n).claimants, (peer u e.station).isSome = true := fun e he => by
    obtain ⟨x, hx, hst, -⟩ := h.2 n e he
    rw [← hst, peer_eq_recordOf, h.1.recordOf_of_mem hx]; rfl
  have hsame : (u.tile n).claimants = (u.tile n).claimants.filter (fun e => (peer u e.station).isSome) :=
    (List.filter_eq_self.mpr hknown).symm
  unfold makeRoom; split
  · exact hsame
  · split
    · rename_i z hz
      have hpz : peer u z.station = some z := h.1.recordOf_of_mem (evictee_spec hz).1
      rw [h.deletePeer_claimants hpz]
      refine List.filter_congr fun e he => ?_
      by_cases hst : e.station = z.station
      · have hgone : peer (deletePeer z u) e.station = none := by rw [hst]; exact recordOf_withoutPeer_self _ _
        rw [hgone]; simp [hst]
      · obtain ⟨x, hx, hxe, -⟩ := h.2 n e he
        have hkept : peer (deletePeer z u) e.station = some x := by
          rw [← hxe]
          exact (h.1.withoutPeer _).recordOf_of_mem (mem_withoutPeer.mpr ⟨hx, fun k => hst (hxe.symm.trans k)⟩)
        rw [hkept]; simp [hst]
    · exact hsame

/-- A tile's list after a frame without LEAVING: the entries of the other stations, with the frame's runs inserted (R60, R61). -/
theorem applyFrame_claimants (h : Agreed u) (hown : ownId u ≠ some f.station) (hf : f.leaving = false)
    (hroom : HasRoom f.station u) {n : Nat} (hn : n < u.tiles.length) : ((applyFrame f u).tile n).claimants =
      insertedList f.station f.entries n (otherEntries f.station n u (applyFrame f u)) := by
  have hframe := makeRoom_frame f.station u
  have hown' : ownId (makeRoom f.station u) ≠ some f.station := by rwa [ownId, hframe.loader]
  have hlen : (makeRoom f.station u).tiles.length = u.tiles.length := by
    have := congrArg List.length hframe.locked; simpa using this
  have hothers : removeStation f.station ((makeRoom f.station u).tile n).claimants =
      otherEntries f.station n u (applyFrame f u) := by
    rw [makeRoom_claimants h, removeStation, List.filter_filter]
    refine List.filter_congr fun e _ => ?_
    by_cases hst : e.station = f.station
    · simp [hst]
    · rw [applyFrame_peer_ne hf hroom hst]
  rw [← hothers, ← (h.makeRoom f.station).cleared f.station n, applyFrame_of_room hf hroom]
  exact (replaceClaims_tiles _ f.entries hown').2 n (hlen.symm ▸ hn)

/-- The notices of a frame's comparisons, over the table and the map that the frame leaves (R16, R62). -/
theorem applyFrame_eq_lossNotices {s : State} (hown : ownId u ≠ some f.station) (hf : f.leaving = false)
    (hroom : HasRoom f.station u) (h : OffMap u s) : applyFrame f u =
      lossNotices f.station f.entries (s.onMap (applyFrame f u).peers (applyFrame f u).tiles) := by
  have hframe := makeRoom_frame f.station u
  have hown' : ownId (makeRoom f.station u) ≠ some f.station := by rwa [ownId, hframe.loader]
  have hoff : OffMap (makeRoom f.station u) s := by
    rcases makeRoom_cases hroom with ⟨hs, -⟩ | ⟨-, -, z, -, hs⟩ <;> rw [hs]
    · exact h
    · rw [OffMap, h]; rfl
  rw [applyFrame_of_room hf hroom]; exact replaceClaims_eq hown' hoff _ _

end

/-! ### The statement -/

/-- Settles O16: the table by its look-ups, each tile's list by its cases, and the own records by the notices. -/
theorem frameReplacesItsPeersClaims : Obligations.FrameReplacesItsPeersClaims := by
  intro bs got f s hr hrec hparse hf hown hlaw hroom
  obtain ⟨hpeers, hagreed⟩ := (agreementLaw_iff s).mp hlaw
  obtain ⟨htable, -⟩ := (peerLaw_iff s).mp hpeers
  have hu : Agreed (afterReception s) := hagreed.congr rfl rfl
  have hownu : ownId (afterReception s) ≠ some f.station := hown
  have hroomu : HasRoom f.station (afterReception s) := hroom
  generalize hv : applyFrame f (afterReception s) = v
  have hframe : OnlyPlacement v (settle v) := settle_frame v
  have hpeer : ∀ q, peer (settle v) q = peer v q := fun q => by rw [peer_eq_recordOf, hframe.peers]; rfl
  have hself : peer (settle v) f.station = some ⟨f.station, .fresh, 0, f.entries⟩ := by
    rw [hpeer, ← hv]; exact applyFrame_peer_self hf hroomu
  have hagreed' : Agreed (settle v) := Agreed.congr (hv ▸ hu.applyFrame hownu) hframe.peers hframe.tiles
  have hstays : ∀ x ∈ (makeRoom f.station (afterReception s)).peers, x.station ≠ f.station → x ∈ (settle v).peers :=
    fun x hx hne => by rw [hframe.peers, ← hv]; exact mem_applyFrame_peers hu hf hroomu hx hne
  have htile : ∀ n < s.tiles.length, ((settle v).tile n).claimants =
      insertedList f.station f.entries n (otherEntries f.station n s (settle v)) := fun n hn => by
    have hothers : otherEntries f.station n s (settle v) = otherEntries f.station n (afterReception s) v := by
      simp only [otherEntries, hpeer]; rfl
    rw [State.tile, hframe.tiles, hothers, ← hv]; exact applyFrame_claimants hu hownu hf hroomu hn
  have habsent : ∀ n, ∀ e ∈ otherEntries f.station n s (settle v), e.station ≠ f.station :=
    fun n e he => (mem_otherEntries.mp he).2.1
  refine ⟨settle v, hv ▸ receptionEnd_applied hr hrec hparse hown,
    (hv ▸ applyFrame_frame f _).trans hframe.claimsFrame.peersFrame, hself, ?_, fun x hx hne hfresh => ?_,
    fun hnone hfull => ?_, fun n _ e he hst => ?_, fun n hn hcov hshort => ?_, fun n hn e he hst h hh hcov => ?_,
    fun n hn => ?_, ?_⟩
  · rw [hframe.peers, ← hv]; exact applyFrame_peers_length (u := afterReception s) htable hf hroomu
  · exact hstays x (fresh_mem_makeRoom hu.1 hroomu hx hfresh) hne
  · obtain ⟨z, hz, hs, hgone⟩ := applyFrame_evicts hf hroomu hnone hfull
    obtain ⟨hmem, hstale, hbest⟩ := evictee_spec hz
    rw [hv, ← hpeer] at hgone
    refine ⟨z, hmem, hstale, hbest, hgone, fun x hx hne => ?_, fun n _ e he hst => ?_⟩
    · exact hstays x (by rw [hs]; exact mem_withoutPeer.mpr ⟨hx, hne⟩) (recordOf_eq_none.mp hnone x hx)
    · obtain ⟨y, hy, hye, -⟩ := hagreed'.2 n e he
      exact recordOf_eq_none.mp hgone y hy (hye.trans hst)
  · obtain ⟨⟨y, hy, hcov, hcls, hphase⟩, heff⟩ := hagreed'.entry (x := ⟨f.station, .fresh, 0, f.entries⟩) hself he hst
    exact ⟨heff, y, hy, hcov, hcls, hphase⟩
  · have hlen : (otherEntries f.station n s (settle v)).length < 3 :=
      Nat.lt_of_le_of_lt (List.monotone_filter_right _ fun e k => (Bool.and_eq_true_iff.mp k).1).length_le hshort
    rw [htile n hn]; exact insertedList_any (habsent n) hcov hlen
  · rw [htile n hn] at he; exact insertedList_strongest (habsent n) he hst hh hcov
  · rw [htile n hn]; exact insertedList_cases (habsent n)
  · have heq := applyFrame_eq_lossNotices hownu hf hroomu (s := afterReception s) rfl
    rw [hv] at heq
    rw [hframe.peers, hframe.tiles]; exact congrArg settle heq

end Sys2Proof.Machine

/-! What a step can do to the Claim Table, its grant records and the Loan Stack (R73, R95, R149): one inversion of the step into the events
at the table, so that a law of the table is kept by every step that its events keep it by. The close of a call and the taking of a
commit are told apart, because laws ask more of the state that they meet. -/

namespace Sys2Proof.Machine

/-! ### The events -/

/-- The claim records, the grant records, the loan entries and the configuration are as they were, and the configuration read has not
begun but from reset. -/
structure SameTable (s t : State) : Prop where
  claims : t.claims = s.claims
  grants : t.grants = s.grants
  loans : t.loans = s.loans
  config : t.loader.config = s.loader.config
  starting : t.loader.inReset = true ∨ t.loader.reading = true → s.loader.inReset = true ∨ s.loader.reading = true

namespace SameTable

theorem refl (s : State) : SameTable s s := ⟨rfl, rfl, rfl, rfl, id⟩

theorem trans {s t u : State} (h : SameTable s t) (k : SameTable t u) : SameTable s u :=
  ⟨k.claims.trans h.claims, k.grants.trans h.grants, k.loans.trans h.loans, k.config.trans h.config, h.starting ∘ k.starting⟩

theorem claim {s t : State} (h : SameTable s t) (r : Nat) : t.claim r = s.claim r := by
  rw [State.claim, State.claim, h.claims]

end SameTable

theorem OnlyPlacement.sameTable {s t : State} (h : OnlyPlacement s t) : SameTable s t :=
  ⟨h.claims, h.grants, h.loans, by rw [h.loader], by rw [h.loader]; exact id⟩

/-- The events at the Claim Table that the commands bring about, but for the close of a call and the taking of a commit. -/
inductive TableEvents : State → State → Prop where
  | same {s t : State} : SameTable s t → TableEvents s t
  | trans {s t u : State} : TableEvents s t → TableEvents t u → TableEvents s u
  | loss (r : Nat) (g : BitVec 4) (n w : Nat) (s : State) : TableEvents s (applyLoss r g n w s)
  | noise (r : Nat) (g : BitVec 4) (n : Nat) (s : State) : TableEvents s (applyNoise r g n s)
  | quiet (r : Nat) (g : BitVec 4) (n : Nat) (s : State) : TableEvents s (applyQuiet r g n s)
  | drain (r : Nat) (s : State) : TableEvents s (endDrain r s)
  | sent (s : State) (i : CarriedItem) : TableEvents s (sentItem s i)
  | build (s : State) (r : Nat) : TableEvents s (promoteIfDue s r)
  | lend {b l n : Nat} {bg lg : BitVec 4} {s : State} : lendTaken b bg l lg n s = true → TableEvents s (lend b bg l lg n s)
  | outcome {r : Nat} {s : State} : (s.claim r).phase = .seeking → TableEvents s (applyOutcome r s)
  | retry {r : Nat} {s : State} : (s.claim r).retry.isSome = true → TableEvents s (expireRetry r s)
  | growth (s : State) : TableEvents s (requestGrowth s)
  | trim (k : Nat) (s : State) : TableEvents s (topDownTrim k s)
  | caught (s : State) : TableEvents s (freeCaughtGrowth s)
  | opened {k : ServiceClass} {n : Nat} {s : State} (w : Nat) : k ≠ .data → slotOpen s k n = false →
      TableEvents s (openSlot k n w s)
  | closed (n : Nat) (s : State) : TableEvents s (closeProgram n s)
  | freed {s t : State} : t.claims = s.claims.map (·.freedAll) →
      (∀ k, (t.grants.of k).entries = List.replicate (slotCount k) none) → t.loans = [] →
      t.loader.config = s.loader.config →
      (t.loader.inReset = true ∨ t.loader.reading = true → s.loader.inReset = true ∨ s.loader.reading = true) →
      TableEvents s t
  | configured {s t : State} : s.loader.inReset = true ∨ s.loader.reading = true → t.claims = s.claims →
      t.grants = s.grants → t.loans = s.loans → t.loader.inReset = false → t.loader.reading = false → TableEvents s t
  | tick {s t : State} : t.claims = s.claims.map (fun c => { c with retry := elapse c.retry }) → t.grants = s.grants →
      t.loans = s.loans → t.loader = s.loader → TableEvents s t
  | reset {s t : State} : SameTable State.reset t → TableEvents s t

/-- A call is closed, and nothing else is done to the table. -/
def CallCloses (s t : State) : Prop := ∃ n u, SameTable s u ∧ SameTable (closeCall n u) t

/-- A commit is taken, and followed by what its run has met on the way (R80, R120). -/
def CommitTakes (r : Nat) (g : BitVec 4) (x : Run) (s t : State) : Prop :=
  ∃ u, SameTable s u ∧ judgeCommit r g x u = .taken ∧ TableEvents (takeCommit r x u) t

namespace TableEvents

theorem refl (s : State) : TableEvents s s := .same (.refl s)

theorem placement {s t : State} (h : OnlyPlacement s t) : TableEvents s t := .same h.sameTable

theorem settled {s t : State} (h : TableEvents s t) : TableEvents s (settle t) := h.trans (.placement (settle_frame t))

theorem settledFrom (e : Engine) {s t : State} (h : TableEvents s t) : TableEvents s (settleFrom e t) :=
  h.trans (.placement (settleFrom_frame e t))

end TableEvents

/-! ### The data service and the notices -/

theorem trimToCeiling_tableEvents (s : State) : TableEvents s (trimToCeiling s) := .trim _ s

theorem growWhenDue_tableEvents (s : State) : TableEvents s (growWhenDue s) := by
  unfold growWhenDue; split
  · exact .refl s
  · split
    · split
      · exact .same ⟨rfl, rfl, rfl, rfl, id⟩
      · exact .refl s
    · exact (TableEvents.growth s).trans (.same ⟨rfl, rfl, rfl, rfl, id⟩)

theorem growthComparison_tableEvents (s : State) : TableEvents s (growthComparison s) := by
  have hpace : ∀ n, TableEvents s (setPace n s) := fun n => .same ⟨rfl, rfl, rfl, rfl, id⟩
  unfold growthComparison; split
  · exact hpace 0
  · dsimp only; split
    · exact (hpace _).trans (growWhenDue_tableEvents _)
    · exact hpace _

theorem applyDemand_tableEvents (f c : Nat) (s : State) : TableEvents s (applyDemand f c s) := by
  have h : TableEvents s { s with demand := clampDemand (classMax s .data) f c } := .same ⟨rfl, rfl, rfl, rfl, id⟩
  unfold applyDemand; dsimp only; split
  · exact (h.trans (trimToCeiling_tableEvents _)).trans (.caught _)
  · exact h

theorem commitContention_tableEvents (r : Nat) (x : Run) (s : State) : TableEvents s (commitContention r x s) := by
  unfold commitContention; split
  · exact .loss _ _ _ _ s
  · exact .refl s

theorem commitNoise_tableEvents (r : Nat) (x : Run) (s : State) : TableEvents s (commitNoise r x s) := by
  unfold commitNoise; split
  · exact .noise _ _ _ s
  · exact .refl s

theorem noiseNotice_tableEvents (t : Nat) (s : State) : TableEvents s (noiseNotice t s) := by
  unfold noiseNotice; split
  · rename_i r _
    have h : TableEvents s (if (s.claim r).phase = .held ∨ (s.claim r).phase = .moving then latch .noise s else s) := by
      split
      · exact .same ⟨rfl, rfl, rfl, rfl, id⟩
      · exact .refl s
    dsimp only
    by_cases k : (s.claim r).phase = .tentative ∨ (s.claim r).phase = .held ∨ (s.claim r).phase = .moving
    · rw [if_pos k]; exact h.trans (.noise _ _ _ _)
    · rw [if_neg k]; exact h
  · exact .refl s

theorem quietNotice_tableEvents (t : Nat) (s : State) : TableEvents s (quietNotice t s) := by
  unfold quietNotice; split
  · split
    · exact .quiet _ _ _ s
    · exact .refl s
  · exact .refl s

/-! ### The scanner -/

theorem changeNoise_tableEvents (t : Nat) (f : TileNoise → TileNoise) (s : State) : TableEvents s (changeNoise t f s) :=
  .same ⟨rfl, rfl, rfl, rfl, id⟩

theorem takeSample_tableEvents (t : Nat) (v : Option Nat) (s : State) : TableEvents s (takeSample t v s) := by
  unfold takeSample; split
  · exact changeNoise_tableEvents _ _ s
  · exact .refl s

theorem recoverTile_tableEvents (t : Nat) (s : State) : TableEvents s (recoverTile t s) := by
  unfold recoverTile; split
  · exact (changeNoise_tableEvents _ _ s).trans (quietNotice_tableEvents _ _)
  · exact .refl s

theorem enterNoisy_tableEvents (t : Nat) (s : State) : TableEvents s (enterNoisy t s) :=
  (changeNoise_tableEvents _ _ s).trans (noiseNotice_tableEvents _ _)

theorem driveNoise_tableEvents (t : Nat) (s : State) : TableEvents s (driveNoise t s) := by
  unfold driveNoise; dsimp only; split
  · split
    · exact enterNoisy_tableEvents _ s
    · exact .refl s
  · split
    · exact changeNoise_tableEvents _ _ s
    · exact .refl s
  · split
    · exact (changeNoise_tableEvents _ _ s).trans (recoverTile_tableEvents _ _)
    · exact enterNoisy_tableEvents _ s

theorem endSweep_tableEvents (m : Measurement) (s : State) : TableEvents s (endSweep m s) := by
  have hu := takeSample_tableEvents m.tile m.sample s
  unfold endSweep; dsimp only
  refine .trans (t := if m.sample.isSome = true then driveNoise m.tile (takeSample m.tile m.sample s)
    else takeSample m.tile m.sample s) ?_ (.same ⟨rfl, rfl, rfl, rfl, id⟩)
  split
  · exact hu.trans (driveNoise_tableEvents _ _)
  · exact hu

theorem endSpot_tableEvents (m : Measurement) (s : State) : TableEvents s (endSpot m s) :=
  (takeSample_tableEvents m.tile m.sample s).trans (.placement (endSpot_frame m s))

/-! ### The Peer Table -/

theorem contend_tableEvents (t : Nat) (e : ClaimantEntry) (s : State) : TableEvents s (contend t e s) := by
  unfold contend; split
  · exact .loss _ _ _ _ s
  · exact .refl s

theorem presentEntry_tableEvents (e : ClaimantEntry) (s : State) (t : Nat) : TableEvents s (presentEntry e s t) := by
  unfold presentEntry; split
  · exact .refl s
  · refine .trans ?_ (contend_tableEvents t e _); exact .same ⟨rfl, rfl, rfl, rfl, id⟩

theorem weakenOn_tableEvents (p : Nat) (s : State) (t : Nat) : TableEvents s (weakenOn p s t) := by
  unfold weakenOn; split
  · refine .trans ?_ (contend_tableEvents t _ _); exact .same ⟨rfl, rfl, rfl, rfl, id⟩
  · exact .refl s

theorem deletePeer_tableEvents (x : PeerRecord) (s : State) : TableEvents s (deletePeer x s) := .same ⟨rfl, rfl, rfl, rfl, id⟩

theorem replaceClaims_tableEvents (p : Nat) (old new : List HeardRun) (s : State) :
    TableEvents s (replaceClaims p old new s) := by
  unfold replaceClaims
  refine .trans ?_ (foldl_frame TableEvents .refl .trans _ (fun s h => ?_) new _)
  · exact .same ⟨rfl, rfl, rfl, rfl, id⟩
  · exact foldl_frame TableEvents .refl .trans _ (presentEntry_tableEvents _) _ s

theorem newPeerFrame_tableEvents (p : Nat) (new : List HeardRun) (s : State) : TableEvents s (newPeerFrame p new s) := by
  unfold newPeerFrame; split
  · exact replaceClaims_tableEvents _ _ _ s
  · split
    · exact (deletePeer_tableEvents _ s).trans (replaceClaims_tableEvents _ _ _ _)
    · exact .same ⟨rfl, rfl, rfl, rfl, id⟩

theorem applyFrame_tableEvents (f : ReceivedFrame) (s : State) : TableEvents s (applyFrame f s) := by
  unfold applyFrame; split
  · split
    · exact deletePeer_tableEvents _ s
    · exact replaceClaims_tableEvents _ _ _ s
  · split
    · exact .refl s
    · exact newPeerFrame_tableEvents _ _ s

theorem turnStale_tableEvents (p : Nat) (s : State) : TableEvents s (turnStale p s) := by
  unfold turnStale; split
  · split
    · refine .trans ?_ (foldl_frame TableEvents .refl .trans _ (weakenOn_tableEvents p) _ _)
      exact .same ⟨rfl, rfl, rfl, rfl, id⟩
    · exact .refl s
  · exact .refl s

theorem turnGone_tableEvents (p : Nat) (s : State) : TableEvents s (turnGone p s) := by
  unfold turnGone; split
  · split
    · exact deletePeer_tableEvents _ s
    · exact .refl s
  · exact .refl s

theorem agePeers_tableEvents (s : State) : TableEvents s (agePeers s) := by
  refine foldl_frame TableEvents .refl .trans _ (fun s p => ?_) _ s
  unfold agePeer; split
  · refine .trans (.trans ?_ (turnStale_tableEvents p _)) (turnGone_tableEvents p _)
    exact .same ⟨rfl, rfl, rfl, rfl, id⟩
  · exact .refl s

/-! ### The call lines and the changes of part state -/

theorem takeEdge_tableEvents (n : Nat) (s : State) : TableEvents s (takeEdge n s) := by
  unfold takeEdge; split
  · exact .refl s
  · refine .trans (t := setLine n ⟨true, false⟩ s) (.same ⟨rfl, rfl, rfl, rfl, id⟩) ?_
    unfold openByLine; split
    · exact .refl _
    · rename_i hopen
      split
      · exact .opened 1 nofun (Bool.not_eq_true _ ▸ hopen)
      · exact .same ⟨rfl, rfl, rfl, rfl, id⟩

theorem takeLevel_tableEvents (s : State) (n : Nat) : TableEvents s (takeLevel s n) := by
  unfold takeLevel; split
  · exact takeEdge_tableEvents n s
  · exact .refl s

theorem endWarmListen_tableEvents (s : State) : TableEvents s (endWarmListen s) := by
  unfold endWarmListen; split
  · have hqueue := foldl_frame TableEvents .refl .trans (fun w r => queuePlacement r w)
      (fun s r => .placement (queuePlacement_frame r s)) (seekingRecords (startActive s)) (startActive s)
    have hstart : TableEvents s (startActive s) := .same ⟨rfl, rfl, rfl, rfl, id⟩
    exact (hstart.trans hqueue).trans (foldl_frame TableEvents .refl .trans _ takeLevel_tableEvents (List.range 4) _)
  · exact .refl s

theorem countWarmTick_tableEvents (s : State) : TableEvents s (countWarmTick s) := by
  unfold countWarmTick; split
  · exact .same ⟨rfl, rfl, rfl, rfl, id⟩
  · exact .refl s

theorem completeLeaving_tableEvents (s : State) : TableEvents s (completeLeaving s) := by
  unfold completeLeaving; split
  · exact .same ⟨rfl, rfl, rfl, rfl, id⟩
  · exact .refl s

theorem giveSentNotice_tableEvents (f : Frame) (s : State) : TableEvents s (giveSentNotice f s) := by
  unfold giveSentNotice; split
  · refine .trans ?_ (completeLeaving_tableEvents _)
    split
    · exact .same ⟨rfl, rfl, rfl, rfl, id⟩
    · exact .refl s
  · exact foldl_frame TableEvents .refl .trans _ .sent f.carried s

theorem standDown_tableEvents {s t : State} (l : Loader) (h : t.claims = (standDown { s with loader := l }).claims)
    (hg : t.grants = (standDown { s with loader := l }).grants) (hl : t.loans = [])
    (hc : t.loader.config = s.loader.config)
    (hs : t.loader.inReset = true ∨ t.loader.reading = true → s.loader.inReset = true ∨ s.loader.reading = true) :
    TableEvents s t :=
  .freed h (fun k => by rw [hg]; cases k <;> rfl) hl hc hs

theorem enterFault_tableEvents (c : FaultCause) (s : State) : TableEvents s (enterFault c s) :=
  standDown_tableEvents _ rfl rfl rfl rfl id

theorem enterLeaving_tableEvents (s : State) : TableEvents s (enterLeaving s) :=
  standDown_tableEvents _ rfl rfl rfl rfl id

theorem refuseConfig_tableEvents (s : State) : TableEvents s (refuseConfig s) :=
  standDown_tableEvents { s.loader with reading := false, part := .fault, faultCause := .config } rfl rfl rfl rfl
    (fun h => h.elim .inl nofun)

theorem acceptConfig_tableEvents (v : ConfigValues) {s : State} (hr : s.loader.inReset = false)
    (h : s.loader.reading = true) : TableEvents s (acceptConfig v s) :=
  .configured (.inr h) rfl rfl rfl hr rfl

theorem handOn_tableEvents (f : ReceivedFrame) (s : State) : TableEvents s (handOn f s) := by
  unfold handOn; split
  · split
    · exact .refl s
    · exact enterFault_tableEvents _ s
  · exact applyFrame_tableEvents f s

theorem buildFrame_tableEvents (s : State) : TableEvents s (buildFrame s) := by
  have h : TableEvents s (if isActive s = true then buildNotice s else s) := by
    split
    · exact foldl_frame TableEvents .refl .trans _ .build _ s
    · exact .refl s
  exact h.trans (.same ⟨rfl, rfl, rfl, rfl, id⟩)

/-! ### The requests of the service link -/

/-- What a request or a call line can do to the table: events, or the close of a call. -/
abbrev TableStep (s t : State) : Prop := TableEvents s t ∨ CallCloses s t

theorem TableStep.after {s t u : State} (h : SameTable s t) (k : TableStep t u) : TableStep s u := by
  rcases k with k | ⟨n, v, hv, hu⟩
  · exact .inl (.trans (.same h) k)
  · exact .inr ⟨n, v, h.trans hv, hu⟩

theorem TableStep.before {s t u : State} (h : TableStep s t) (k : SameTable t u) : TableStep s u := by
  rcases h with h | ⟨n, v, hv, hu⟩
  · exact .inl (h.trans (.same k))
  · exact .inr ⟨n, v, hv, hu.trans k⟩

theorem closeLine_tableStep (n : Nat) (s : State) : TableStep s (closeLine n s) := by
  unfold closeLine; split
  · exact .inr ⟨n, s, .refl s, ⟨rfl, rfl, rfl, rfl, id⟩⟩
  · exact .inl (.same ⟨rfl, rfl, rfl, rfl, id⟩)

theorem acknowledgeLine_tableStep (n : Nat) (s : State) : TableStep s (acknowledgeLine n s) := by
  unfold acknowledgeLine; split
  · split
    · exact .inl (.same ⟨rfl, rfl, rfl, rfl, id⟩)
    · exact closeLine_tableStep n s
  · exact .inl (.same ⟨rfl, rfl, rfl, rfl, id⟩)

theorem releaseLine_tableStep (n : Nat) (s : State) : TableStep s (releaseLine n s) := by
  unfold releaseLine; split
  · exact closeLine_tableStep n s
  · exact .inl (.refl s)

theorem respond_sameTable (r : LinkResult) (b : List Byte) (s : State) : SameTable s (respond r b s) :=
  ⟨rfl, rfl, rfl, rfl, id⟩

theorem clockBytes_sameTable (bs : List Byte) (s : State) : SameTable s (clockBytes bs s) := ⟨rfl, rfl, rfl, rfl, id⟩

/-- A request does to the table what its effect does where its check gives OK, and nothing otherwise. -/
theorem takeRequest_tableStep (check : State → LinkResult) (effect : State → State) (reply : State → List Byte) {s : State}
    (h : check s = .ok → TableStep s (effect s)) : TableStep s (takeRequest check effect reply s) := by
  unfold takeRequest; split
  · exact (h ‹_›).before (respond_sameTable _ _ _)
  · exact .inl (.same (respond_sameTable _ _ s))

/-- An open that passes the checks of a request finds the slot closed (R166). -/
theorem openSlot_tableEvents {a : Bool} {k : ServiceClass} {n : Nat} {s : State} (w : Nat) (hk : k ≠ .data)
    (h : checkDemand a (checkOpen k n s) s = .ok) : TableEvents s (openSlot k n w s) := by
  refine .opened w hk ?_
  unfold checkDemand checkOpen at h
  split at h
  · cases h
  · split at h
    · cases h
    · split at h
      · cases h
      · rename_i ho; exact Bool.not_eq_true _ ▸ ho

theorem serve_tableStep (c : Instr) (s : State) : TableStep s (serve c s) := by
  have unchanged : TableStep s s := .inl (.refl s)
  unfold serve
  cases c with
  | badCode => exact .inl (.same (respond_sameTable _ _ s))
  | readStatus => exact takeRequest_tableStep _ _ _ fun _ => unchanged
  | ackAttn => exact takeRequest_tableStep _ _ _ fun _ => .inl (.same ⟨rfl, rfl, rfl, rfl, id⟩)
  | setData floor ceiling =>
    exact takeRequest_tableStep _ _ _ fun _ => .inl (applyDemand_tableEvents _ _ s).settled
  | openProgram slot width =>
    exact takeRequest_tableStep _ _ _ fun h => .inl (openSlot_tableEvents (k := .video) width.toNat nofun h).settled
  | openCall slot =>
    exact takeRequest_tableStep _ _ _ fun h => .inl (openSlot_tableEvents (k := .voice) 1 nofun h).settled
  | closeProgram slot => exact takeRequest_tableStep _ _ _ fun _ => .inl (TableEvents.closed _ s).settled
  | closeCall slot =>
    exact takeRequest_tableStep _ _ _ fun _ => (closeLine_tableStep _ s).before (settle_frame _).sameTable
  | ackCallLine slot =>
    exact takeRequest_tableStep _ _ _ fun _ => (acknowledgeLine_tableStep _ s).before (settle_frame _).sameTable
  | readGrant service => exact takeRequest_tableStep _ _ _ fun _ => unchanged
  | readMap start count => exact takeRequest_tableStep _ _ _ fun _ => unchanged
  | leave => exact takeRequest_tableStep _ _ _ fun _ => .inl (enterLeaving_tableEvents s)
  | join => exact takeRequest_tableStep _ _ _ fun _ => .inl (.same ⟨rfl, rfl, rfl, rfl, id⟩)
  | _ => exact unchanged

/-- A byte does not touch the table, or completes the one request of the transaction, after which the link is in RESPONSE. -/
theorem clockIn_tableStep (b : Byte) (s : State) : SameTable s (clockIn b s) ∨
    (TableStep s (clockIn b s) ∧ (clockIn b s).link.state = .response) := by
  have hb := clockBytes_sameTable [b] s
  unfold clockIn; dsimp only; split
  · split
    · rename_i c hc
      exact .inr ⟨(serve_tableStep c _).after hb, serve_state (requestBytes_of_decodeRequest hc) _⟩
    · exact .inl hb
  · exact .inl hb

/-- Bytes that come in RESPONSE and SPENT are ignored (R163). -/
theorem foldl_clockIn_answered (bs : List Byte) {s : State} (h : s.link.state = .response ∨ s.link.state = .spent) :
    SameTable s (bs.foldl (fun u b => clockIn b u) s) := by
  have hfold : bs.foldl (fun u b => clockIn b u) s = transact bs s := by
    unfold transact; rcases h with h | h <;> rw [h]
  rw [hfold, transact_ignored bs h]; exact clockBytes_sameTable bs s

theorem foldl_clockIn_tableStep (bs : List Byte) : ∀ s : State, TableStep s (bs.foldl (fun u b => clockIn b u) s) := by
  induction bs with
  | nil => exact fun s => .inl (.refl s)
  | cons b bs ih =>
    intro s
    rcases clockIn_tableStep b s with h | ⟨h, hl⟩
    · exact (ih _).after h
    · exact h.before (foldl_clockIn_answered bs (.inl hl))

theorem transact_tableStep (bs : List Byte) (s : State) : TableStep s (transact bs s) := by
  unfold transact; split
  · exact .inl (.refl s)
  · split
    · exact foldl_clockIn_tableStep _ s
    · exact .inl (.refl s)
  · exact foldl_clockIn_tableStep bs s

/-! ### Every command and every step -/

theorem roomAnswer_sameTable {r : Nat} {g : BitVec 4} {a : RoomAnswer} {s t : State} (e : execRoomAnswer r g a s = .next t) :
    SameTable s t := by
  unfold execRoomAnswer at e
  have h := arrive_frame (.roomAnswer r g a) s
  refine outOfReset_keeps (P := SameTable s) e (.refl s) ?_
  dsimp only; split
  · split
    · exact ((h.trans (takeRoomAnswer_frame _ _ _)).trans (settle_frame _)).sameTable
    · exact h.sameTable
  · exact h.sameTable

theorem commitAnswer_sameTable {r : Nat} {g : BitVec 4} {a : CommitAnswer} {s t : State}
    (e : execCommitAnswer r g a s = .next t) : SameTable s t := by
  unfold execCommitAnswer at e
  have h := arrive_frame (.commitAnswer r g a) s
  refine outOfReset_keeps (P := SameTable s) e (.refl s) ?_
  dsimp only; split
  · split
    · exact h.sameTable
    · exact ((h.trans (takeCommitAnswer_frame _ _ _)).trans (settle_frame _)).sameTable
  · exact h.sameTable

theorem lendAnswer_sameTable {r : Nat} {g : BitVec 4} {a : LendAnswer} {s t : State} (e : execLendAnswer r g a s = .next t) :
    SameTable s t := by
  unfold execLendAnswer at e
  have h := arrive_frame (.lendAnswer r g a) s
  refine outOfReset_keeps (P := SameTable s) e (.refl s) ?_
  dsimp only; split
  · split
    · exact ((h.trans (setActive_frame _ _)).trans (settle_frame _)).sameTable
    · exact ((h.trans (reenter_frame _ _)).trans (settle_frame _)).sameTable
  · exact h.sameTable

theorem commit_tableStep {r : Nat} {g : BitVec 4} {x : Run} {s t : State} (e : execCommit r g x s = .next t) :
    TableStep s t ∨ CommitTakes r g x s t := by
  unfold execCommit at e
  have h := (arrive_frame (.commit r g x) s).sameTable
  refine outOfReset_keeps (P := fun t => TableStep s t ∨ CommitTakes r g x s t) e (.inl (.inl (.refl s))) ?_
  dsimp only; split
  · rename_i hj
    refine .inr ⟨_, h, hj, ?_⟩
    exact (((TableEvents.placement (send_frame _ _)).trans (commitContention_tableEvents r x _)).trans
      (commitNoise_tableEvents r x _)).settledFrom _
  · exact .inl (.inl (.same (h.trans (send_frame _ _).sameTable)))

/-- What a command does to the table: events, the close of a call, or the taking of a commit. -/
theorem exec_tableStep {c : Instr} {s t : State} (e : exec c s = .next t) :
    TableStep s t ∨ ∃ r g x, c = .commit r g x ∧ CommitTakes r g x s t := by
  have keep : ∀ {f : State → State}, outOfReset s f = .next t → (s.loader.inReset = false → TableStep s (f s)) →
      TableStep s t ∨ ∃ r g x, c = .commit r g x ∧ CommitTakes r g x s t := by
    intro f k hf
    unfold outOfReset at k; cases k; split
    · exact .inl (.inl (.refl s))
    · exact .inl (hf (Bool.not_eq_true _ ▸ ‹_›))
  have hsame : ∀ {u : State}, u.claims = s.claims → u.grants = s.grants → u.loans = s.loans → u.loader = s.loader →
      TableEvents s u := fun hc hg hl hr => .same ⟨hc, hg, hl, by rw [hr], by rw [hr]; exact id⟩
  unfold exec at e
  cases c with
  | reset => cases e; exact .inl (.inl (.reset ⟨rfl, rfl, rfl, rfl, id⟩))
  | resetRelease =>
    cases e; split
    · rename_i h; exact .inl (.inl (.same ⟨rfl, rfl, rfl, rfl, fun _ => .inl h⟩))
    · exact .inl (.inl (.refl s))
  | configReadComplete bytes =>
    refine keep e fun hr => ?_; split
    · rename_i h
      split
      · exact .inl (acceptConfig_tableEvents _ hr h.1)
      · exact .inl (refuseConfig_tableEvents s)
    · exact .inl (.refl s)
  | ageingTick =>
    refine keep e fun _ => ?_; split
    · refine .inl (((TableEvents.trans ?_ (countWarmTick_tableEvents _)).trans (endWarmListen_tableEvents _)).settled)
      exact .trans (t := stampTick s) (hsame rfl rfl rfl rfl) (agePeers_tableEvents (stampTick s))
    · exact .inl (.refl s)
  | peerStale p => exact keep e fun _ => .inl (turnStale_tableEvents p s).settled
  | peerGone p => exact keep e fun _ => .inl (turnGone_tableEvents p s)
  | warmListenEnd => exact keep e fun _ => .inl (endWarmListen_tableEvents s).settled
  | announcementTimerExpiry ccCs =>
    refine keep e fun _ => ?_; split
    · refine .inl (TableEvents.settled ((TableEvents.trans ?_ (buildFrame_tableEvents (timerExpired ccCs s))).trans
        (.same ⟨rfl, rfl, rfl, rfl, id⟩)))
      exact hsame rfl rfl rfl rfl
    · exact .inl (.refl s)
  | deferralBackoffEnd ccCs =>
    refine keep e fun _ => .inl ?_; split
    · exact hsame rfl rfl rfl rfl
    · exact .refl s
  | urgentBackoffEnd ccCs =>
    refine keep e fun _ => ?_; split
    · refine .inl (TableEvents.settled ((TableEvents.trans ?_ (buildFrame_tableEvents (backoffEnded ccCs s))).trans
        (.same ⟨rfl, rfl, rfl, rfl, id⟩)))
      exact hsame rfl rfl rfl rfl
    · exact .inl (.refl s)
  | transmissionEnd ccCs =>
    refine keep e fun _ => ?_; split
    · rename_i f c _
      refine .inl (TableEvents.settledFrom _ ((TableEvents.trans ?_ (giveSentNotice_tableEvents f (sentState ccCs c s))).trans
        (.same ⟨rfl, rfl, rfl, rfl, id⟩)))
      exact hsame rfl rfl rfl rfl
    · exact .inl (.refl s)
  | drainEnd r => exact keep e fun _ => .inl ((TableEvents.drain r s).settledFrom _)
  | leavingComplete => exact keep e fun _ => .inl (completeLeaving_tableEvents s)
  | syncDetected =>
    refine keep e fun _ => .inl ?_; split
    · exact hsame rfl rfl rfl rfl
    · exact .refl s
  | receptionEnd bytes =>
    refine keep e fun _ => .inl ?_; dsimp only; split
    · split
      · exact .settled (.trans (t := afterReception s) (hsame rfl rfl rfl rfl) (handOn_tableEvents _ _))
      · exact hsame rfl rfl rfl rfl
    · exact .refl s
  | receptionOverrun =>
    refine keep e fun _ => .inl ?_; split
    · exact hsame rfl rfl rfl rfl
    · exact .refl s
  | measSampleValid sample =>
    refine keep e fun _ => .inl ?_; split
    · split
      · exact hsame rfl rfl rfl rfl
      · exact .refl s
    · exact .refl s
  | dwellEnd =>
    refine keep e fun _ => .inl ?_; split
    · rename_i m _
      split
      · exact (endSweep_tableEvents m s).settled
      · exact (endSpot_tableEvents m s).settled
      · exact (takeSample_tableEvents m.tile m.sample s).trans (.same ⟨rfl, rfl, rfl, rfl, id⟩)
    · exact .refl s
  | noiseRecovered tile => exact keep e fun _ => .inl (recoverTile_tableEvents tile s).settled
  | roomRequest r g w =>
    refine keep e fun _ => .inl ?_; dsimp only
    refine .settledFrom _ (.trans (t := arrive (.roomRequest r g w) s) (hsame rfl rfl rfl rfl)
      (.trans ?_ (.placement (send_frame _ _))))
    split
    · exact .trim _ _
    · exact .refl _
  | roomAnswer r g a => exact .inl (.inl (.same (roomAnswer_sameTable e)))
  | commit r g x => exact (commit_tableStep e).imp_right fun h => ⟨r, g, x, rfl, h⟩
  | commitAnswer r g a => exact .inl (.inl (.same (commitAnswer_sameTable e)))
  | lendRequest b bg l lg n =>
    refine keep e fun _ => .inl (.trans (t := arrive (.lendRequest b bg l lg n) s) (hsame rfl rfl rfl rfl) ?_); dsimp only
    split
    · rename_i h; exact (TableEvents.lend h).trans (.placement (send_frame _ _))
    · exact .placement (send_frame _ _)
  | lendAnswer r g a => exact .inl (.inl (.same (lendAnswer_sameTable e)))
  | placementOutcome r g o =>
    refine keep e fun _ => .inl (.trans (t := arrive (.placementOutcome r g o) s) (hsame rfl rfl rfl rfl) ?_); dsimp only
    split
    · rename_i h; exact .outcome h.2.1
    · exact .refl _
  | retryExpiry r =>
    refine keep e fun _ => .inl ?_; split
    · rename_i h; exact (TableEvents.retry h.2).settled
    · exact .refl s
  | dataGrowthExpiry =>
    refine keep e fun _ => .inl ?_; split
    · refine .settled (.trans ?_ (growthComparison_tableEvents _))
      exact hsame rfl rfl rfl rfl
    · exact .refl s
  | linkSelect => cases e; dsimp only; split <;> exact .inl (.inl (hsame rfl rfl rfl rfl))
  | linkDeselect => cases e; exact .inl (.inl (hsame rfl rfl rfl rfl))
  | linkTimeout =>
    refine keep e fun _ => .inl ?_; split
    · exact hsame rfl rfl rfl rfl
    · exact .refl s
  | badCode code =>
    refine keep e fun _ => ?_; split
    · exact .inl (.refl s)
    · exact transact_tableStep _ s
  | readStatus | ackAttn | setData | openProgram | closeProgram | openCall | closeCall | ackCallLine | readGrant | readMap
  | leave | join => exact keep e fun _ => transact_tableStep _ s
  | callLineAssert line =>
    cases e; dsimp only; split
    · exact .inl (.inl (.settled (.trans (t := setCallLevel line true s) (hsame rfl rfl rfl rfl) (takeEdge_tableEvents line _))))
    · exact .inl (.inl (hsame rfl rfl rfl rfl))
  | callLineDeassert line =>
    have hlevel : SameTable s (setCallLevel line false s) := ⟨rfl, rfl, rfl, rfl, id⟩
    cases e; dsimp only; split
    · exact .inl (((releaseLine_tableStep line _).after hlevel).before (settle_frame _).sameTable)
    · exact .inl (.inl (.same hlevel))
  | entryCountAssembled bytes =>
    refine keep e fun _ => .inl ?_; split
    · split
      · exact hsame rfl rfl rfl rfl
      · exact hsame rfl rfl rfl rfl
    · exact .refl s
  | responseByteClockedOut =>
    refine keep e fun _ => .inl ?_; split
    · exact hsame rfl rfl rfl rfl
    · exact .refl s

/-- What a step does to the table: the command at the front of the queue, or the passing of time. -/
theorem step_tableStep {s t : State} (e : step s = .next t) :
    TableStep s t ∨ ∃ r g x, s.pending.head? = some (.commit r g x) ∧ CommitTakes r g x s t := by
  unfold step at e
  split at e
  · rename_i c rest hp
    have hrest : SameTable s { s with pending := rest } := ⟨rfl, rfl, rfl, rfl, id⟩
    rcases exec_tableStep e with h | ⟨r, g, x, rfl, u, hu, hj, ht⟩
    · exact .inl (h.after hrest)
    · exact .inr ⟨r, g, x, by rw [hp]; rfl, u, hrest.trans hu, hj, ht⟩
  · cases e
    unfold idle; split
    · exact .inl (.inl (.tick rfl rfl rfl rfl))
    · exact .inl (.inl (.same ⟨rfl, rfl, rfl, rfl, id⟩))

end Sys2Proof.Machine

/-! Every step keeps the own runs apart (R73, R76, R80; O54). Most events leave every record with tiles that it had (`Receding`); the
three that do not are the merge, the return and the lending of a tile, which one record loses as another gains it, and the commit, whose
run meets no own one. -/

namespace Sys2Proof.Machine

/-! ### One record's run -/

/-- The form of one record's run (R76): none in FREE and SEEKING, and within the band. -/
abbrev RunLaw (c : ClaimRecord) : Prop := (c.phase.holds = false → c.run = none) ∧ ∀ x ∈ c.run, runOk x = true

/-- A change of a record that keeps the form of its run and brings it no tile. -/
def Recedes (c d : ClaimRecord) : Prop := RunLaw c → RunLaw d ∧ ∀ n, d.ownsTile n = true → c.ownsTile n = true

theorem ownsTile_eq_true {c : ClaimRecord} {n : Nat} :
    c.ownsTile n = true ↔ c.phase.holds = true ∧ ∃ x, c.run = some x ∧ runHas x n = true := by
  cases h : c.run <;> simp [ClaimRecord.ownsTile, h]

/-- Under the form of the runs a record owns the tiles of its run. -/
theorem RunLaw.owns {c : ClaimRecord} (h : RunLaw c) {x : Run} (hx : c.run = some x) {n : Nat} (hn : runHas x n = true) :
    c.ownsTile n = true := by
  refine ownsTile_eq_true.mpr ⟨?_, x, hx, hn⟩
  by_contra hp
  rw [h.1 (Bool.not_eq_true _ ▸ hp)] at hx; cases hx

namespace Recedes

theorem refl (c : ClaimRecord) : Recedes c c := fun h => ⟨h, fun _ => id⟩

theorem trans {c d e : ClaimRecord} (h : Recedes c d) (k : Recedes d e) : Recedes c e := fun hc => by
  obtain ⟨hd, hcd⟩ := h hc
  obtain ⟨he, hde⟩ := k hd
  exact ⟨he, fun n hn => hcd n (hde n hn)⟩

/-- A record without a run has no tile. -/
theorem without {c d : ClaimRecord} (h : d.run = none) : Recedes c d := fun _ =>
  ⟨⟨fun _ => h, by simp [h]⟩, fun n hn => by simp [ClaimRecord.ownsTile, h] at hn⟩

/-- A change that leaves the run, in a record that holds tiles still. -/
theorem holding {c d : ClaimRecord} (h : d.run = c.run) (hp : c.phase.holds = true → d.phase.holds = true) : Recedes c d := by
  rintro ⟨hfree, hok⟩
  refine ⟨⟨fun hd => h.trans (hfree ?_), h ▸ hok⟩, fun n hn => ?_⟩
  · by_contra hc
    rw [hp (Bool.not_eq_false _ ▸ hc)] at hd; cases hd
  · obtain ⟨-, x, hx, hxn⟩ := ownsTile_eq_true.mp hn
    exact RunLaw.owns ⟨hfree, hok⟩ (h ▸ hx) hxn

/-- A run cut to a part of itself, or to nothing. -/
theorem cut {c : ClaimRecord} {x : Run} {kept : Option Run} (g : BitVec 4) (hx : c.run = some x)
    (hk : ∀ y ∈ kept, runOk x = true → runOk y = true ∧ ∀ n, runHas y n = true → runHas x n = true) :
    Recedes c (ClaimRecord.keeping { c with generation := g } kept) := by
  cases kept with
  | none => exact without rfl
  | some y =>
    intro hc
    obtain ⟨hy, hsub⟩ := hk y rfl (hc.2 x hx)
    have hp : c.phase.holds = true := by
      by_contra hp
      rw [hc.1 (Bool.not_eq_true _ ▸ hp)] at hx; cases hx
    refine ⟨⟨fun hd => absurd (hp.symm.trans hd) nofun, fun z hz => ?_⟩, fun n hn => ?_⟩
    · cases hz; exact hy
    · obtain ⟨-, z, hz, hzn⟩ := ownsTile_eq_true.mp hn
      cases hz; exact hc.owns hx (hsub n hzn)

end Recedes

theorem runOk_iff {x : Run} : runOk x = true ↔ 0 < x.width ∧ x.width ≤ 8 ∧ x.first + x.width ≤ 120 := by
  simp [runOk, widthOk, and_assoc]

theorem runHas_iff {x : Run} {n : Nat} : runHas x n = true ↔ x.first ≤ n ∧ n < x.first + x.width := by
  simp [runHas]

/-- What a trim leaves is part of the run (R145). -/
theorem trimmedRun_within {x y : Run} {t : Nat} (ht : runHas x t = true) (h : trimmedRun x t = some y) (hx : runOk x = true) :
    runOk y = true ∧ ∀ n, runHas y n = true → runHas x n = true := by
  obtain ⟨h1, h2⟩ := runHas_iff.mp ht
  obtain ⟨hw, hw8, hb⟩ := runOk_iff.mp hx
  unfold trimmedRun runLast at h
  dsimp only at h
  split at h
  · cases h
  · split at h <;> cases h
    · refine ⟨runOk_iff.mpr ⟨?_, ?_, ?_⟩, fun n hn => ?_⟩
      · dsimp only; omega
      · dsimp only; omega
      · dsimp only; omega
      · obtain ⟨k1, k2⟩ := runHas_iff.mp hn
        dsimp only at k1 k2
        exact runHas_iff.mpr ⟨k1, by omega⟩
    · refine ⟨runOk_iff.mpr ⟨?_, ?_, ?_⟩, fun n hn => ?_⟩
      · dsimp only; omega
      · dsimp only; omega
      · dsimp only; omega
      · obtain ⟨k1, k2⟩ := runHas_iff.mp hn
        dsimp only at k1 k2
        exact runHas_iff.mpr ⟨by omega, by omega⟩

/-- A run without its last tile is part of the run. -/
theorem dropLastTile_within {x y : Run} (h : dropLastTile x = some y) (hx : runOk x = true) :
    runOk y = true ∧ ∀ n, runHas y n = true → runHas x n = true := by
  obtain ⟨hw, hw8, hb⟩ := runOk_iff.mp hx
  unfold dropLastTile at h
  split at h
  · cases h
  · cases h
    refine ⟨runOk_iff.mpr ⟨?_, ?_, ?_⟩, fun n hn => ?_⟩
    · dsimp only; omega
    · dsimp only; omega
    · dsimp only; omega
    · obtain ⟨k1, k2⟩ := runHas_iff.mp hn
      dsimp only at k1 k2
      exact runHas_iff.mpr ⟨k1, by omega⟩

/-! ### All records -/

theorem claim_beyond {s : State} {q : Nat} (h : s.claims.length ≤ q) : s.claim q = ClaimRecord.reset :=
  List.getD_eq_default _ _ h

theorem claim_mem {s : State} {q : Nat} (h : q < s.claims.length) : s.claim q ∈ s.claims := by
  rw [State.claim, List.getD_eq_getElem _ _ h]; exact List.getElem_mem h

theorem mem_claims {s : State} {c : ClaimRecord} (h : c ∈ s.claims) : ∃ q < s.claims.length, s.claim q = c := by
  obtain ⟨q, hq, rfl⟩ := List.mem_iff_getElem.mp h
  exact ⟨q, hq, List.getD_eq_getElem _ _ hq⟩

theorem claim_map {s t : State} {f : ClaimRecord → ClaimRecord} (h : t.claims = s.claims.map f) {q : Nat}
    (hq : q < s.claims.length) : t.claim q = f (s.claim q) := by
  rw [State.claim, State.claim, h, List.getD_eq_getElem _ _ (by simpa using hq), List.getD_eq_getElem _ _ hq,
    List.getElem_map]

/-- A record read after a write to one: the written one, or the one before. -/
theorem claim_setClaim (r q : Nat) (c : ClaimRecord) (s : State) :
    (setClaim r c s).claim q = if q = r ∧ r < s.claims.length then c else s.claim q := by
  by_cases h : q = r
  · subst h
    by_cases hq : q < s.claims.length
    · rw [claim_setClaim_same c hq, if_pos ⟨rfl, hq⟩]
    · rw [if_neg fun k => hq k.2, claim_beyond (by simpa using hq), claim_beyond (by simpa using hq)]
  · rw [claim_setClaim_other c h, if_neg fun k => h k.1]

theorem reset_runLaw : RunLaw ClaimRecord.reset := ⟨fun _ => rfl, nofun⟩

theorem OwnRunsLaw.runLaw {s : State} (h : OwnRunsLaw s) (q : Nat) : RunLaw (s.claim q) := by
  by_cases hq : q < s.claims.length
  · exact h.2.1 _ (claim_mem hq)
  · rw [claim_beyond (Nat.le_of_not_lt hq)]; exact reset_runLaw

theorem not_owns_beyond {s : State} {q : Nat} (h : s.claims.length ≤ q) (n : Nat) : (s.claim q).ownsTile n = false := by
  rw [claim_beyond h]; rfl

/-- The tiles of an own run lie in the band. -/
theorem RunLaw.tile_lt {c : ClaimRecord} (h : RunLaw c) {n : Nat} (hn : c.ownsTile n = true) : n < 120 := by
  obtain ⟨-, x, hx, hxn⟩ := ownsTile_eq_true.mp hn
  obtain ⟨-, -, hb⟩ := runOk_iff.mp (h.2 x hx)
  exact (runHas_iff.mp hxn).2.trans_le hb

/-- No tile is in the runs of two records, whichever of them is named first. -/
theorem OwnRunsLaw.apart {s : State} (h : OwnRunsLaw s) {q r n : Nat} (hne : q ≠ r) (hq : (s.claim q).ownsTile n = true) :
    (s.claim r).ownsTile n = false := by
  by_contra hr
  have hr : (s.claim r).ownsTile n = true := Bool.not_eq_false _ ▸ hr
  have lt : ∀ j, (s.claim j).ownsTile n = true → j < Config.recordCount := fun j hj => by
    by_contra hl
    rw [not_owns_beyond (h.1 ▸ Nat.le_of_not_lt hl)] at hj; cases hj
  have hn := (h.runLaw q).tile_lt hq
  rcases Nat.lt_or_gt_of_ne hne with hlt | hlt
  · exact h.2.2 r (lt r hr) q hlt n hn ⟨hr, hq⟩
  · exact h.2.2 q (lt q hq) r hlt n hn ⟨hq, hr⟩

theorem ownRunsLaw_of {s : State} (hl : s.claims.length = 20) (hr : ∀ q, RunLaw (s.claim q))
    (ha : ∀ q r n, q ≠ r → (s.claim q).ownsTile n = true → (s.claim r).ownsTile n = false) : OwnRunsLaw s := by
  refine ⟨hl, fun c hc => ?_, fun q _ r hlt n _ ⟨hq, hrn⟩ => ?_⟩
  · obtain ⟨q, -, rfl⟩ := mem_claims hc; exact hr q
  · rw [ha q r n (Nat.ne_of_gt hlt) hq] at hrn; cases hrn

/-- Every record keeps the form of its run and gains no tile. -/
structure Receding (s t : State) : Prop where
  length : t.claims.length = s.claims.length
  records : ∀ q, Recedes (s.claim q) (t.claim q)

namespace Receding

theorem refl (s : State) : Receding s s := ⟨rfl, fun _ => .refl _⟩

theorem trans {s t u : State} (h : Receding s t) (k : Receding t u) : Receding s u :=
  ⟨k.length.trans h.length, fun q => (h.records q).trans (k.records q)⟩

theorem congr {s t u : State} (h : Receding s t) (k : u.claims = t.claims) : Receding s u :=
  ⟨k ▸ h.length, fun q => by rw [show u.claim q = t.claim q by rw [State.claim, State.claim, k]]; exact h.records q⟩

/-- A record written with less than it had at the start. -/
theorem set {s t : State} (h : Receding s t) {r : Nat} {c : ClaimRecord} (hc : Recedes (s.claim r) c) :
    Receding s (setClaim r c t) where
  length := by simpa using h.length
  records q := by
    rw [claim_setClaim]; split
    · rename_i hq; exact hq.1 ▸ hc
    · exact h.records q

/-- A record written with less than it has. -/
theorem modify {s t : State} (h : Receding s t) {r : Nat} {c : ClaimRecord} (hc : Recedes (t.claim r) c) :
    Receding s (setClaim r c t) := h.set ((h.records r).trans hc)

theorem mapped {s t : State} {f : ClaimRecord → ClaimRecord} (h : t.claims = s.claims.map f) (hf : ∀ c, Recedes c (f c)) :
    Receding s t where
  length := by rw [h, List.length_map]
  records q := by
    by_cases hq : q < s.claims.length
    · rw [claim_map h hq]; exact hf _
    · rw [claim_beyond (Nat.le_of_not_lt hq), claim_beyond (by rw [h, List.length_map]; exact Nat.le_of_not_lt hq)]
      exact .refl _

theorem released {s t : State} (h : Receding s t) (r : Nat) : Receding s (releaseRun r t) :=
  (h.modify (c := (t.claim r).unrun) (.without rfl)).congr rfl

theorem ownRunsLaw {s t : State} (h : Receding s t) (law : OwnRunsLaw s) : OwnRunsLaw t :=
  ownRunsLaw_of (h.length.trans law.1) (fun q => (h.records q (law.runLaw q)).1) fun q r n hne hq => by
    by_contra hr
    have hs := law.apart hne ((h.records q (law.runLaw q)).2 n hq)
    rw [(h.records r (law.runLaw r)).2 n (Bool.not_eq_false _ ▸ hr)] at hs; cases hs

end Receding

/-- A record that gains tiles which no other one has then keeps the runs apart. -/
theorem ownRunsLaw_of_gain {s t : State} (law : OwnRunsLaw s) (a : Nat) (hl : t.claims.length = s.claims.length)
    (ha : RunLaw (t.claim a)) (hothers : ∀ q, q ≠ a → Recedes (s.claim q) (t.claim q))
    (hgain : ∀ n, (t.claim a).ownsTile n = true → (s.claim a).ownsTile n = true ∨
      ∀ q, q ≠ a → (t.claim q).ownsTile n = false) : OwnRunsLaw t := by
  have other : ∀ q, q ≠ a → ∀ n, (t.claim q).ownsTile n = true → (s.claim q).ownsTile n = true := fun q hq =>
    (hothers q hq (law.runLaw q)).2
  have apart : ∀ q n, q ≠ a → (t.claim q).ownsTile n = true → (t.claim a).ownsTile n = false := fun q n hq hn => by
    by_contra ht
    rcases hgain n (Bool.not_eq_false _ ▸ ht) with hs | hnone
    · rw [law.apart hq (other q hq n hn)] at hs; cases hs
    · rw [hnone q hq] at hn; cases hn
  refine ownRunsLaw_of (hl.trans law.1) (fun q => ?_) fun q r n hne hq => ?_
  · by_cases hq : q = a
    · exact hq ▸ ha
    · exact (hothers q hq (law.runLaw q)).1
  · by_cases hqa : q = a
    · subst hqa
      by_contra hr
      have hr : (t.claim r).ownsTile n = true := Bool.not_eq_false _ ▸ hr
      rw [apart r n (Ne.symm hne) hr] at hq; cases hq
    · by_cases hra : r = a
      · exact hra ▸ apart q n hqa hq
      · by_contra hr
        have hs := law.apart hne (other q hqa n hq)
        rw [other r hra n (Bool.not_eq_false _ ▸ hr)] at hs; cases hs

/-- A tile that one record loses as another gains it. -/
theorem ownRunsLaw_of_passed {s t : State} (law : OwnRunsLaw s) {a r n : Nat} (hl : t.claims.length = s.claims.length)
    (ha : RunLaw (t.claim a)) (hgain : ∀ m, (t.claim a).ownsTile m = true → (s.claim a).ownsTile m = true ∨ m = n)
    (hothers : ∀ q, q ≠ a → Recedes (s.claim q) (t.claim q)) (hr : (s.claim r).ownsTile n = true)
    (hlost : (t.claim r).ownsTile n = false) : OwnRunsLaw t := by
  refine ownRunsLaw_of_gain law a hl ha hothers fun m hm => ?_
  rcases hgain m hm with hs | rfl
  · exact .inl hs
  · refine .inr fun q hq => ?_
    by_cases hqr : q = r
    · exact hqr ▸ hlost
    · by_contra ht
      have hs := (hothers q hq (law.runLaw q)).2 m (Bool.not_eq_false _ ▸ ht)
      rw [law.apart (Ne.symm hqr) hr] at hs; cases hs

/-! ### Trims -/

theorem trimTile_receding {r t : Nat} {s : State} (h : ∀ x, (s.claim r).run = some x → runHas x t = true) :
    Receding s (trimTile r t s) := by
  unfold trimTile; split
  · rename_i x hx
    exact ((Receding.refl s).set (.cut _ hx fun y hy => trimmedRun_within (h x hx) hy)).congr rfl
  · exact .refl s

theorem cutTop_receding (r : Nat) (cut : List Nat) (s : State) : Receding s (cutTop r cut s) := by
  unfold cutTop; split
  · rename_i x hx
    have hcut : ∀ g, Recedes (s.claim r) (ClaimRecord.keeping { s.claim r with generation := g } (dropLastTile x)) :=
      fun g => .cut g hx fun y hy => dropLastTile_within hy
    refine Receding.congr (t := if cut.contains r = true then setClaim r ((s.claim r).keeping (dropLastTile x)) s
      else cutRecord r (dropLastTile x) s) ?_ ?_
    · split
      · exact (Receding.refl s).set (hcut (s.claim r).generation)
      · exact ((Receding.refl s).set (hcut _)).congr rfl
    · unfold cancelCut; split <;> rfl
  · exact .refl s

theorem topDownTrim_receding (k : Nat) (s : State) : Receding s (topDownTrim k s) := by
  have hcut : ∀ k cut s, Receding s (cutHighest k cut s) := by
    intro k
    induction k with
    | zero => exact fun _ => Receding.refl
    | succ k ih =>
      intro cut s; unfold cutHighest; split
      · exact (cutTop_receding _ _ s).trans (ih _ _)
      · exact .refl s
  unfold topDownTrim; split
  · exact .refl s
  · exact (hcut k [] s).congr rfl

/-! ### Merges and returns -/

/-- A widened record and the record that it takes its tile from (R144, R159). -/
theorem mergeInto_ownRunsLaw {a r n : Nat} {f : Run → Run} {x : Run} {s : State} (law : OwnRunsLaw s) (hne : a ≠ r)
    (hx : (s.claim a).run = some x) (hok : runOk (f x) = true) (hr : (s.claim r).ownsTile n = true)
    (hf : ∀ m, runHas (f x) m = true → runHas x m = true ∨ m = n) : OwnRunsLaw (mergeInto a r f s) := by
  have hal := lt_length_of_run hx
  have hwide : (s.claim a).widened f = { s.claim a with run := some (f x), width := (f x).width } := by
    rw [ClaimRecord.widened, hx]
  have hta : (mergeInto a r f s).claim a = (s.claim a).widened f := by
    rw [mergeInto, claim_setClaim_other _ hne, claim_setClaim_same _ hal]
  have htr : (mergeInto a r f s).claim r = (s.claim r).unrun.freed := by
    have hrl : r < s.claims.length := by
      by_contra hl
      rw [not_owns_beyond (Nat.le_of_not_lt hl)] at hr; cases hr
    rw [mergeInto, claim_setClaim_same _ (by simpa using hrl)]
  have hholds : (s.claim a).phase.holds = true := by
    by_contra hp
    rw [(law.runLaw a).1 (Bool.not_eq_true _ ▸ hp)] at hx; cases hx
  refine ownRunsLaw_of_passed (a := a) (n := n) law (by simp [mergeInto]) ?_ (fun m hm => ?_) (fun q hq => ?_) hr ?_
  · rw [hta, hwide]
    exact ⟨fun hp => absurd (hholds.symm.trans hp) nofun, fun y hy => by cases hy; exact hok⟩
  · rw [hta, hwide] at hm
    obtain ⟨-, y, hy, hym⟩ := ownsTile_eq_true.mp hm
    cases hy
    exact (hf m hym).imp_left fun h => (law.runLaw a).owns hx h
  · by_cases hqr : q = r
    · rw [hqr, htr]; exact .without rfl
    · rw [mergeInto, claim_setClaim_other _ hqr, claim_setClaim_other _ hq]; exact .refl _
  · rw [htr]; simp [ClaimRecord.ownsTile, ClaimRecord.unrun, ClaimRecord.freed]

theorem widenUp_gains {x : Run} {n m : Nat} (hn : x.first + x.width = n) (h : runHas (widenUp x) m = true) :
    runHas x m = true ∨ m = n := by
  obtain ⟨h1, h2⟩ := runHas_iff.mp h
  simp only [widenUp] at h1 h2
  rw [runHas_iff]; omega

theorem widenDown_gains {x : Run} {n m : Nat} (hn : x.first = n + 1) (h : runHas (widenDown x) m = true) :
    runHas x m = true ∨ m = n := by
  obtain ⟨h1, h2⟩ := runHas_iff.mp h
  simp only [widenDown] at h1 h2
  rw [runHas_iff]; omega

theorem answersFor_iff {e : LoanEntry} {s : State} : answersFor e s = true ↔
    ((s.claim e.borrower).phase = .parked ∨ (s.claim e.borrower).phase = .held ∨ (s.claim e.borrower).phase = .moving ∨
      (s.claim e.borrower).phase = .draining) ∧
    (s.claim e.borrower).generation = e.borrowerGeneration ∧ (s.claim e.borrower).run = some ⟨e.tile, 1⟩ := by
  simp [answersFor, and_assoc, or_assoc]

theorem returnsHome_eq_some {e : LoanEntry} {s : State} {l : Nat} : returnsHome e s = some l ↔
    e.lender = some l ∧ ∃ x, (s.claim l).run = some x ∧ (s.claim l).cls = .data ∧ (s.claim l).phase = .held ∧
      (s.claim l).generation = e.lenderGeneration ∧ x.first + x.width = e.tile ∧ x.width < 8 := by
  unfold returnsHome
  cases hl : e.lender with
  | none => simp
  | some k =>
    cases hx : (s.claim k).run with
    | none =>
      simp only [hx, Option.some.injEq]
      exact ⟨nofun, fun ⟨rfl, x, h, _⟩ => by rw [hx] at h; cases h⟩
    | some x =>
      simp only [hx, Option.some.injEq]
      constructor
      · intro h
        split at h
        · cases h; rename_i h; exact ⟨rfl, x, hx, h⟩
        · cases h
      · rintro ⟨rfl, y, hy, h⟩
        rw [hx] at hy; cases hy
        exact if_pos h

theorem settleReturned_ownRunsLaw (e : LoanEntry) {s : State} (law : OwnRunsLaw s) : OwnRunsLaw (settleReturned e s) := by
  unfold settleReturned; split
  · rename_i ha
    obtain ⟨-, -, hrun⟩ := answersFor_iff.mp ha
    split
    · rename_i l hl
      obtain ⟨-, x, hx, -, -, -, ht, hw⟩ := returnsHome_eq_some.mp hl
      have hb := (law.runLaw e.borrower).owns hrun (n := e.tile) (runHas_iff.mpr ⟨le_rfl, Nat.lt_succ_self _⟩)
      refine mergeInto_ownRunsLaw law ?_ hx ?_ hb fun m => widenUp_gains ht
      · rintro rfl
        rw [hrun] at hx; cases hx
        simp at ht
      · have htile := (law.runLaw e.borrower).tile_lt hb
        exact runOk_iff.mpr ⟨Nat.succ_pos _, hw, by simp only [widenUp]; omega⟩
    · exact (((Receding.refl s).set (.without rfl)).congr rfl).ownRunsLaw law
  · exact law

theorem unwindStack_ownRunsLaw (n : Nat) : ∀ {s : State}, OwnRunsLaw s → OwnRunsLaw (unwindStack n s) := by
  induction n with
  | zero => exact id
  | succ n ih =>
    intro s law; unfold unwindStack; split
    · split
      · exact law
      · exact ih (s := { s with loans := s.loans.dropLast }) law
      · exact ih (settleReturned_ownRunsLaw _ (s := { s with loans := s.loans.dropLast }) law)
    · exact law

theorem unwind_ownRunsLaw {s : State} (law : OwnRunsLaw s) : OwnRunsLaw (unwind s) := by
  have hu := unwindStack_ownRunsLaw s.loans.length law
  unfold unwind; dsimp only; split
  · exact (topDownTrim_receding _ _).ownRunsLaw (s := commitGrant .data .returned none (unwindStack s.loans.length s)) hu
  · exact hu

theorem voidLoanOf_ownRunsLaw (r : Nat) (c : ClaimRecord) {s : State} (law : OwnRunsLaw s) : OwnRunsLaw (voidLoanOf r c s) := by
  unfold voidLoanOf voidLoan; split
  · split
    · split
      · exact unwind_ownRunsLaw (s := markLoan _ .void s) law
      · exact law
    · exact law
  · exact law

/-! ### Losses and notices -/

theorem noticeApplies_iff {r : Nat} {g : BitVec 4} {n : Nat} {s : State} :
    noticeApplies r g n s = true ↔ (s.claim r).ownsTile n = true ∧ (s.claim r).generation = g := by
  simp [noticeApplies]

/-- The trim that a notice asks for is of a tile of the run. -/
theorem trimTile_receding_of_notice {r t : Nat} {g : BitVec 4} {s u : State} (h : noticeApplies r g t s = true)
    (hu : u.claims = s.claims) : Receding s (trimTile r t u) := by
  have hr : Receding s u := (Receding.refl s).congr hu
  refine hr.trans (trimTile_receding fun x hx => ?_)
  obtain ⟨-, y, hy, hyt⟩ := ownsTile_eq_true.mp (noticeApplies_iff.mp h).1
  rw [State.claim, hu] at hx
  rw [show y = x from Option.some.inj (hy.symm.trans hx)] at hyt; exact hyt

theorem tentativeLoss_receding (r : Nat) (s : State) : Receding s (tentativeLoss r s) := by
  have hu := (Receding.refl s).released r
  unfold tentativeLoss; dsimp only; split
  · exact (hu.set (c := { (s.claim r).unrun with phase := .seeking, tentativeLosses := (s.claim r).tentativeLosses + 1 })
      (.without rfl)).congr rfl
  · exact (hu.set (.without rfl)).congr rfl

theorem degrade_receding (p : Nat) (s : State) : Receding s (degrade p s) :=
  ((Receding.refl s).set (r := p) (c := { s.claim p with retry := some Config.retryTime }) (.holding rfl id)).congr rfl

theorem successorLoss_receding (r p : Nat) (s : State) : Receding s (successorLoss r p s) := by
  have hu : Receding s
      (cancel r (setClaim p (s.claim p).unmoved (setClaim r (s.claim r).unrun.freed (releaseRun r s)))) :=
    ((((Receding.refl s).released r).set (.without rfl)).set (r := p) (c := (s.claim p).unmoved)
      (.holding rfl fun _ => rfl)).congr rfl
  unfold successorLoss; dsimp only; split
  · exact hu.trans (degrade_receding _ _)
  · exact hu

theorem freeSuccessor_receding (c : ClaimRecord) (s : State) : Receding s (freeSuccessor c s) := by
  unfold freeSuccessor; split
  · rename_i q _; exact ((Receding.refl s).set (r := q) (c := (s.claim q).freed) (.without rfl)).congr rfl
  · exact .refl s

theorem heldLoss_ownRunsLaw (r w : Nat) {s : State} (law : OwnRunsLaw s) : OwnRunsLaw (heldLoss r w s) := by
  unfold heldLoss; dsimp only
  have hl : Receding s (releaseRun r (latch .lost s)) := ((Receding.refl s).congr (u := latch .lost s) rfl).released r
  have hu := hl.set (r := r) (c := { (s.claim r).unrun with
    phase := .seeking, seekReason := .relocate, successor := none, onLoan := none, retry := none }) (.without rfl)
  refine voidLoanOf_ownRunsLaw _ _ (Receding.ownRunsLaw (s := s) ?_ law)
  exact ((hu.congr (u := requestPlacement r _) rfl).trans (freeSuccessor_receding (s.claim r) _)).congr rfl

theorem movingLoss_ownRunsLaw (r w : Nat) {s : State} (law : OwnRunsLaw s) : OwnRunsLaw (movingLoss r w s) := by
  unfold movingLoss; dsimp only
  have hl : Receding s (releaseRun r (latch .lost s)) := ((Receding.refl s).congr (u := latch .lost s) rfl).released r
  have hu := hl.set (r := r) (c := (s.claim r).unrun.freed) (.without rfl)
  refine voidLoanOf_ownRunsLaw _ _ (Receding.ownRunsLaw (s := s) ?_ law)
  refine Receding.congr (t := match (s.claim r).successor with
    | some q => inheritSuccessor q (setClaim r (s.claim r).unrun.freed (releaseRun r (latch .lost s)))
    | none => setClaim r (s.claim r).unrun.freed (releaseRun r (latch .lost s))) ?_ rfl
  split
  · exact hu.modify (.holding rfl id)
  · exact hu

theorem releaseAndFree_ownRunsLaw (r : Nat) {s : State} (law : OwnRunsLaw s) : OwnRunsLaw (releaseAndFree r s) := by
  unfold releaseAndFree; dsimp only
  exact voidLoanOf_ownRunsLaw _ _ ((((Receding.refl s).released r).set (r := r) (.without rfl)).ownRunsLaw law)

theorem applyLoss_ownRunsLaw (r : Nat) (g : BitVec 4) (n w : Nat) {s : State} (law : OwnRunsLaw s) :
    OwnRunsLaw (applyLoss r g n w s) := by
  unfold applyLoss; split
  · rename_i h
    split
    · split
      · exact (successorLoss_receding _ _ s).ownRunsLaw law
      · exact (tentativeLoss_receding _ s).ownRunsLaw law
    · split
      · exact ((trimTile_receding_of_notice (u := latch .lost s) h rfl).congr rfl).ownRunsLaw law
      · exact heldLoss_ownRunsLaw _ _ law
    · exact movingLoss_ownRunsLaw _ _ law
    · exact releaseAndFree_ownRunsLaw _ law
    · exact releaseAndFree_ownRunsLaw _ law
    · exact law
    · exact law
  · exact law

theorem taken_run (c : ClaimRecord) (k : ServiceClass) (slot width : Nat) (reason : SeekReason) (p : Option Nat) :
    (c.taken k slot width reason p).run = none := rfl

theorem startMigration_receding (p : Nat) (s : State) : Receding s (startMigration p s) := by
  unfold startMigration; split
  · exact (((Receding.refl s).set (.without (taken_run _ _ _ _ _ _))).set (r := p)
      (c := { s.claim p with successor := some _ }) (.holding rfl id)).congr rfl
  · exact degrade_receding p s

theorem dropSuccessor_receding (p : Nat) (s : State) : Receding s (dropSuccessor p s) := by
  unfold dropSuccessor; split
  · exact (((Receding.refl s).set (r := p) (c := { s.claim p with successor := none }) (.holding rfl id)).set
      (.without rfl)).congr rfl
  · exact .refl s

theorem resumeSeeking_receding (p : Nat) (s : State) : Receding s (resumeSeeking p s) := by
  have hu : Receding s (setClaim p { s.claim p with phase := .held } s) :=
    (Receding.refl s).set (.holding rfl fun _ => rfl)
  unfold resumeSeeking; dsimp only; split
  · exact hu.trans (dropSuccessor_receding _ _)
  · exact hu

theorem tentativeNoise_receding (r : Nat) (s : State) : Receding s (tentativeNoise r s) := by
  have hu : Receding s
      (requestPlacement r (setClaim r { (s.claim r).unrun with phase := .seeking } (releaseRun r s))) :=
    (((Receding.refl s).released r).set (r := r) (c := { (s.claim r).unrun with phase := .seeking }) (.without rfl)).congr rfl
  unfold tentativeNoise; dsimp only; split
  · exact hu.trans (resumeSeeking_receding _ _)
  · exact hu

theorem applyNoise_receding (r : Nat) (g : BitVec 4) (n : Nat) (s : State) : Receding s (applyNoise r g n s) := by
  unfold applyNoise; split
  · rename_i h
    split
    · exact tentativeNoise_receding _ s
    · split
      · exact (trimTile_receding_of_notice (u := s) h rfl).congr rfl
      · unfold heldNoise; split
        · exact startMigration_receding _ s
        · exact .refl s
    · exact .refl s
  · exact .refl s

theorem applyQuiet_receding (r : Nat) (g : BitVec 4) (n : Nat) (s : State) : Receding s (applyQuiet r g n s) := by
  unfold applyQuiet; split
  · split
    · exact dropSuccessor_receding _ s
    · exact (Receding.refl s).set (.holding rfl id)
  · exact .refl s

/-! ### Listening, promotions and commits -/

theorem endDrain_ownRunsLaw (r : Nat) {s : State} (law : OwnRunsLaw s) : OwnRunsLaw (endDrain r s) := by
  unfold endDrain; split
  · exact releaseAndFree_ownRunsLaw _ law
  · exact law

theorem sentItem_ownRunsLaw (i : CarriedItem) {s : State} (law : OwnRunsLaw s) : OwnRunsLaw (sentItem s i) := by
  unfold sentItem; dsimp only; split
  · exact law
  · split
    · exact ((Receding.refl s).set (r := i.record) (c := { s.claim i.record with
        listenCount := min 3 ((s.claim i.record).listenCount + 1) }) (.holding rfl id)).ownRunsLaw law
    · split
      · exact endDrain_ownRunsLaw _ (((Receding.refl s).set (r := i.record) (c := { s.claim i.record with
          drainCount := min Config.drainFrames ((s.claim i.record).drainCount + 1) }) (.holding rfl id)).ownRunsLaw law)
      · exact law

/-- A neighbour that a promoted growth record merges into: not the record itself, and beside its first tile (R144). -/
theorem neighbour_spec {s : State} {f : ClaimRecord → Bool} {side : Run → Bool} {a : Nat}
    (hf : ∀ c, f c = (c.absorbs && (match c.run with
      | some x => side x
      | none => false))) (h : s.claims.findIdx? f = some a) :
    a < s.claims.length ∧ (s.claim a).cls = .data ∧ (s.claim a).phase = .held ∧
      ∃ z, (s.claim a).run = some z ∧ z.width + 1 ≤ 8 ∧ side z = true := by
  obtain ⟨hal, ha, -⟩ := List.findIdx?_eq_some_iff_getElem.mp h
  have hc : s.claims[a] = s.claim a := (List.getD_eq_getElem _ _ hal).symm
  rw [hc, hf, Bool.and_eq_true] at ha
  obtain ⟨habs, hside⟩ := ha
  simp only [ClaimRecord.absorbs, Bool.and_eq_true, beq_iff_eq, decide_eq_true_eq] at habs
  cases hz : (s.claim a).run with
  | none => rw [hz] at hside; cases hside
  | some z =>
    rw [hz] at hside
    refine ⟨hal, habs.1.1, habs.1.2, z, rfl, ?_, hside⟩
    have := habs.2
    rwa [ClaimRecord.runWidth, hz] at this

theorem lowerNeighbour_spec {s : State} {t a : Nat} (h : lowerNeighbour s t = some a) : a < s.claims.length ∧
    (s.claim a).cls = .data ∧ (s.claim a).phase = .held ∧
      ∃ z, (s.claim a).run = some z ∧ z.width + 1 ≤ 8 ∧ z.first + z.width = t := by
  obtain ⟨hal, hk, hp, z, hz, hw, hside⟩ := neighbour_spec (side := fun z => decide (z.first + z.width = t)) (fun c => by cases c.run <;> rfl) h
  exact ⟨hal, hk, hp, z, hz, hw, of_decide_eq_true hside⟩

theorem upperNeighbour_spec {s : State} {t a : Nat} (h : upperNeighbour s t = some a) : a < s.claims.length ∧
    (s.claim a).cls = .data ∧ (s.claim a).phase = .held ∧
      ∃ z, (s.claim a).run = some z ∧ z.width + 1 ≤ 8 ∧ z.first = t + 1 := by
  obtain ⟨hal, hk, hp, z, hz, hw, hside⟩ := neighbour_spec (side := fun z => decide (z.first = t + 1)) (fun c => by cases c.run <;> rfl) h
  exact ⟨hal, hk, hp, z, hz, hw, of_decide_eq_true hside⟩

theorem mergeGrowth_ownRunsLaw {r : Nat} {x : Run} {s : State} (law : OwnRunsLaw s) (hx : (s.claim r).run = some x) :
    OwnRunsLaw (mergeGrowth r x.first s) := by
  obtain ⟨hw, -, hb⟩ := runOk_iff.mp ((law.runLaw r).2 x hx)
  have hown := (law.runLaw r).owns hx (n := x.first) (runHas_iff.mpr ⟨le_rfl, by omega⟩)
  unfold mergeGrowth; split
  · rename_i a ha
    obtain ⟨-, -, -, z, hz, hzw, hside⟩ := lowerNeighbour_spec ha
    refine mergeInto_ownRunsLaw law ?_ hz ?_ hown fun m => widenUp_gains hside
    · rintro rfl
      rw [hx] at hz; cases hz; omega
    · exact runOk_iff.mpr ⟨Nat.succ_pos _, hzw, by simp only [widenUp]; omega⟩
  · split
    · rename_i a ha
      obtain ⟨-, -, -, z, hz, hzw, hside⟩ := upperNeighbour_spec ha
      obtain ⟨-, -, hzb⟩ := runOk_iff.mp ((law.runLaw a).2 z hz)
      refine mergeInto_ownRunsLaw law ?_ hz ?_ hown fun m => widenDown_gains hside
      · rintro rfl
        rw [hx] at hz; cases hz; omega
      · exact runOk_iff.mpr ⟨Nat.succ_pos _, hzw, by simp only [widenDown]; omega⟩
    · exact law

theorem promote_ownRunsLaw (r : Nat) {s : State} (law : OwnRunsLaw s) : OwnRunsLaw (promote r s) := by
  have hprom : Receding s (setClaim r (s.claim r).promoted s) := (Receding.refl s).set (.holding rfl fun _ => rfl)
  unfold promote; split
  · rename_i p _
    exact ((hprom.set (r := p) (c := { s.claim p with phase := .draining, drainCount := 0, successor := none })
      (.holding rfl fun _ => rfl)).congr rfl).ownRunsLaw law
  · dsimp only; split
    · rename_i x _ hx
      refine mergeGrowth_ownRunsLaw (hprom.ownRunsLaw law) ?_
      rw [claim_setClaim_same _ (lt_length_of_run hx)]; exact hx
    · exact hprom.ownRunsLaw law

theorem promoteIfDue_ownRunsLaw (r : Nat) {s : State} (law : OwnRunsLaw s) : OwnRunsLaw (promoteIfDue s r) := by
  unfold promoteIfDue; split
  · split
    · exact applyLoss_ownRunsLaw _ _ _ _ law
    · exact promote_ownRunsLaw _ law
  · exact law

/-- The conditions of a commit that is taken (R80). -/
theorem judgeCommit_taken {r : Nat} {g : BitVec 4} {x : Run} {s : State} (h : judgeCommit r g x s = .taken) :
    isActive s = true ∧ (s.claim r).phase = .seeking ∧ (s.claim r).generation = g ∧ meetsOwn x s = false ∧
      ((s.claim r).predecessor = none → heldTotal s + x.width ≤ holdLimit s) ∧ predecessorHeld r s = true := by
  unfold judgeCommit at h
  split at h
  · cases h
  · rename_i h1
    split at h
    · cases h
    · rename_i h2
      split at h
      · cases h
      · rename_i h3
        split at h
        · cases h
        · rename_i h4
          simp only [not_or, not_not] at h1
          exact ⟨h1.1, h1.2.1, h1.2.2, Bool.not_eq_true _ ▸ h2, fun hp => by
            by_contra hl; exact h3 ⟨hp, Nat.lt_of_not_le hl⟩, by simpa using h4⟩

theorem isOwn_eq_false {s : State} {n : Nat} : isOwn s n = false ↔ ∀ q, (s.claim q).ownsTile n = false := by
  rw [isOwn, List.any_eq_false]
  constructor
  · intro h q
    by_cases hq : q < s.claims.length
    · exact Bool.not_eq_true _ ▸ h _ (claim_mem hq)
    · exact not_owns_beyond (Nat.le_of_not_lt hq) n
  · intro h c hc
    obtain ⟨q, -, rfl⟩ := mem_claims hc
    rw [h q]; exact nofun

theorem meetsOwn_eq_false {x : Run} {s : State} : meetsOwn x s = false ↔
    ∀ n, runHas x n = true → ∀ q, (s.claim q).ownsTile n = false := by
  simp only [meetsOwn, List.any_eq_false, mem_runTiles, Bool.not_eq_true, isOwn_eq_false]

theorem takeCommit_claims (r : Nat) (x : Run) (s : State) : (takeCommit r x s).claims =
    (match (s.claim r).predecessor with
      | some p => setClaim p { s.claim p with phase := .moving } (setClaim r ((s.claim r).committed x) s)
      | none => setClaim r ((s.claim r).committed x) s).claims := rfl

theorem takeCommit_ownRunsLaw {r : Nat} {g : BitVec 4} {x : Run} {s : State} (law : OwnRunsLaw s)
    (h : judgeCommit r g x s = .taken) (hok : runOk x = true) : OwnRunsLaw (takeCommit r x s) := by
  obtain ⟨-, hseek, -, hmeets, -, hpred⟩ := judgeCommit_taken h
  have hrl : r < s.claims.length := lt_length_of_not_free (by rw [hseek]; nofun)
  have hcommitted : OwnRunsLaw (setClaim r ((s.claim r).committed x) s) := by
    refine ownRunsLaw_of_gain law r (by simp) ?_ (fun q hq => ?_) fun n hn => .inr fun q hq => ?_
    · rw [claim_setClaim_same _ hrl]
      exact ⟨nofun, fun y hy => by cases hy; exact hok⟩
    · rw [claim_setClaim_other _ hq]; exact .refl _
    · rw [claim_setClaim_same _ hrl] at hn
      obtain ⟨-, y, hy, hyn⟩ := ownsTile_eq_true.mp hn
      cases hy
      rw [claim_setClaim_other _ hq]; exact meetsOwn_eq_false.mp hmeets n hyn q
  refine Receding.ownRunsLaw (s := setClaim r ((s.claim r).committed x) s) ?_ hcommitted
  refine (Receding.congr ?_ (takeCommit_claims r x s))
  split
  · rename_i p hp
    have hne : p ≠ r := by
      rintro rfl
      simp [predecessorHeld, hp, hseek] at hpred
    refine (Receding.refl _).set (.holding ?_ fun _ => rfl)
    rw [claim_setClaim_other _ hne]
  · exact .refl _

/-! ### Lending -/

/-- The conditions of a lend that is taken (R151). -/
theorem lendTaken_spec {b l n : Nat} {bg lg : BitVec 4} {s : State} (h : lendTaken b bg l lg n s = true) :
    isActive s = true ∧ s.loans.length < 4 ∧
      ((s.claim b).cls = .voice ∧ (s.claim b).phase = .seeking ∧ (s.claim b).generation = bg ∧
        (s.claim b).predecessor = none) ∧
      (s.claim l).cls = .data ∧ (s.claim l).phase = .held ∧ (s.claim l).generation = lg ∧
      ∃ x, (s.claim l).run = some x ∧ 2 ≤ x.width ∧ x.first + x.width = n + 1 := by
  simp only [lendTaken, Bool.and_eq_true, decide_eq_true_eq, beq_iff_eq, Option.isNone_iff_eq_none] at h
  obtain ⟨⟨⟨⟨ha, hlen⟩, hb⟩, hl⟩, ht⟩ := h
  refine ⟨ha, hlen, ⟨hb.1.1.1, hb.1.1.2, hb.1.2, hb.2⟩, hl.1.1.1, hl.1.1.2, hl.1.2, ?_⟩
  cases hx : (s.claim l).run with
  | none => rw [hx] at ht; cases ht
  | some x =>
    have hw := hl.2
    rw [ClaimRecord.runWidth, hx] at hw
    rw [hx] at ht
    simp only at hw
    have hlast : runLast x = n := of_decide_eq_true ht
    unfold runLast at hlast
    exact ⟨x, rfl, hw, by omega⟩

theorem lend_claims (b : Nat) (bg : BitVec 4) (l : Nat) (lg : BitVec 4) (n : Nat) (s : State) : (lend b bg l lg n s).claims =
    (setClaim b ((s.claim b).lent n s.loans.length) (setClaim l ((s.claim l).widened shortened) s)).claims := rfl

theorem lend_ownRunsLaw {b l n : Nat} {bg lg : BitVec 4} {s : State} (law : OwnRunsLaw s)
    (h : lendTaken b bg l lg n s = true) : OwnRunsLaw (lend b bg l lg n s) := by
  obtain ⟨-, -, ⟨hbc, hbp, -, -⟩, hlc, hlp, -, x, hx, hw, hn⟩ := lendTaken_spec h
  obtain ⟨-, hw8, hband⟩ := runOk_iff.mp ((law.runLaw l).2 x hx)
  have hne : l ≠ b := by rintro rfl; rw [hlc] at hbc; cases hbc
  have hshort : (s.claim l).widened shortened = { s.claim l with run := some (shortened x), width := (shortened x).width } := by
    rw [ClaimRecord.widened, hx]
  have hbl : b < s.claims.length := lt_length_of_not_free (by rw [hbp]; nofun)
  set u := setClaim b ((s.claim b).lent n s.loans.length) (setClaim l ((s.claim l).widened shortened) s) with hu
  have hub : u.claim b = (s.claim b).lent n s.loans.length := by rw [hu, claim_setClaim_same _ (by simpa using hbl)]
  have hul : u.claim l = (s.claim l).widened shortened := by
    rw [hu, claim_setClaim_other _ hne, claim_setClaim_same _ (lt_length_of_run hx)]
  refine Receding.ownRunsLaw (s := u) ((Receding.refl u).congr (lend_claims b bg l lg n s)) ?_
  refine ownRunsLaw_of_passed (a := b) (r := l) (n := n) law (by simp [hu]) ?_ (fun m hm => ?_) (fun q hq => ?_)
    ((law.runLaw l).owns hx (n := n) (runHas_iff.mpr ⟨by omega, by omega⟩)) ?_
  · rw [hub]
    refine ⟨nofun, fun y hy => ?_⟩
    cases hy; exact runOk_iff.mpr ⟨Nat.one_pos, by dsimp only; omega, by dsimp only; omega⟩
  · rw [hub] at hm
    obtain ⟨-, y, hy, hym⟩ := ownsTile_eq_true.mp hm
    cases hy
    have := runHas_iff.mp hym
    exact .inr (by dsimp only at this; omega)
  · by_cases hql : q = l
    · subst hql
      rw [hul, hshort]
      exact .cut (kept := some (shortened x)) _ hx fun y hy hxok => by
        cases hy
        refine ⟨runOk_iff.mpr ⟨?_, ?_, ?_⟩, fun m hm => ?_⟩
        · simp only [shortened]; omega
        · simp only [shortened]; omega
        · simp only [shortened]; omega
        · have := runHas_iff.mp hm
          simp only [shortened] at this
          exact runHas_iff.mpr ⟨this.1, by omega⟩
    · rw [hu, claim_setClaim_other _ hq, claim_setClaim_other _ hql]; exact .refl _
  · rw [hul, hshort, ← Bool.not_eq_true, ownsTile_eq_true]
    rintro ⟨-, y, hy, hyn⟩
    cases hy
    have := runHas_iff.mp hyn
    simp only [shortened] at this; omega

/-! ### Outcomes, retries, opens and closes -/

theorem applyOutcome_receding (r : Nat) (s : State) : Receding s (applyOutcome r s) := by
  have hfree : Receding s (setClaim r (s.claim r).freed s) := (Receding.refl s).set (.without rfl)
  unfold applyOutcome; split
  · rename_i p _
    exact (hfree.set (r := p) (c := { s.claim p with successor := none }) (.holding rfl id)).trans (degrade_receding _ _)
  · split
    · exact hfree.congr (by unfold unmetBelowFloor; split <;> rfl)
    · exact ((Receding.refl s).set (r := r) (c := { s.claim r with retry := some Config.retryTime }) (.holding rfl id)).congr rfl

theorem expireRetry_receding (r : Nat) (s : State) : Receding s (expireRetry r s) := by
  have hu : Receding s (setClaim r { s.claim r with retry := none } s) := (Receding.refl s).set (.holding rfl id)
  unfold expireRetry; split
  · exact ((Receding.refl s).set (r := r) (c := { s.claim r with retry := none, tentativeLosses := 0 })
      (.holding rfl id)).congr rfl
  · dsimp only; split
    · exact hu.trans (startMigration_receding _ _)
    · exact hu
  · exact .refl s

theorem requestGrowth_receding (s : State) : Receding s (requestGrowth s) := by
  unfold requestGrowth; split
  · exact ((Receding.refl s).set (.without (taken_run _ _ _ _ _ _))).congr rfl
  · exact .refl s

theorem freeCaughtGrowth_receding (s : State) : Receding s (freeCaughtGrowth s) := by
  unfold freeCaughtGrowth; split
  · split
    · rename_i r _; exact ((Receding.refl s).set (r := r) (c := (s.claim r).freed) (.without rfl)).congr rfl
    · exact .refl s
  · exact .refl s

theorem openSlot_receding (k : ServiceClass) (n w : Nat) (s : State) : Receding s (openSlot k n w s) := by
  unfold openSlot; split
  · exact ((Receding.refl s).set (.without (taken_run _ _ _ _ _ _))).congr rfl
  · exact .refl s

theorem freeClosed_receding (s : State) (r : Nat) : Receding s (freeClosed s r) := by
  unfold freeClosed; dsimp only
  have hu : Receding s (if (s.claim r).run.isSome = true then releaseRun r s else s) := by
    split
    · exact (Receding.refl s).released r
    · exact .refl s
  exact (hu.modify (.without rfl)).congr rfl

theorem closeProgram_receding (n : Nat) (s : State) : Receding s (closeProgram n s) :=
  (foldl_frame Receding .refl .trans _ freeClosed_receding _ s).congr rfl

theorem closeCallRecord_receding (s : State) (r : Nat) : Receding s (closeCallRecord s r) := by
  unfold closeCallRecord; split
  · exact (Receding.refl s).congr rfl
  · exact freeClosed_receding s r

theorem parkRemaining_receding (s : State) (r : Nat) : Receding s (parkRemaining s r) := by
  unfold parkRemaining; split
  · exact .refl s
  · exact (Receding.refl s).set (.holding rfl fun _ => rfl)

theorem closeCall_ownRunsLaw (n : Nat) {s : State} (law : OwnRunsLaw s) : OwnRunsLaw (closeCall n s) := by
  have hu := (foldl_frame Receding .refl .trans _ closeCallRecord_receding (closingRecords .voice n s) s).ownRunsLaw law
  have hv := (foldl_frame Receding .refl .trans _ parkRemaining_receding (closingRecords .voice n s) _).ownRunsLaw
    (unwindStack_ownRunsLaw ((closingRecords .voice n s).foldl closeCallRecord s).loans.length hu)
  unfold closeCall; dsimp only; split
  · exact (topDownTrim_receding _ _).ownRunsLaw (s := commitGrant .data .returned none (commitGrant .voice .closed none _)) hv
  · exact hv

/-! ### Every event and every step -/

theorem freedAll_run (c : ClaimRecord) : c.freedAll.run = none := by unfold ClaimRecord.freedAll; split <;> rfl

theorem TableEvents.ownRunsLaw {s t : State} (h : TableEvents s t) (law : OwnRunsLaw s) : OwnRunsLaw t := by
  induction h with
  | same h => exact ((Receding.refl _).congr h.claims).ownRunsLaw law
  | trans _ _ ih ih' => exact ih' (ih law)
  | loss r g n w s => exact applyLoss_ownRunsLaw r g n w law
  | noise r g n s => exact (applyNoise_receding r g n s).ownRunsLaw law
  | quiet r g n s => exact (applyQuiet_receding r g n s).ownRunsLaw law
  | drain r s => exact endDrain_ownRunsLaw r law
  | sent s i => exact sentItem_ownRunsLaw i law
  | build s r => exact promoteIfDue_ownRunsLaw r law
  | lend h => exact lend_ownRunsLaw law h
  | outcome _ => exact (applyOutcome_receding _ _).ownRunsLaw law
  | retry _ => exact (expireRetry_receding _ _).ownRunsLaw law
  | growth s => exact (requestGrowth_receding s).ownRunsLaw law
  | trim k s => exact (topDownTrim_receding k s).ownRunsLaw law
  | caught s => exact (freeCaughtGrowth_receding s).ownRunsLaw law
  | opened w _ _ => exact (openSlot_receding _ _ w _).ownRunsLaw law
  | closed n s => exact (closeProgram_receding n s).ownRunsLaw law
  | freed h _ _ _ _ => exact (Receding.mapped h fun c => .without (freedAll_run c)).ownRunsLaw law
  | configured _ h _ _ _ _ => exact ((Receding.refl _).congr h).ownRunsLaw law
  | tick h _ _ _ => exact (Receding.mapped h fun c => .holding rfl id).ownRunsLaw law
  | reset h => exact ((Receding.refl _).congr h.claims).ownRunsLaw reset_ownRunsLaw

/-- Settles O54: the table's events, the close of a call, and the commit, whose run is well-formed. -/
theorem stepKeepsOwnRunsApart : Obligations.StepKeepsOwnRunsApart := by
  intro s t law hwf e
  rcases step_tableStep e with (h | ⟨n, u, hu, ht⟩) | ⟨r, g, x, hp, u, hu, hj, ht⟩
  · exact h.ownRunsLaw law
  · exact (TableEvents.same ht).ownRunsLaw (closeCall_ownRunsLaw n ((TableEvents.same hu).ownRunsLaw law))
  · have hok : runOk x = true := (Bool.and_eq_true_iff.mp (hwf _ hp)).2
    exact ht.ownRunsLaw (takeCommit_ownRunsLaw ((TableEvents.same hu).ownRunsLaw law) hj hok)

end Sys2Proof.Machine

/-! Placements that end without room and retry timers (R81, R82, R124 to R126; O34, O35). -/

namespace Sys2Proof.Machine

/-! ### Counts over the records -/

/-- What a record shows to a function that does not see the change stays in the table. -/
theorem setClaim_map {α : Type} {f : ClaimRecord → α} {r : Nat} {c : ClaimRecord} {s : State} (h : f c = f (s.claim r)) :
    (setClaim r c s).claims.map f = s.claims.map f := by
  by_cases hr : r < s.claims.length
  · have hc : s.claim r = s.claims[r] := List.getD_eq_getElem _ _ hr
    rw [setClaim_claims, List.map_set, h, hc, ← List.getElem_map f (h := by simpa using hr), List.set_getElem_self]
  · rw [setClaim_claims, List.set_eq_of_length_le (Nat.le_of_not_lt hr)]

/-- The tiles that a record adds to the data count (R135). -/
def ClaimRecord.dataTiles (c : ClaimRecord) : Nat := if c.isData then c.runWidth else 0

theorem dataTiles_unrun {c : ClaimRecord} (h : c.run = none) : c.dataTiles = 0 := by
  simp [ClaimRecord.dataTiles, ClaimRecord.runWidth, h]

theorem dataCount_eq (s : State) : dataCount s = (s.claims.map ClaimRecord.dataTiles).sum := by
  unfold dataCount
  induction s.claims with
  | nil => rfl
  | cons c cs ih => by_cases h : c.isData = true <;> simp [ClaimRecord.dataTiles, h, ih]

theorem freeRecord_eq (s : State) : freeRecord s = (s.claims.map (·.phase == .free)).findIdx? id := by
  rw [List.findIdx?_map]; rfl

theorem dataRecords_eq (s : State) :
    dataRecords s = (s.claims.map fun c => c.cls == .data && c.phase != .free).countP id := by
  rw [List.countP_map]; rfl

theorem successorCount_eq (s : State) :
    successorCount s = (s.claims.map fun c => c.phase != .free && c.predecessor.isSome).countP id := by
  rw [List.countP_map]; rfl

/-- R74 sees of a record its class, whether it is FREE, and whether it is a successor. -/
theorem takable_setClaim {r : Nat} {c : ClaimRecord} {s : State} (k : ServiceClass) (p : Option Nat)
    (hcls : c.cls = (s.claim r).cls) (hphase : c.phase = (s.claim r).phase)
    (hpred : c.predecessor = (s.claim r).predecessor) : takable k p (setClaim r c s) = takable k p s := by
  have hfree : freeRecord (setClaim r c s) = freeRecord s := by
    rw [freeRecord_eq, freeRecord_eq, setClaim_map (by rw [hphase])]
  have hdata : dataRecords (setClaim r c s) = dataRecords s := by
    rw [dataRecords_eq, dataRecords_eq, setClaim_map (by rw [hphase, hcls])]
  have hsucc : successorCount (setClaim r c s) = successorCount s := by
    rw [successorCount_eq, successorCount_eq, setClaim_map (by rw [hphase, hpred])]
  simp only [takable, hfree, hdata, hsucc]

/-! ### Outcomes -/

/-- An outcome that no record waits for is ignored (R81). -/
theorem placementOutcome_ignored {r : Nat} {g : BitVec 4} {o : PlacementEnd} {s : State} (hr : s.loader.inReset = false)
    (h : s.loader.part ≠ .active ∨ (s.claim r).phase ≠ .seeking ∨ (s.claim r).generation ≠ g) :
    exec (.placementOutcome r g o) s = .next (arrive (.placementOutcome r g o) s) := by
  simp only [exec, execPlacementOutcome, outOfReset_released hr]
  refine congrArg _ (if_neg ?_)
  rintro ⟨ha, hp, hg⟩
  have ha : s.loader.part = .active := beq_iff_eq.mp ha
  exact h.elim (· ha) (·.elim (· hp) (· hg))

/-- An outcome that a SEEKING record waits for (R81). -/
theorem placementOutcome_applied {r : Nat} {g : BitVec 4} {o : PlacementEnd} {s : State} (hr : s.loader.inReset = false)
    (ha : s.loader.part = .active) (hp : (s.claim r).phase = .seeking) (hg : (s.claim r).generation = g) :
    exec (.placementOutcome r g o) s = .next (applyOutcome r (arrive (.placementOutcome r g o) s)) := by
  simp only [exec, execPlacementOutcome, outOfReset_released hr]
  exact congrArg _ (if_pos ⟨beq_iff_eq.mpr ha, hp, hg⟩)

theorem applyOutcome_waiting {r : Nat} {s : State} (hq : (s.claim r).predecessor = none)
    (hk : (s.claim r).seekReason ≠ .grow) :
    applyOutcome r s = latch .unmet (setClaim r { s.claim r with retry := some Config.retryTime } s) := by
  simp only [applyOutcome, hq, if_neg hk]

theorem applyOutcome_growth {r : Nat} {s : State} (hq : (s.claim r).predecessor = none)
    (hk : (s.claim r).seekReason = .grow) : applyOutcome r s = unmetBelowFloor (setClaim r (s.claim r).freed s) := by
  simp only [applyOutcome, hq, if_pos hk]

theorem setClaim_setClaim (p : Nat) (c d : ClaimRecord) (s : State) : setClaim p d (setClaim p c s) = setClaim p d s := by
  simp only [setClaim, List.set_set]

/-- A record just written is held degraded (R124). -/
theorem degrade_setClaim {p : Nat} (c : ClaimRecord) {s : State} (h : p < s.claims.length) :
    degrade p (setClaim p c s) = latch .unmet (setClaim p { c with retry := some Config.retryTime } s) := by
  rw [degrade, claim_setClaim_same c h, setClaim_setClaim]

theorem applyOutcome_successor {r p : Nat} {s : State} (hq : (s.claim r).predecessor = some p)
    (hpl : p < s.claims.length) : applyOutcome r s = latch .unmet (setClaim p
        { s.claim p with successor := none, retry := some Config.retryTime } (setClaim r (s.claim r).freed s)) := by
  simp only [applyOutcome, hq]
  exact degrade_setClaim _ (by simpa using hpl)

/-- A record without a run adds nothing to the data count, freed or not (R135). -/
theorem dataCount_freed {r : Nat} {s : State} (h : (s.claim r).run = none) :
    dataCount (setClaim r (s.claim r).freed s) = dataCount s := by
  rw [dataCount_eq, dataCount_eq, setClaim_map ((dataTiles_unrun rfl).trans (dataTiles_unrun h).symm)]

/-- Settles O34: one equation of the outcome per kind of record. -/
theorem outcomeWithoutRoom : Obligations.OutcomeWithoutRoom := by
  intro r g o s hr a unmet
  refine ⟨placementOutcome_ignored hr, fun ha hp hg hrun => ⟨fun hq hk => ?waiting, fun hq hk => ?growth,
    fun p hq hne hpl => ?successor⟩⟩
  all_goals rw [placementOutcome_applied hr ha hp hg]
  case waiting => rw [applyOutcome_waiting (s := a) hq hk]; rfl
  case growth =>
    rw [applyOutcome_growth (s := a) hq hk, unmetBelowFloor, dataCount_freed (s := a) hrun,
      show (a.claim r).freed = (s.claim r).ended from freed_eq_ended hrun]
    show Host.Outcome.next (if dataCount s < s.demand.floor then _ else _) = _
    split <;> rfl
  case successor =>
    rw [applyOutcome_successor (s := a) hq hpl, show (a.claim r).freed = (s.claim r).ended from freed_eq_ended hrun]
    rfl

/-! ### Retry timers -/

theorem settle_finishes (v : State) : Finishes v (settle v) :=
  have hs := settle_frame v
  { claims := hs.claims, attn := hs.attn, grants := hs.grants, chan := hs.chan, loans := hs.loans
    records := fun _ h => settle_records h
    asked := fun _ _ h => settle_asked h }

theorem retryExpiry_expired {r : Nat} {s : State} (hr : s.loader.inReset = false) (ha : s.loader.part = .active)
    (h : (s.claim r).retry.isSome = true) : exec (.retryExpiry r) s = .next (settle (expireRetry r s)) := by
  simp only [exec, execRetryExpiry, outOfReset_released hr]
  exact congrArg _ (if_pos ⟨beq_iff_eq.mpr ha, h⟩)

/-- A retry timer that stops for the state `s` with record `r` unchanged otherwise. -/
abbrev retryStopped (r : Nat) (s : State) : State := setClaim r { s.claim r with retry := none } s

theorem expireRetry_seeking {r : Nat} {s : State} (h : (s.claim r).phase = .seeking) : expireRetry r s =
    requestPlacement r (setClaim r { s.claim r with retry := none, tentativeLosses := 0 } s) := by
  unfold expireRetry; split
  · rfl
  · rename_i k; cases h.symm.trans k
  · rename_i k _; exact absurd h k

theorem expireRetry_held {r : Nat} {s : State} (h : (s.claim r).phase = .held) : expireRetry r s =
    if anyNoisy (retryStopped r s) r ∧ (s.claim r).successor = none then startMigration r (retryStopped r s)
    else retryStopped r s := by
  unfold expireRetry; split
  · rename_i k; cases h.symm.trans k
  · rfl
  · rename_i k; exact absurd h k

theorem retryStopped_takable (r : Nat) (s : State) (k : ServiceClass) (p : Option Nat) : takable k p (retryStopped r s) = takable k p s :=
  takable_setClaim k p rfl rfl rfl

section
variable {r : Nat} {s : State} (hr : r < s.claims.length)
include hr

theorem retryStopped_claim : (retryStopped r s).claim r = { s.claim r with retry := none } := claim_setClaim_same _ hr

/-- The timer plays no part in the noise under the run. -/
theorem retryStopped_anyNoisy : anyNoisy (retryStopped r s) r = anyNoisy s r := by
  simp only [anyNoisy, retryStopped_claim hr]; rfl

/-- Where no successor can be taken the record is held degraded again (R124). -/
theorem startMigration_degrades (h : takable (s.claim r).cls (some r) s = none) :
    startMigration r (retryStopped r s) =
      latch .unmet (setClaim r { s.claim r with retry := some Config.retryTime } s) := by
  have ht : takable ((retryStopped r s).claim r).cls (some r) (retryStopped r s) = none := by
    rw [retryStopped_takable, retryStopped_claim hr, h]
  rw [startMigration, ht]
  exact degrade_setClaim _ hr

/-- The successor that a migration takes, and the record that it takes it for (R74, R123). -/
theorem startMigration_links {q : Nat} (hne : q ≠ r) (h : takable (s.claim r).cls (some r) s = some q) :
    startMigration r (retryStopped r s) = requestPlacement q (setClaim r { s.claim r with retry := none, successor := some q }
      (setClaim q ((s.claim q).taken (s.claim r).cls (s.claim r).slot (s.claim r).width .migrate (some r)) s)) := by
  have ht : takable ((retryStopped r s).claim r).cls (some r) (retryStopped r s) = some q := by
    rw [retryStopped_takable, retryStopped_claim hr, h]
  rw [startMigration, ht]
  simp only [linkSuccessor]
  rw [retryStopped_claim hr, claim_setClaim_other _ hne]
  simp only [setClaim]
  rw [List.set_comm _ _ hne.symm, List.set_set]

end

/-- Settles O35: the record's phase says what its timer was for. -/
theorem retryExpiryTriesAgain : Obligations.RetryExpiryTriesAgain := by
  intro r s hr ha hrl hretry u
  rw [retryExpiry_expired hr ha hretry]
  refine ⟨fun hp => by rw [expireRetry_seeking hp]; rfl, fun hp hstops he => ?stops, fun hp hnoisy hsucc =>
    ⟨fun hk he => ?degraded, fun q hk => ?migrates⟩⟩
  all_goals rw [expireRetry_held hp, retryStopped_anyNoisy hrl]
  case stops =>
    rw [if_neg, settle_of_engine_eq (t := retryStopped r s) he rfl]
    · rfl
    rintro ⟨hn, hs⟩
    exact hstops.elim (fun k => by rw [hn] at k; cases k) (· hs)
  all_goals rw [if_pos ⟨hnoisy, hsucc⟩]
  case degraded =>
    rw [startMigration_degrades hrl hk]
    exact congrArg _ (settle_of_engine_eq he rfl)
  case migrates =>
    obtain ⟨hq, hfree⟩ := takable_spec hk
    have hne : q ≠ r := by
      rintro rfl
      exact absurd (hp.symm.trans hfree) nofun
    rw [startMigration_links hrl hne hk]
    have hgen : ∀ d, ((setClaim r d (setClaim q ((s.claim q).taken (s.claim r).cls (s.claim r).slot (s.claim r).width .migrate
        (some r)) s)).claim q).generation = (s.claim q).generation + 1 := fun d => by
      rw [claim_setClaim_other _ hne, claim_setClaim_same _ hq]; rfl
    have hf := settle_finishes (requestPlacement q (setClaim r { s.claim r with retry := none, successor := some q }
      (setClaim q ((s.claim q).taken (s.claim r).cls (s.claim r).slot (s.claim r).width .migrate (some r)) s)))
    refine ⟨_, rfl, ?_, hf.claims, fun he hranked => asksFor_of_request rfl rfl (hgen _) rfl rfl hf ha he hranked⟩
    rw [hf.claims]
    exact (requestPlacement_frame q (setClaim r _ (setClaim q _ s))).trans (settle_frame _)

end Sys2Proof.Machine

/-! The demand requests that open and close a program (R78, R93, R166; O45, O46). -/

namespace Sys2Proof.Machine

/-! ### A request that is taken -/

theorem clockBytes_args {l : Link} (h : l.state = .args) (bs : List Byte) :
    bs.foldl Link.clockByte l = if bs = [] then l else { l with args := l.args ++ bs, lastOut := 0, sinceEdge := 0 } := by
  induction bs generalizing l with
  | nil => rfl
  | cons b bs ih =>
    have hb : l.clockByte b = { l with args := l.args ++ [b], lastOut := 0, sinceEdge := 0 } := by
      simp only [Link.clockByte, h]
    rw [List.foldl_cons, hb, ih (l := { l with args := l.args ++ [b], lastOut := 0, sinceEdge := 0 }) h,
      if_neg (List.cons_ne_nil _ _)]
    split
    · rename_i hbs; simp [hbs]
    · simp

/-- The reply to a request whose bytes have come in (R163). -/
theorem respond_replying {s t : State} {code : Byte} {args : List Byte} (h : s.link.state = .code)
    (hc : argCount code = some args.length) (r : LinkResult) (bytes : List Byte)
    (ht : t.link = (clockBytes (code :: args) s).link) :
    respond r bytes t = { t with link := s.link.replying code args (r.byte :: bytes) } := by
  have hcode : s.link.clockByte code = { s.link with
      code := code, args := [], lastOut := 0, sinceEdge := 0, state := if 0 < args.length then .args else .code } := by
    simp only [Link.clockByte, h, hc, Option.getD_some]
  have hlink : t.link = args.foldl Link.clockByte (s.link.clockByte code) := ht
  cases args with
  | nil => rw [hcode] at hlink; simp [respond, Link.replying, hlink]
  | cons a as =>
    rw [hcode, clockBytes_args (by simp), if_neg (List.cons_ne_nil _ _)] at hlink
    simp [respond, Link.replying, hlink]

/-- A request of several bytes that the check accepts: its effect on the state with the bytes clocked in, and the reply OK. -/
theorem takeRequest_ok {check : State → LinkResult} {effect : State → State} {s : State} {code : Byte} {args : List Byte}
    (h : s.link.state = .code) (hc : argCount code = some args.length)
    (hok : check (clockBytes (code :: args) s) = .ok)
    (hf : (effect (clockBytes (code :: args) s)).link = (clockBytes (code :: args) s).link) :
    takeRequest check effect noReply (clockBytes (code :: args) s) =
      { effect (clockBytes (code :: args) s) with link := s.link.replying code args [0xA0] } := by
  rw [takeRequest, if_pos hok]
  exact respond_replying h hc .ok [] hf

theorem checkDemand_ok {argsOk : Bool} {s : State} (hl : s.loader.part ≠ .loading) (hf : s.loader.part ≠ .fault)
    (ha : argsOk = true) : checkDemand argsOk .ok s = .ok := by
  have hd : demandServed s = true := by unfold demandServed; split <;> simp_all
  simp [checkDemand, hd, ha]

/-! ### Opens -/

/-- Outside ACTIVE a placement request is discarded on arrival (R101). -/
theorem requestPlacement_inactive (r : Nat) {s : State} (h : s.loader.part ≠ .active) : requestPlacement r s = s := by
  have hi : isActive s = false := by simpa [isActive] using h
  simp [requestPlacement, queuePlacement, takeUpIf, hi]

/-- No more successors than records are counted, so an open is refused by no count but the records' (R74). -/
theorem takable_primary {k : ServiceClass} {s : State} (hk : k ≠ .data) : takable k none s = freeRecord s := by
  simp [takable, hk]

theorem openSlot_taken {k : ServiceClass} {n w r : Nat} {s : State} (hk : k ≠ .data) (hr : freeRecord s = some r) :
    openSlot k n w s = requestPlacement r (setClaim r ((s.claim r).taken k n w .new none) s) := by
  rw [openSlot, takable_primary hk, hr]

theorem checkOpen_ok {k : ServiceClass} {n : Nat} {s : State} (hk : k ≠ .data) (hopen : slotOpen s k n = false)
    (hmax : openCount s k < classMax s k) (hr : (freeRecord s).isSome = true) : checkOpen k n s = .ok := by
  obtain ⟨r, hr⟩ := Option.isSome_iff_exists.mp hr
  simp [checkOpen, hopen, takable_primary hk, hr, hmax]

/-- What an open comes to, in ACTIVE and outside it, for the state `v` that the request's effect starts from. -/
theorem settle_openSlot {k : ServiceClass} {n w r : Nat} {v : State} (hk : k ≠ .data) (hr : freeRecord v = some r) :
    let c := setClaim r ((v.claim r).taken k n w .new none) v
    settle (openSlot k n w v) = settle (requestPlacement r c) ∧
    (v.loader.part ≠ .active → EngineLaw v → settle (openSlot k n w v) = c) ∧
    OnlyPlacement c (settle (openSlot k n w v)) := by
  intro c
  rw [openSlot_taken hk hr]
  refine ⟨rfl, fun ha he => ?_, (requestPlacement_frame r c).trans (settle_frame _)⟩
  rw [requestPlacement_inactive r (s := c) ha]
  exact settle_of_engine_eq he rfl

theorem OnlyPlacement.withLink {s t : State} (h : OnlyPlacement s t) (l : Link) :
    OnlyPlacement { s with link := l } { t with link := l } := { h with link := rfl }

/-- An open that passes every check, with the bytes `code :: args` of its request (R78, R166). -/
theorem takeRequest_open {k : ServiceClass} {n w r : Nat} {check : State → LinkResult} {s : State} {code : Byte}
    {args : List Byte} (h : s.link.state = .code) (hc : argCount code = some args.length) (hk : k ≠ .data)
    (hr : freeRecord s = some r) (hok : check (clockBytes (code :: args) s) = .ok) :
    let c := setClaim r ((s.claim r).taken k n w .new none) (clockBytes (code :: args) s)
    let t := takeRequest check (fun s => settle (openSlot k n w s)) noReply (clockBytes (code :: args) s)
    let l := s.link.replying code args [0xA0]
    (s.loader.part = .active → t = { settle (requestPlacement r c) with link := l }) ∧
    (s.loader.part ≠ .active → EngineLaw s → t = { c with link := l }) ∧ OnlyPlacement { c with link := l } t := by
  intro c t l
  obtain ⟨heq, hinactive, hframe⟩ := settle_openSlot (n := n) (w := w) (v := clockBytes (code :: args) s) hk hr
  have ht : t = { settle (openSlot k n w (clockBytes (code :: args) s)) with link := l } :=
    takeRequest_ok h hc hok (by exact hframe.link)
  rw [ht]
  refine ⟨fun _ => by rw [heq]; rfl, fun ha he => by rw [hinactive ha he]; rfl, hframe.withLink l⟩

theorem slotArg_ok {n : Byte} (h : n.toNat ≤ 3) : slotArg n = true := decide_eq_true (by omega)

theorem widthArg_ok {w : Byte} (h1 : 1 ≤ w.toNat) (h8 : w.toNat ≤ 8) : widthArg w = true := by simp [widthArg, h1, h8]

/-- Settles O45: both opens are `openSlot` behind checks that pass. -/
theorem openTakesARecord : Obligations.OpenTakesARecord := by
  intro n w r s hr hcode hl hf hn hw1 hw8 hfree taken opened
  refine ⟨fun hopen hmax => ?_, fun hopen hmax => ?_⟩
  · have hexec : exec (.openProgram n w) s = .next (serveOpenProgram n w (clockBytes [0x11, n, w] s)) :=
      (outOfReset_released hr _).trans (congrArg _ (transact_code (c := .openProgram n w) rfl rfl hcode))
    have hok : checkOpen .video n.toNat (clockBytes [0x11, n, w] s) = .ok :=
      checkOpen_ok nofun hopen hmax (Option.isSome_iff_exists.mpr ⟨r, hfree⟩)
    obtain ⟨hactive, hinactive, hframe⟩ := takeRequest_open (n := n.toNat) (w := w.toNat) (code := 0x11) (args := [n, w])
      hcode rfl (nofun : ServiceClass.video ≠ .data) hfree (check := fun s =>
        checkDemand (slotArg n && widthArg w) (checkOpen .video n.toNat s) s)
      (by rw [hok]; exact checkDemand_ok hl hf (by rw [slotArg_ok hn, widthArg_ok hw1 hw8]; rfl))
    rw [hexec]
    exact ⟨fun ha => congrArg _ (hactive ha), fun ha he => congrArg _ (hinactive ha he), _, rfl, hframe⟩
  · have hexec : exec (.openCall n) s = .next (serveOpenCall n (clockBytes [0x13, n] s)) :=
      (outOfReset_released hr _).trans (congrArg _ (transact_code (c := .openCall n) rfl rfl hcode))
    have hok : checkOpen .voice n.toNat (clockBytes [0x13, n] s) = .ok :=
      checkOpen_ok nofun hopen hmax (Option.isSome_iff_exists.mpr ⟨r, hfree⟩)
    obtain ⟨hactive, hinactive, hframe⟩ := takeRequest_open (n := n.toNat) (w := 1) (code := 0x13) (args := [n])
      hcode rfl (nofun : ServiceClass.voice ≠ .data) hfree (check := fun s =>
        checkDemand (slotArg n) (checkOpen .voice n.toNat s) s)
      (by rw [hok]; exact checkDemand_ok hl hf (slotArg_ok hn))
    rw [hexec]
    exact ⟨fun ha => congrArg _ (hactive ha), fun ha he => congrArg _ (hinactive ha he), _, rfl, hframe⟩

/-! ### Closes -/

/-- An ended record outside the table is no change (R75). -/
theorem freeClosed_claims (s : State) (r : Nat) : (freeClosed s r).claims = s.claims.set r (s.claim r).ended := by
  unfold freeClosed; dsimp only
  rw [cancel_claims]
  cases hx : (s.claim r).run with
  | none => rw [if_neg (by simp), setClaim_claims, freed_eq_ended hx]
  | some x =>
    have hr : (releaseRun r s).claim r = (s.claim r).unrun := claim_setClaim_same _ (lt_length_of_run hx)
    rw [if_pos (by simp), setClaim_claims, hr, unrun_freed_eq_ended hx, releaseRun_claims, List.set_set]

theorem freeClosed_claim (s : State) (r q : Nat) :
    (freeClosed s r).claim q = if q = r then (s.claim r).ended else s.claim q := by
  have h := claim_setClaim r q (s.claim r).ended s
  rw [show (freeClosed s r).claim q = _ from (by rw [State.claim, freeClosed_claims]; rfl : _ = (setClaim r _ s).claim q), h]
  by_cases hq : q = r
  · subst hq
    by_cases hl : q < s.claims.length
    · simp [hl]
    · simp [hl, claim_beyond (Nat.le_of_not_lt hl)]; rfl
  · simp [hq]

theorem freeClosed_chan (s : State) (r : Nat) : (freeClosed s r).chan = (urgentIf (s.claim r).run.isSome s).chan := by
  unfold freeClosed; dsimp only
  rw [cancel_chan, setClaim_chan]
  cases (s.claim r).run.isSome <;> simp [releaseRun, urgentIf, isActive]

theorem freeClosed_grants (s : State) (r : Nat) : (freeClosed s r).grants = s.grants := by
  unfold freeClosed; dsimp only; split <;> rfl

theorem freeClosed_loans (s : State) (r : Nat) : (freeClosed s r).loans = s.loans := by
  unfold freeClosed; dsimp only; split <;> rfl

/-- A cancellation leaves the engine the other records' work only (R104). -/
theorem cancel_records_of {r q : Nat} {s : State} (h : q ∈ (cancel r s).engine.records) : q ≠ r ∧ q ∈ s.engine.records := by
  refine ⟨fun k => cancel_records r s (k ▸ h), ?_⟩
  have hm := takeUpIf_records h
  rw [show (discardPlacement r s).engine = _ from cancelIn_engine r s.engine s.scan, mem_records] at hm
  rw [mem_records]
  refine hm.imp ?_ (Or.imp ?_ ?_)
  · exact fun ⟨k, hk, hkr⟩ => ⟨k, (List.mem_filter.mp hk).1, hkr⟩
  · exact fun ⟨k, hk, hkr⟩ => ⟨k, (Option.filter_eq_some_iff.mp hk).1, hkr⟩
  · exact fun ⟨k, hk, hkr⟩ => ⟨k, (Option.filter_eq_some_iff.mp hk).1, hkr⟩

/-- The records `rs` are ended one after another, their runs released and their placements cancelled (R93). -/
structure EndsRecords (rs : List Nat) (s t : State) : Prop where
  length : t.claims.length = s.claims.length
  claim : ∀ q, t.claim q = if q ∈ rs then (s.claim q).ended else s.claim q
  loader : t.loader = s.loader
  chan : t.chan = (urgentIf (rs.any fun r => (s.claim r).run.isSome) s).chan
  records : ∀ q ∈ t.engine.records, q ∉ rs ∧ q ∈ s.engine.records
  clock : t.clock = s.clock
  loans : t.loans = s.loans

theorem endsRecords_foldl (rs : List Nat) (hrs : rs.Nodup) (s : State) : EndsRecords rs s (rs.foldl freeClosed s) := by
  induction rs generalizing s with
  | nil => exact ⟨rfl, fun _ => rfl, rfl, by rw [List.any_nil, urgentIf_false]; rfl, fun q hq => ⟨nofun, hq⟩, rfl, rfl⟩
  | cons r rs ih =>
    obtain ⟨hr, hnodup⟩ := List.nodup_cons.mp hrs
    obtain ⟨hlength, hclaim, hloader, hchan, hrecords, hclock, hloans⟩ := ih hnodup (freeClosed s r)
    have hload : (freeClosed s r).loader = s.loader := (freeClosed_frame s r).loader
    refine ⟨?_, fun q => ?_, hloader.trans hload, ?_, fun q hq => ?_, hclock.trans (freeClosed_frame s r).clock,
      hloans.trans (freeClosed_loans s r)⟩
    · rw [List.foldl_cons, hlength, freeClosed_claims, List.length_set]
    · rw [List.foldl_cons, hclaim, freeClosed_claim]
      by_cases hq : q = r
      · subst hq; simp [hr]
      · simp [hq]
    · have hany : (rs.any fun q => ((freeClosed s r).claim q).run.isSome) = rs.any fun q => (s.claim q).run.isSome := by
        rw [Bool.eq_iff_iff, List.any_eq_true, List.any_eq_true]
        refine exists_congr fun q => and_congr_right fun hq => ?_
        rw [freeClosed_claim, if_neg (ne_of_mem_of_not_mem hq hr)]
      rw [List.foldl_cons, hchan, hany, List.any_cons]
      have := urgentIf_urgentIf (s.claim r).run.isSome (rs.any fun q => (s.claim q).run.isSome) s
      rw [← this]
      simp only [urgentIf, freeClosed_chan, hload]
      rfl
    · obtain ⟨hnot, hin⟩ := hrecords q hq
      obtain ⟨hne, hs⟩ := cancel_records_of hin
      exact ⟨fun k => (List.mem_cons.mp k).elim hne hnot, by split at hs <;> exact hs⟩

theorem mem_closingRecords {k : ServiceClass} {n r : Nat} {s : State} : r ∈ closingRecords k n s ↔
    r < 20 ∧ (s.claim r).cls = k ∧ (s.claim r).slot = n ∧ (s.claim r).phase ≠ .free ∧ (s.claim r).phase ≠ .parked := by
  simp [closingRecords, Config.recordCount, and_assoc]

theorem closingRecords_nodup (k : ServiceClass) (n : Nat) (s : State) : (closingRecords k n s).Nodup :=
  List.Nodup.filter _ List.nodup_range

/-- A record that keeps a slot open is one that a close of the slot takes (R78, R93). -/
theorem opens_iff {c : ClaimRecord} {k : ServiceClass} {n : Nat} : c.opens k n = true ↔ c.cls = k ∧ c.slot = n ∧
    c.predecessor = none ∧ (c.phase = .seeking ∨ c.phase = .tentative ∨ c.phase = .held ∨ c.phase = .moving) := by
  simp [ClaimRecord.opens, and_assoc, or_assoc]

theorem slotOpen_eq_false {s : State} {k : ServiceClass} {n : Nat} : slotOpen s k n = false ↔
    ∀ q < s.claims.length, (s.claim q).opens k n = false := by
  rw [slotOpen, List.any_eq_false]
  constructor
  · exact fun h q hq => Bool.not_eq_true _ ▸ h _ (claim_mem hq)
  · intro h c hc
    obtain ⟨q, hq, rfl⟩ := mem_claims hc
    rw [h q hq]; exact nofun

/-- The rest of the step leaves what the ends have done. -/
theorem EndsRecords.settled {rs : List Nat} {s t : State} (h : EndsRecords rs s t) : EndsRecords rs s (settle t) := by
  have hf := settle_frame t
  obtain ⟨hlength, hclaim, hloader, hchan, hrecords, hclock, hloans⟩ := h
  refine ⟨hf.claims ▸ hlength, fun q => ?_, hf.loader.trans hloader, hf.chan.trans hchan,
    fun q hq => hrecords q (settle_records hq), hf.clock.trans hclock, hf.loans.trans hloans⟩
  rw [State.claim, hf.claims]; exact hclaim q

/-- A slot whose records are ended is closed (R78). -/
theorem EndsRecords.slotClosed {k : ServiceClass} {n : Nat} {s t : State} (h : EndsRecords (closingRecords k n s) s t)
    (hl : s.claims.length = 20) : slotOpen t k n = false := by
  rw [slotOpen_eq_false]
  intro q hq
  by_contra ho
  obtain ⟨hk, hs, -, hp⟩ := opens_iff.mp (Bool.not_eq_false _ ▸ ho)
  rw [h.length, hl] at hq
  rw [h.claim] at hk hs hp
  split at hp
  · rcases hp with hp | hp | hp | hp <;> cases hp
  · rename_i hnot
    rw [if_neg hnot] at hk hs
    exact hnot (mem_closingRecords.mpr ⟨hq, hk, hs, by rcases hp with hp | hp | hp | hp <;> rw [hp] <;> exact ⟨nofun, nofun⟩⟩)

theorem closeProgram_ends (n : Nat) (s : State) : EndsRecords (closingRecords .video n s) s (settle (closeProgram n s)) := by
  obtain ⟨hlength, hclaim, hloader, hchan, hrecords, hclock, hloans⟩ :=
    endsRecords_foldl (closingRecords .video n s) (closingRecords_nodup _ _ _) s
  exact EndsRecords.settled (t := closeProgram n s) ⟨hlength, hclaim, hloader, hchan, hrecords, hclock, hloans⟩

/-- The video grant changes with cause CLOSED where an entry changes (R96). -/
theorem closeProgram_grants (n : Nat) (s : State) : (settle (closeProgram n s)).grants = s.grants.put .video
    (s.grants.video.after (grantEntries (settle (closeProgram n s)).claims .video) .closed s.clock.stamp none) := by
  have hf := settle_frame (closeProgram n s)
  have hgrants : ((closingRecords .video n s).foldl freeClosed s).grants = s.grants :=
    foldl_frame (fun s t => t.grants = s.grants) (fun _ => rfl) (fun h k => k.trans h) _ freeClosed_grants _ s
  have hclock := (endsRecords_foldl (closingRecords .video n s) (closingRecords_nodup _ _ _) s).clock
  rw [hf.grants, hf.claims, closeProgram, commitGrant_grants, hgrants, hclock]; rfl

theorem exec_closeProgram {n : Byte} {s : State} (hr : s.loader.inReset = false) (hcode : s.link.state = .code)
    (hl : s.loader.part ≠ .loading) (hf : s.loader.part ≠ .fault) (hn : n.toNat ≤ 3)
    (hopen : slotOpen s .video n.toNat = true) : exec (.closeProgram n) s = .next
      { settle (closeProgram n.toNat (clockBytes [0x12, n] s)) with link := s.link.replying 0x12 [n] [0xA0] } := by
  have hexec : exec (.closeProgram n) s = .next (serveCloseProgram n (clockBytes [0x12, n] s)) :=
    (outOfReset_released hr _).trans (congrArg _ (transact_code (c := .closeProgram n) rfl rfl hcode))
  have hframe : OnlyClaims (clockBytes [0x12, n] s) (settle (closeProgram n.toNat (clockBytes [0x12, n] s))) :=
    (closeProgram_frame n.toNat _).trans (settle_frame _).claimsFrame
  have hslot : slotOpen (clockBytes [0x12, n] s) .video n.toNat = true := hopen
  rw [hexec]
  refine congrArg _ (takeRequest_ok (code := 0x12) (args := [n]) hcode rfl ?_ hframe.link)
  rw [if_pos hslot]
  exact checkDemand_ok hl hf (slotArg_ok hn)

theorem OnlyClaims.withLink {s t : State} (h : OnlyClaims s t) (l : Link) :
    OnlyClaims { s with link := l } { t with link := l } := { h with link := rfl }

/-- Settles O46: the fold over the closing records ends each of them, and the grant commit sees the rest. -/
theorem closeProgramEndsItsRecords : Obligations.CloseProgramEndsItsRecords := by
  intro n s hr hcode hl hf hn hopen hlen
  rw [exec_closeProgram hr hcode hl hf hn hopen]
  have hframe := (closeProgram_frame n.toNat (clockBytes [0x12, n] s)).trans (settle_frame _).claimsFrame
  have hends := closeProgram_ends n.toNat (clockBytes [0x12, n] s)
  have hgrants := closeProgram_grants n.toNat (clockBytes [0x12, n] s)
  have hclosed := hends.slotClosed hlen
  have hmem : ∀ r, r ∈ closingRecords .video n.toNat (clockBytes [0x12, n] s) ↔ r < 20 ∧ (s.claim r).cls = .video ∧
      (s.claim r).slot = n.toNat ∧ (s.claim r).phase ≠ .free ∧ (s.claim r).phase ≠ .parked := fun r => mem_closingRecords
  generalize settle (closeProgram n.toNat (clockBytes [0x12, n] s)) = t at hframe hends hgrants hclosed
  have hchan : ∀ b, ((closingRecords .video n.toNat (clockBytes [0x12, n] s)).any fun r => (s.claim r).run.isSome) = b →
      t.chan = (urgentIf b s).chan := fun b hb => hb ▸ hends.chan
  refine ⟨_, rfl, hframe.withLink _, fun r hr20 => ?claims, fun r hr20 hk hs hp hq => ⟨?cancelled, fun hx => ?urgent⟩,
    fun hnone => ?calm, hclosed, hends.loans, ?_, ?_, ?_⟩
  case claims =>
    refine (hends.claim r).trans ?_
    simp only [hmem, hr20, true_and]; rfl
  case cancelled => exact fun hm => (hends.records r hm).1 ((hmem r).mpr ⟨hr20, hk, hs, hp, hq⟩)
  case urgent =>
    refine (hchan true (List.any_eq_true.mpr ⟨r, (hmem r).mpr ⟨hr20, hk, hs, hp, hq⟩, hx⟩)).trans ?_
    simp [urgentIf]
  case calm =>
    refine (hchan false (List.any_eq_false.mpr fun r hm => ?_)).trans (by rw [urgentIf_false])
    obtain ⟨hr20, hk, hs, hp, hq⟩ := (hmem r).mp hm
    rw [hnone r hr20 hk hs hp hq]; exact nofun
  all_goals rw [show _ = _ from hgrants]; rfl

end Sys2Proof.Machine

/-! The top-down trim (R146), the unwinding of the Loan Stack (R158, R159) and the end of a drain (R86; O25). -/

namespace Sys2Proof.Machine

/-! ### The record that holds the highest data tile -/

/-- One record compared with the best so far: the later one wins where its run ends above (R146). -/
def higherData (s : State) (best : Option Nat) (r : Nat) : Option Nat :=
  if (s.claim r).isData then
    match (s.claim r).run, best with
    | some x, some b =>
      (match (s.claim b).run with
      | some y => if runLast y < runLast x then some r else best
      | none => some r)
    | some _, none => some r
    | none, _ => best
  else best

theorem highestData_eq (s : State) : highestData s = (List.range 20).foldl (higherData s) none := rfl

/-- A DATA record whose run ends with the tile below `n`, at or above the runs of the records `l`. -/
structure HighestOf (s : State) (l : List Nat) (r : Nat) (x : Run) : Prop where
  data : (s.claim r).isData = true
  run : (s.claim r).run = some x
  highest : ∀ q ∈ l, ∀ y, (s.claim q).isData = true → (s.claim q).run = some y → runLast y ≤ runLast x

/-- What the comparison of the records `l` has found. -/
def Highest (s : State) (l : List Nat) : Option Nat → Prop
  | some r => ∃ x, HighestOf s l r x
  | none => ∀ q ∈ l, (s.claim q).isData = true → (s.claim q).run = none

/-- A record without data tiles changes nothing. -/
theorem Highest.skip {s : State} {l : List Nat} {best : Option Nat} (h : Highest s l best) {r : Nat}
    (hr : (s.claim r).isData = true → (s.claim r).run = none) : Highest s (l ++ [r]) best := by
  cases best with
  | none => exact fun q hq hd => (List.mem_append.mp hq).elim (h q · hd) fun k => List.mem_singleton.mp k ▸ hr (by
      rw [← List.mem_singleton.mp k]; exact hd)
  | some b =>
    obtain ⟨y, hb⟩ := h
    refine ⟨y, hb.data, hb.run, fun q hq z hd hz => ?_⟩
    rcases List.mem_append.mp hq with hq | hq
    · exact hb.highest q hq z hd hz
    · rw [List.mem_singleton.mp hq] at hd hz
      rw [hr hd] at hz; cases hz

theorem higherData_highest {s : State} {l : List Nat} {best : Option Nat} (h : Highest s l best) (r : Nat) :
    Highest s (l ++ [r]) (higherData s best r) := by
  unfold higherData; split
  · rename_i hd
    split
    · rename_i x b hx
      obtain ⟨y, hb⟩ := h
      rw [hb.run]; dsimp only; split
      · rename_i hlt
        refine ⟨x, hd, hx, fun q hq z hqd hz => ?_⟩
        rcases List.mem_append.mp hq with hq | hq
        · exact (hb.highest q hq z hqd hz).trans hlt.le
        · rw [List.mem_singleton.mp hq, hx] at hz; cases hz; rfl
      · rename_i hge
        refine ⟨y, hb.data, hb.run, fun q hq z hqd hz => ?_⟩
        rcases List.mem_append.mp hq with hq | hq
        · exact hb.highest q hq z hqd hz
        · rw [List.mem_singleton.mp hq, hx] at hz; cases hz; exact Nat.le_of_not_lt hge
    · rename_i x hx
      refine ⟨x, hd, hx, fun q hq z hqd hz => ?_⟩
      rcases List.mem_append.mp hq with hq | hq
      · rw [h q hq hqd] at hz; cases hz
      · rw [List.mem_singleton.mp hq, hx] at hz; cases hz; rfl
    · rename_i hx; exact h.skip fun _ => hx
  · rename_i hd; exact h.skip fun k => absurd k hd

theorem highestData_highest (s : State) : Highest s (List.range 20) (highestData s) := by
  have hfold : ∀ l m best, Highest s m best → Highest s (m ++ l) (l.foldl (higherData s) best) := by
    intro l
    induction l with
    | nil => intro m best h; rw [List.append_nil]; exact h
    | cons r l ih =>
      intro m best h
      have := ih (m ++ [r]) _ (higherData_highest h r)
      rwa [List.append_assoc] at this
  exact hfold (List.range 20) [] none nofun

/-! ### One tile of the trim -/

/-- A change of one record in a sum over the records. -/
theorem sum_setClaim {f : ClaimRecord → Nat} {r : Nat} (c : ClaimRecord) {s : State} (hr : r < s.claims.length) :
    ((setClaim r c s).claims.map f).sum + f (s.claim r) = (s.claims.map f).sum + f c := by
  have hset : ∀ (l : List ClaimRecord) (i : Nat) (h : i < l.length),
      ((l.set i c).map f).sum + f l[i] = (l.map f).sum + f c := by
    intro l
    induction l with
    | nil => intro i h; cases h
    | cons d l ih =>
      intro i h
      cases i with
      | zero => simp only [List.set_cons_zero, List.map_cons, List.sum_cons, List.getElem_cons_zero]; omega
      | succ i =>
        have := ih i (Nat.lt_of_succ_lt_succ h)
        simp only [List.set_cons_succ, List.map_cons, List.sum_cons, List.getElem_cons_succ]; omega
  have := hset s.claims r hr
  rwa [← List.getD_eq_getElem _ ClaimRecord.reset hr] at this

/-- Record `r` with the run `x` holds the highest data tile, `n` (R146). -/
structure TopRun (s : State) (r n : Nat) (x : Run) : Prop where
  mem : r < s.claims.length
  data : (s.claim r).isData = true
  run : (s.claim r).run = some x
  width : 0 < x.width
  last : x.first + x.width = n + 1
  others : ∀ q y, q ≠ r → (s.claim q).isData = true → (s.claim q).run = some y → y.first + y.width ≤ n

theorem isData_iff {c : ClaimRecord} : c.isData = true ↔ c.cls = .data ∧ (c.phase = .tentative ∨ c.phase = .held) := by
  simp [ClaimRecord.isData]

theorem topRun_of_highestData {s : State} (law : OwnRunsLaw s) {r : Nat} (h : highestData s = some r) :
    ∃ n x, TopRun s r n x := by
  have hh := highestData_highest s
  rw [h] at hh
  obtain ⟨x, hd, hx, hmax⟩ := hh
  obtain ⟨hw, -, hband⟩ := runOk_iff.mp ((law.runLaw r).2 x hx)
  refine ⟨runLast x, x, lt_length_of_run hx, hd, hx, hw, by unfold runLast; omega, fun q y hq hqd hy => ?_⟩
  obtain ⟨hyw, -, -⟩ := runOk_iff.mp ((law.runLaw q).2 y hy)
  have hle := hmax q (List.mem_range.mpr ((lt_length_of_run hy).trans_eq law.1)) y hqd hy
  have hne : runLast y ≠ runLast x := fun he => by
    have hown := law.apart hq ((law.runLaw q).owns hy (n := runLast y) (runHas_iff.mpr (by unfold runLast; omega)))
    rw [(law.runLaw r).owns hx (n := runLast y) (runHas_iff.mpr (by rw [he]; unfold runLast; omega))] at hown
    cases hown
  unfold runLast at hle hne ⊢; omega

/-- A record without the last tile of its run `x`, under a new generation unless the same trim has cut it before (R145, R146). -/
def ClaimRecord.topCut (c : ClaimRecord) (again : Bool) (x : Run) : ClaimRecord :=
  ClaimRecord.keeping { c with generation := if again then c.generation else c.generation + 1 } (dropLastTile x)

/-- What one tile of the trim changes: the record, and the loan entries that name it where this is its first tile. -/
structure CutsTop (r : Nat) (again : Bool) (x : Run) (s t : State) : Prop where
  claims : t.claims = s.claims.set r ((s.claim r).topCut again x)
  loans : t.loans = if again then s.loans else orphanLoans r (s.claim r).generation s.loans
  grants : t.grants = s.grants
  chan : t.chan = s.chan
  attn : t.attn = s.attn

theorem cutTop_cutsTop {r : Nat} (cut : List Nat) {s : State} {x : Run} (hx : (s.claim r).run = some x) :
    CutsTop r (cut.contains r) x s (cutTop r cut s) := by
  unfold cutTop
  rw [hx]; dsimp only
  have hcancel : ∀ u, CutsTop r (cut.contains r) x s u → CutsTop r (cut.contains r) x s (cancelCut r (dropLastTile x) u) := by
    intro u ⟨hclaims, hloans, hgrants, hchan, hattn⟩
    unfold cancelCut; split <;> exact ⟨hclaims, hloans, hgrants, hchan, hattn⟩
  refine hcancel _ ?_
  cases hc : cut.contains r
  · exact ⟨rfl, rfl, rfl, rfl, rfl⟩
  · exact ⟨rfl, rfl, rfl, rfl, rfl⟩

/-- What is left of a DATA record with the last tile cut off. -/
theorem topCut_spec {c : ClaimRecord} (again : Bool) {x : Run} (hd : c.isData = true) :
    (c.topCut again x).generation = (if again then c.generation else c.generation + 1) ∧
    (c.topCut again x).run = dropLastTile x ∧ ((c.topCut again x).run.isSome = true → (c.topCut again x).isData = true) := by
  unfold ClaimRecord.topCut
  cases dropLastTile x with
  | none => exact ⟨rfl, rfl, nofun⟩
  | some y => exact ⟨rfl, rfl, fun _ => hd⟩

theorem topCut_dataTiles {c : ClaimRecord} (again : Bool) {x : Run} (hd : c.isData = true) (hx : c.run = some x)
    (hw : 0 < x.width) : (c.topCut again x).dataTiles + 1 = c.dataTiles := by
  obtain ⟨-, hrun, hdata⟩ := topCut_spec again (x := x) hd
  have hc : c.dataTiles = x.width := by simp [ClaimRecord.dataTiles, ClaimRecord.runWidth, hd, hx]
  unfold dropLastTile at hrun
  split at hrun
  · rw [dataTiles_unrun hrun]; omega
  · rw [hrun] at hdata
    have hcut : (c.topCut again x).dataTiles = x.width - 1 := by
      simp [ClaimRecord.dataTiles, ClaimRecord.runWidth, hdata rfl, hrun]
    omega

theorem cutTop_dataCount {r n : Nat} (cut : List Nat) {s : State} {x : Run} (h : TopRun s r n x) :
    dataCount (cutTop r cut s) + 1 = dataCount s := by
  have hsum := sum_setClaim (f := ClaimRecord.dataTiles) ((s.claim r).topCut (cut.contains r) x) h.mem
  have hone := topCut_dataTiles (cut.contains r) h.data h.run h.width
  rw [setClaim_claims, ← (cutTop_cutsTop cut h.run).claims] at hsum
  rw [dataCount_eq, dataCount_eq]; omega

/-! ### The whole trim -/

/-- A loan entry that loses its lender where that is one of the records `cut`, under the generation it had before (R154). -/
def LoanEntry.orphanedBy (cut : List Nat) (generation : Nat → BitVec 4) (e : LoanEntry) : LoanEntry :=
  if e.lender.any (fun l => decide (l ∈ cut) && decide (generation l = e.lenderGeneration)) = true then
    { e with lender := none }
  else e

theorem orphanedBy_nil (generation : Nat → BitVec 4) (e : LoanEntry) : e.orphanedBy [] generation = e := by
  simp [LoanEntry.orphanedBy]

theorem orphanLoans_orphanedBy (r : Nat) (cut : List Nat) (generation : Nat → BitVec 4) (l : List LoanEntry) :
    orphanLoans r (generation r) (l.map (LoanEntry.orphanedBy cut generation)) =
      l.map (LoanEntry.orphanedBy (r :: cut) generation) := by
  rw [orphanLoans, List.map_map]
  refine List.map_congr_left fun e _ => ?_
  obtain ⟨lender, lg, b, bg, t, st⟩ := e
  cases lender with
  | none => simp [LoanEntry.orphanedBy]
  | some l =>
    by_cases hl : l = r
    · subst hl
      by_cases hg : generation l = lg
      · by_cases hc : l ∈ cut <;> simp [LoanEntry.orphanedBy, hg, hc]
      · simp [LoanEntry.orphanedBy, hg, Ne.symm hg]
    · by_cases hc : l ∈ cut ∧ generation l = lg
      · simp [LoanEntry.orphanedBy, hc.1, hc.2]
      · simp [LoanEntry.orphanedBy, hl, hc]

theorem orphanedBy_mem {r : Nat} {cut : List Nat} (h : r ∈ cut) (generation : Nat → BitVec 4) :
    LoanEntry.orphanedBy (r :: cut) generation = LoanEntry.orphanedBy cut generation := by
  funext e
  have hmem : ∀ l, l ∈ r :: cut ↔ l ∈ cut := fun l => List.mem_cons.trans (or_iff_right_of_imp fun k => k ▸ h)
  simp only [LoanEntry.orphanedBy, hmem]

/-- The trim of the data tiles of `v` from tile `h` on has cut the records `cut` (R146, R154). -/
structure TrimmedAt (h : Nat) (cut : List Nat) (v s : State) : Prop where
  length : s.claims.length = v.claims.length
  kept : ∀ r, r ∉ cut → s.claim r = v.claim r
  below : ∀ r z, r ∉ cut → (v.claim r).isData = true → (v.claim r).run = some z → z.first + z.width ≤ h
  cutTo : ∀ r ∈ cut, (v.claim r).isData = true ∧ (s.claim r).generation = (v.claim r).generation + 1 ∧
    ((s.claim r).run.isSome = true → (s.claim r).isData = true) ∧
    ∃ z, (v.claim r).run = some z ∧ h < z.first + z.width ∧
      (s.claim r).run = if z.first < h then some ⟨z.first, h - z.first⟩ else none
  loans : s.loans = v.loans.map (LoanEntry.orphanedBy cut fun l => (v.claim l).generation)
  grants : s.grants = v.grants
  chan : s.chan = v.chan
  attn : s.attn = v.attn

theorem trimmedAt_refl {v : State} (law : OwnRunsLaw v) : TrimmedAt 120 [] v v where
  length := rfl
  kept _ _ := rfl
  below r z _ _ hz := (runOk_iff.mp ((law.runLaw r).2 z hz)).2.2
  cutTo := nofun
  loans := by rw [funext (orphanedBy_nil _), List.map_id']
  grants := rfl
  chan := rfl
  attn := rfl

theorem dropLastTile_eq {x : Run} {n : Nat} (h : x.first + x.width = n + 1) :
    dropLastTile x = if x.first < n then some ⟨x.first, n - x.first⟩ else none := by
  unfold dropLastTile
  by_cases hw : x.width ≤ 1
  · rw [if_pos hw, if_neg (by omega)]
  · rw [if_neg hw, if_pos (by omega), show x.width - 1 = n - x.first by omega]

/-- The next tile of the trim lowers the bound to that tile. -/
theorem TrimmedAt.cutTop {h n r : Nat} {cut : List Nat} {v s : State} {x : Run} (ht : TrimmedAt h cut v s)
    (htop : TopRun s r n x) : TrimmedAt n (r :: cut) v (cutTop r cut s) := by
  obtain ⟨hclaims, hloans, hgrants, hchan, hattn⟩ := cutTop_cutsTop cut htop.run
  obtain ⟨hgen, hrun, hdata⟩ := topCut_spec (cut.contains r) (x := x) htop.data
  have hother : ∀ q, q ≠ r → (Machine.cutTop r cut s).claim q = s.claim q := fun q hq => claim_of_set_other hclaims hq
  have hself : (Machine.cutTop r cut s).claim r = (s.claim r).topCut (cut.contains r) x :=
    claim_of_set_same hclaims htop.mem
  have hlast := htop.last
  have hbound : n < h := by
    by_cases hr : r ∈ cut
    · obtain ⟨-, -, -, z, -, -, hz⟩ := ht.cutTo r hr
      rw [htop.run] at hz
      split at hz <;> cases hz
      dsimp only at hlast; omega
    · have := ht.below r x hr (ht.kept r hr ▸ htop.data) (ht.kept r hr ▸ htop.run)
      omega
  refine ⟨?length, fun q hq => ?kept, fun q z hq hd hz => ?below, fun q hq => ?cutTo, ?loans, hgrants.trans ht.grants,
    hchan.trans ht.chan, hattn.trans ht.attn⟩
  case length => rw [hclaims, List.length_set, ht.length]
  case kept =>
    obtain ⟨hqr, hqc⟩ := not_or.mp (List.mem_cons.not.mp hq)
    rw [hother q hqr, ht.kept q hqc]
  case below =>
    obtain ⟨hqr, hqc⟩ := not_or.mp (List.mem_cons.not.mp hq)
    rw [← ht.kept q hqc] at hd hz
    exact htop.others q z hqr hd hz
  case cutTo =>
    by_cases hqr : q = r
    · subst hqr
      rw [hself]
      by_cases hqc : q ∈ cut
      · obtain ⟨hvd, hvg, -, z, hz, hlt, hzs⟩ := ht.cutTo q hqc
        have hc : cut.contains q = true := List.contains_iff_mem.mpr hqc
        refine ⟨hvd, by rw [hgen, hc]; exact hvg, hdata, z, hz, hbound.trans hlt, ?_⟩
        rw [htop.run] at hzs
        split at hzs <;> cases hzs
        rw [hrun, dropLastTile_eq hlast]
      · have hc : cut.contains q = false := by simpa using hqc
        have hv := ht.kept q hqc
        refine ⟨hv ▸ htop.data, by rw [hgen, hc, hv]; rfl, hdata, x, hv ▸ htop.run, by omega, ?_⟩
        rw [hrun, dropLastTile_eq hlast]
    · obtain ⟨hvd, hvg, hvs, z, hz, hlt, hzs⟩ := ht.cutTo q (List.mem_of_ne_of_mem hqr hq)
      rw [hother q hqr]
      refine ⟨hvd, hvg, hvs, z, hz, hbound.trans hlt, ?_⟩
      rw [hzs]
      have hle : ¬z.first < h := fun hzh => by
        rw [if_pos hzh] at hzs
        have := htop.others q _ hqr (hvs (by rw [hzs]; rfl)) hzs
        dsimp only at this; omega
      rw [if_neg hle, if_neg (by omega)]
  case loans =>
    rw [hloans, ht.loans]
    by_cases hr : r ∈ cut
    · rw [if_pos (List.contains_iff_mem.mpr hr), orphanedBy_mem hr]
    · rw [if_neg (by simpa using hr), ht.kept r hr, orphanLoans_orphanedBy r cut fun l => (v.claim l).generation]

theorem dataCount_eq_zero {s : State} (h : highestData s = none) (hl : s.claims.length = 20) : dataCount s = 0 := by
  have hh := highestData_highest s
  rw [h] at hh
  rw [dataCount_eq, List.sum_eq_zero_iff]
  intro d hd
  obtain ⟨c, hc, rfl⟩ := List.mem_map.mp hd
  obtain ⟨q, hq, rfl⟩ := mem_claims hc
  unfold ClaimRecord.dataTiles; split
  · rename_i hdata
    simp [ClaimRecord.runWidth, hh q (List.mem_range.mpr (hl ▸ hq)) hdata]
  · rfl

/-- The records that a trim has cut are the DATA ones that it has changed. -/
theorem TrimmedAt.mem_cut {h : Nat} {cut : List Nat} {v s : State} (ht : TrimmedAt h cut v s) (r : Nat) :
    r ∈ cut ↔ (v.claim r).isData = true ∧ s.claim r ≠ v.claim r := by
  refine ⟨fun hr => ?_, fun ⟨_, hne⟩ => by_contra fun hr => hne (ht.kept r hr)⟩
  obtain ⟨hd, hg, -⟩ := ht.cutTo r hr
  refine ⟨hd, fun he => ?_⟩
  rw [he] at hg
  exact absurd hg (by bv_omega)

theorem TrimmedAt.narrower {h : Nat} {cut : List Nat} {v s : State} (ht : TrimmedAt h cut v s) (law : OwnRunsLaw v) {r : Nat}
    (hr : r ∈ cut) : (s.claim r).runWidth < (v.claim r).runWidth := by
  obtain ⟨-, -, -, z, hz, hlt, hs⟩ := ht.cutTo r hr
  obtain ⟨hw, -, -⟩ := runOk_iff.mp ((law.runLaw r).2 z hz)
  simp only [ClaimRecord.runWidth, hz, hs]
  split
  · rename_i y hy
    split at hy <;> cases hy
    dsimp only; omega
  · exact hw

/-- The tiles below the bound are kept, the others go (R146). -/
theorem TrimmedAt.bound {h : Nat} {cut : List Nat} {v s : State} (ht : TrimmedAt h cut v s) {r n : Nat} {z : Run}
    (hd : (v.claim r).isData = true) (hz : (v.claim r).run = some z) :
    (∃ y, (s.claim r).run = some y ∧ runHas y n = true) ↔ runHas z n = true ∧ n < h := by
  by_cases hr : r ∈ cut
  · obtain ⟨-, -, -, z', hz', hlt, hs⟩ := ht.cutTo r hr
    rw [hz] at hz'; cases hz'
    by_cases hb : z.first < h
    · simp only [hs, if_pos hb, Option.some.injEq, exists_eq_left', runHas_iff]; omega
    · rw [if_neg hb] at hs
      refine ⟨fun ⟨y, k, _⟩ => (Option.some_ne_none y (k.symm.trans hs)).elim, fun ⟨k, hn⟩ => ?_⟩
      have := runHas_iff.mp k
      omega
  · have hb := ht.below r z hr hd hz
    simp only [ht.kept r hr, hz, Option.some.injEq, exists_eq_left', runHas_iff]; omega

theorem TrimmedAt.loansOf {h : Nat} {cut : List Nat} {v s : State} (ht : TrimmedAt h cut v s) :
    s.loans = v.loans.map fun e => if e.lender.any (fun l => (v.claim l).isData && decide (s.claim l ≠ v.claim l) &&
      decide ((v.claim l).generation = e.lenderGeneration)) = true then { e with lender := none } else e := by
  rw [ht.loans]
  refine List.map_congr_left fun e _ => ?_
  have hmem : ∀ l, decide (l ∈ cut) = ((v.claim l).isData && decide (s.claim l ≠ v.claim l)) := fun l => by
    rw [Bool.eq_iff_iff, decide_eq_true_iff, Bool.and_eq_true, decide_eq_true_iff]; exact ht.mem_cut l
  simp only [LoanEntry.orphanedBy, hmem]

/-- A trim of at most as many tiles as there are cuts exactly so many, the highest ones (R146). -/
theorem cutHighest_trimmedAt (k : Nat) : ∀ {h : Nat} {cut : List Nat} {v s : State}, TrimmedAt h cut v s → OwnRunsLaw s →
    k ≤ dataCount s → ∃ n cut', TrimmedAt n cut' v (cutHighest k cut s) ∧ dataCount (cutHighest k cut s) + k = dataCount s := by
  induction k with
  | zero => exact fun ht _ _ => ⟨_, _, ht, rfl⟩
  | succ k ih =>
    intro h cut v s ht law hk
    unfold cutHighest; split
    · rename_i r hr
      obtain ⟨n, x, htop⟩ := topRun_of_highestData law hr
      have hcount := cutTop_dataCount cut htop
      obtain ⟨m, cut', htrim, hsum⟩ := ih (ht.cutTop htop) ((cutTop_receding r cut s).ownRunsLaw law) (by omega)
      exact ⟨m, cut', htrim, by omega⟩
    · rename_i hnone
      rw [dataCount_eq_zero hnone law.1] at hk; omega

/-- The trim that a return above the ceiling makes (R147), with the one change of the data grant. -/
theorem topDownTrim_spec {k : Nat} {v : State} (law : OwnRunsLaw v) (hk : k ≤ dataCount v) (hpos : 0 < k) :
    ∃ h cut s, TrimmedAt h cut v s ∧ dataCount s + k = dataCount v ∧
      topDownTrim k v = commitGrant .data .trimmed none (urgentRequest s) ∧ OnlyClaims v s := by
  obtain ⟨h, cut, ht, hsum⟩ := cutHighest_trimmedAt k (trimmedAt_refl law) law hk
  exact ⟨h, cut, _, ht, hsum, if_neg (by omega), cutHighest_frame k [] v⟩

/-! ### What follows an unwinding -/

/-- The end of an unwinding: the returned tiles are granted, and a data count above the ceiling is trimmed (R160, R147). -/
def grantReturns (v : State) : State := if grantMoved v .data then trimToCeiling (commitGrant .data .returned none v) else v

theorem unwind_eq (s : State) : unwind s = grantReturns (unwindStack s.loans.length s) := rfl

theorem commitGrant_moved {k : ServiceClass} {c : GrantCause} {d : Option Nat} {s : State}
    (h : grantEntries s.claims k ≠ (s.grants.of k).entries) :
    (commitGrant k c d s).attn = { s.attn with latched := s.attn.latched ||| 0x01 } := by
  have hm : grantMoved s k = true := decide_eq_true h
  unfold commitGrant
  simp only [hm, if_true]; rfl

/-- GRANT, once latched, stays latched. -/
theorem commitGrant_latched {k : ServiceClass} {c : GrantCause} {d : Option Nat} {s : State} {a : Attention}
    (h : s.attn = { a with latched := a.latched ||| 0x01 }) :
    (commitGrant k c d s).attn = { a with latched := a.latched ||| 0x01 } := by
  have hor : a.latched ||| 0x01 ||| 0x01 = a.latched ||| (0x01 : Byte) := by rw [BitVec.or_assoc]; rfl
  by_cases hm : grantEntries s.claims k = (s.grants.of k).entries
  · have hk : grantMoved s k = false := decide_eq_false (not_not.mpr hm)
    unfold commitGrant; simp only [hk]; exact h
  · rw [commitGrant_moved hm, h]
    exact congrArg (fun b => ({ a with latched := b } : Attention)) hor

theorem grantReturns_unmoved {v : State} (h : grantEntries v.claims .data = v.grants.data.entries) : grantReturns v = v := by
  have hm : grantMoved v .data = false := decide_eq_false (not_not.mpr h)
  rw [grantReturns, hm]; rfl

theorem grantReturns_moved {v : State} (h : grantEntries v.claims .data ≠ v.grants.data.entries) :
    grantReturns v = topDownTrim (dataCount v - v.demand.ceiling) (commitGrant .data .returned none v) :=
  if_pos (decide_eq_true h)

theorem grantReturns_returnsGranted (v : State) : ReturnsGranted v (grantReturns v) where
  unmoved h := by rw [grantReturns_unmoved h]; exact ⟨rfl, rfl, rfl, rfl, rfl⟩
  within h hle := by
    rw [grantReturns_moved h, Nat.sub_eq_zero_of_le hle]
    exact ⟨rfl, rfl, rfl, commitGrant_data_grants .returned none v, commitGrant_moved h⟩
  above h hlt law := by
    obtain ⟨b, cut, s, ht, hsum, htrim, hframe⟩ := topDownTrim_spec (v := commitGrant .data .returned none v)
      (k := dataCount v - v.demand.ceiling) law (Nat.sub_le _ _) (by omega)
    have hcount : dataCount (commitGrant .data .returned none v) = dataCount v := rfl
    rw [grantReturns_moved h, htrim]
    refine ⟨?_, fun r hd => ht.kept r fun hr => ?_, fun r hd => ?_, ⟨b, fun r z n hd hz => ht.bound hd hz⟩,
      ht.loansOf, ?_, ?_, ?_⟩
    · rw [show dataCount (commitGrant .data .trimmed none (urgentRequest s)) = dataCount s from rfl]; omega
    · rw [show (v.claim r).isData = true from (ht.cutTo r hr).1] at hd; cases hd
    · by_cases hr : r ∈ cut
      · exact .inr ⟨(ht.cutTo r hr).2.1, ht.narrower law hr⟩
      · exact .inl (ht.kept r hr)
    · have hclock : (urgentRequest s).clock = v.clock := hframe.clock
      have hgrants : (urgentRequest s).grants = (commitGrant .data .returned none v).grants := ht.grants
      rw [commitGrant_data_grants, hgrants, commitGrant_data_grants, hclock]; rfl
    · exact commitGrant_latched (ht.attn.trans (commitGrant_moved h))
    · have hload : s.loader = v.loader := hframe.loader
      rw [commitGrant_chan, urgentRequest_chan, ht.chan, isActive, hload]; simp

/-! ### The unwinding -/

/-- The pop of an entry whose borrower holds the tile for it, by what `settledBy` makes of the claim records (R158, R159). -/
theorem settledBy_answers {e : LoanEntry} {s : State} (he : e.state = .returned) (ha : answersFor e s = true) (b : Bool) :
    settledBy (s.claims, b) e = match returnsHome e s with
      | some l => ((mergeInto l e.borrower widenUp s).claims, b)
      | none => (s.claims.set e.borrower (s.claim e.borrower).ended, true) := by
  obtain ⟨hphase, hgen, hrun⟩ := answersFor_iff.mp ha
  have hended : (s.claim e.borrower).unrun.freed = (s.claim e.borrower).ended := unrun_freed_eq_ended hrun
  unfold settledBy
  dsimp only
  rw [if_pos ⟨he, hphase, hgen, hrun⟩]
  cases hh : returnsHome e s with
  | some l =>
    obtain ⟨hl, x, hx, hhome⟩ := returnsHome_eq_some.mp hh
    have hwide : (s.claim l).widened widenUp = { s.claim l with run := some ⟨x.first, x.width + 1⟩, width := x.width + 1 } := by
      rw [ClaimRecord.widened, hx]; rfl
    rw [hl]; dsimp only
    rw [show (s.claims.getD l ClaimRecord.reset).run = some x from hx]; dsimp only
    refine (if_pos hhome).trans ?_
    rw [mergeInto, hended, hwide]; rfl
  | none =>
    have hnot : ∀ l x, e.lender = some l → (s.claim l).run = some x → ¬((s.claim l).cls = .data ∧ (s.claim l).phase = .held ∧
        (s.claim l).generation = e.lenderGeneration ∧ x.first + x.width = e.tile ∧ x.width < 8) := fun l x hl hx hhome => by
      rw [returnsHome_eq_some.mpr ⟨hl, x, hx, hhome⟩] at hh; cases hh
    split
    · rename_i l hl
      split
      · rename_i x hx; exact if_neg (hnot l x hl hx)
      · rfl
    · rfl

/-- The pop of a RETURNED entry is what `settledBy` says of the claim records, with the urgent build of a released tile (R158, R159). -/
theorem settleReturned_settledBy {e : LoanEntry} (he : e.state = .returned) (s : State) :
    ∃ u, (∀ b, settledBy (s.claims, b) e = ((settleReturned e s).claims, b || u)) ∧
      settleReturned e s = urgentIf u { s with claims := (settleReturned e s).claims } := by
  unfold settleReturned
  by_cases ha : answersFor e s = true
  · rw [if_pos ha]
    have hby := fun b => settledBy_answers he ha b
    cases hh : returnsHome e s with
    | some l =>
      refine ⟨false, fun b => ?_, by rw [urgentIf_false]; rfl⟩
      rw [hby, hh, Bool.or_false]
    | none =>
      have hended := unrun_freed_eq_ended (answersFor_iff.mp ha).2.2
      refine ⟨true, fun b => ?_, by rw [urgentRequest_eq]; rfl⟩
      rw [hby, hh, Bool.or_true, ← hended]; rfl
  · rw [if_neg ha]
    refine ⟨false, fun b => ?_, by rw [urgentIf_false]⟩
    rw [Bool.or_false]
    refine if_neg fun ⟨_, hphase, hgen, hrun⟩ => ha (answersFor_iff.mpr ⟨hphase, hgen, hrun⟩)

theorem settledBy_void {e : LoanEntry} (he : e.state ≠ .returned) (p : List ClaimRecord × Bool) : settledBy p e = p :=
  if_neg fun h => he h.1

theorem popped_concat (l : List LoanEntry) (e : LoanEntry) :
    poppedEntries (l ++ [e]) = if e.state = .out then [] else e :: poppedEntries l := by
  by_cases h : e.state = .out <;> simp [poppedEntries, h]

theorem remaining_concat (l : List LoanEntry) (e : LoanEntry) :
    remainingEntries (l ++ [e]) = if e.state = .out then l ++ [e] else remainingEntries l := by
  by_cases h : e.state = .out <;> simp [remainingEntries, h]

/-- The state after an unwinding, the urgent build `b` having been requested before it. -/
def unwound (b : Bool) (s : State) : State :=
  let settled := (poppedEntries s.loans).foldl settledBy (s.claims, b)
  urgentIf settled.2 { s with claims := settled.1, loans := remainingEntries s.loans }

/-- The unwinding stops at an OUT entry, and at the bottom (R158). -/
theorem unwound_stops {b : Bool} {s : State} (h : ∀ e ∈ s.loans.getLast?, e.state = .out) : unwound b s = urgentIf b s := by
  have hpop : poppedEntries s.loans = [] ∧ remainingEntries s.loans = s.loans := by
    rcases List.eq_nil_or_concat s.loans with hl | ⟨l, e, hl⟩
    · rw [hl]; exact ⟨rfl, rfl⟩
    · have he : e.state = .out := h e (by rw [hl, List.concat_eq_append, List.getLast?_concat]; rfl)
      rw [hl, List.concat_eq_append, popped_concat, remaining_concat, if_pos he, if_pos he]; exact ⟨rfl, rfl⟩
  rw [unwound, hpop.1, hpop.2]; rfl

/-- The pop of the top entry and the unwinding of the rest (R158). -/
theorem unwound_pops {b u : Bool} {s : State} {l : List LoanEntry} {e : LoanEntry} (hl : s.loans = l ++ [e])
    (he : e.state ≠ .out) {claims : List ClaimRecord} (hby : settledBy (s.claims, b) e = (claims, u)) :
    unwound b s = unwound u { s with claims := claims, loans := l } := by
  simp only [unwound, hl, popped_concat, remaining_concat, if_neg he, List.foldl_cons, hby]

/-- An urgent build once requested stays requested. -/
theorem settledBy_urgent (l : List LoanEntry) (claims : List ClaimRecord) : (l.foldl settledBy (claims, true)).2 = true := by
  have hone : ∀ (p : List ClaimRecord × Bool) e, p.2 = true → (settledBy p e).2 = true := fun p e hp => by
    unfold settledBy; dsimp only
    split
    · split
      · split
        · split
          · exact hp
          · rfl
        · rfl
      · rfl
    · exact hp
  suffices h : ∀ p : List ClaimRecord × Bool, p.2 = true → (l.foldl settledBy p).2 = true from h _ rfl
  induction l with
  | nil => exact fun _ => id
  | cons e l ih => exact fun p hp => ih _ (hone p e hp)

/-- The stack unwinds by the pops of its entries above the highest OUT one, the top one first (R158). -/
theorem unwindStack_eq (n : Nat) : ∀ (b : Bool) (s : State), s.loans.length ≤ n → unwindStack n (urgentIf b s) = unwound b s := by
  induction n with
  | zero =>
    intro b s hn
    have hl : s.loans = [] := List.length_eq_zero_iff.mp (Nat.le_zero.mp hn)
    rw [unwound_stops (by rw [hl]; exact nofun)]; rfl
  | succ n ih =>
    intro b s hn
    have hlast : (urgentIf b s).loans.getLast? = s.loans.getLast? := rfl
    unfold unwindStack
    rw [hlast]
    rcases List.eq_nil_or_concat s.loans with hl | ⟨l, e, hl⟩
    · rw [unwound_stops (by rw [hl]; exact nofun), hl]; rfl
    · rw [List.concat_eq_append] at hl
      have hlen : l.length ≤ n := by rw [hl, List.length_append] at hn; exact Nat.le_of_succ_le_succ hn
      have hdrop : (urgentIf b s).loans.dropLast = l := by
        rw [show (urgentIf b s).loans = s.loans from rfl, hl, List.dropLast_concat]
      rw [show s.loans.getLast? = some e by rw [hl, List.getLast?_concat]]
      dsimp only
      split
      · rename_i he
        exact (unwound_stops (by rw [hl, List.getLast?_concat]; rintro _ ⟨⟩; exact he)).symm
      · rename_i he
        have hne : e.state ≠ .out ∧ e.state ≠ .returned := by rw [he]; exact ⟨nofun, nofun⟩
        rw [unwound_pops hl hne.1 (settledBy_void hne.2 _), hdrop]
        exact ih b { s with loans := l } hlen
      · rename_i he
        rw [hdrop]
        obtain ⟨u, hby, hset⟩ := settleReturned_settledBy he { urgentIf b s with loans := l }
        rw [unwound_pops hl (by rw [he]; nofun) (hby b), hset]
        have hmerge : urgentIf u (urgentIf b { s with
            claims := (settleReturned e { urgentIf b s with loans := l }).claims, loans := l }) = _ := urgentIf_urgentIf b u _
        exact (congrArg (unwindStack n) hmerge).trans (ih (b || u) _ hlen)

theorem unwind_urgentIf (b : Bool) (s : State) : unwind (urgentIf b s) = grantReturns (unwound b s) := by
  rw [unwind_eq, show (urgentIf b s).loans = s.loans from rfl, unwindStack_eq s.loans.length b s le_rfl]

/-! ### Free records -/

/-- The FREE records stay as they are. -/
def FreeKept (s t : State) : Prop := ∀ q, (s.claim q).phase = .free → t.claim q = s.claim q

theorem FreeKept.refl (s : State) : FreeKept s s := fun _ _ => rfl

theorem FreeKept.trans {s t u : State} (h : FreeKept s t) (k : FreeKept t u) : FreeKept s u := fun q hq => by
  rw [k q (by rw [h q hq]; exact hq), h q hq]

theorem FreeKept.set {s : State} {r : Nat} (c : ClaimRecord) (h : (s.claim r).phase ≠ .free) : FreeKept s (setClaim r c s) :=
  fun _ hq => claim_setClaim_other _ fun k => h (k ▸ hq)

theorem settleReturned_freeKept (e : LoanEntry) (s : State) : FreeKept s (settleReturned e s) := by
  unfold settleReturned; split
  · rename_i ha
    have hb : (s.claim e.borrower).phase ≠ .free := fun hp => by
      have := (answersFor_iff.mp ha).1
      rw [hp] at this
      rcases this with k | k | k | k <;> cases k
    split
    · rename_i l hl
      obtain ⟨-, x, -, -, hheld, -⟩ := returnsHome_eq_some.mp hl
      intro q hq
      have hql : q ≠ l := fun k => by rw [k, hheld] at hq; cases hq
      have hqb : q ≠ e.borrower := fun k => hb (k ▸ hq)
      rw [mergeInto, claim_setClaim_other _ hqb, claim_setClaim_other _ hql]
    · exact FreeKept.set _ hb
  · exact .refl s

theorem unwindStack_freeKept (n : Nat) : ∀ s, FreeKept s (unwindStack n s) := by
  induction n with
  | zero => exact .refl
  | succ n ih =>
    intro s; unfold unwindStack; split
    · split
      · exact .refl s
      · exact ih { s with loans := s.loans.dropLast }
      · exact (settleReturned_freeKept _ { s with loans := s.loans.dropLast }).trans (ih _)
    · exact .refl s

theorem topDownTrim_freeKept (k : Nat) (s : State) : FreeKept s (topDownTrim k s) := by
  have hcut : ∀ k cut s, FreeKept s (cutHighest k cut s) := by
    intro k
    induction k with
    | zero => exact fun _ => .refl
    | succ k ih =>
      intro cut s; unfold cutHighest; split
      · rename_i r hr
        have hh := highestData_highest s
        rw [hr] at hh
        obtain ⟨x, hd, hx, -⟩ := hh
        refine FreeKept.trans (fun q hq => claim_of_set_other (cutTop_cutsTop cut hx).claims fun hqr => ?_) (ih _ _)
        rw [hqr] at hq
        rcases (isData_iff.mp hd).2 with hp | hp <;> cases hq.symm.trans hp
      · exact .refl s
  unfold topDownTrim; split
  · exact .refl s
  · exact hcut k [] s

theorem grantReturns_freeKept (s : State) : FreeKept s (grantReturns s) := by
  unfold grantReturns; split
  · exact topDownTrim_freeKept _ (commitGrant .data .returned none s)
  · exact .refl s

theorem unwind_freeKept (s : State) : FreeKept s (unwind s) := (unwindStack_freeKept _ s).trans (grantReturns_freeKept _)

/-! ### The loan of a record that is freed -/

theorem voidLoan_names {i r : Nat} {g : BitVec 4} {e : LoanEntry} {s : State} (he : s.loans[i]? = some e)
    (hb : e.borrower = r) (hg : e.borrowerGeneration = g) (hv : e.state ≠ .void) : voidLoan i r g s =
      if i + 1 = s.loans.length then unwind (markLoan i .void s) else markLoan i .void s := by
  refine if_pos ⟨?_, ?_⟩
  · simp [loanNames, he, hb, hg]
  · simp [loanIs, he, hv]

theorem markLoan_set {i : Nat} {e : LoanEntry} {s : State} (he : s.loans[i]? = some e) (x : LoanState) :
    (markLoan i x s).loans = s.loans.set i { e with state := x } := by
  obtain ⟨hi, rfl⟩ := List.getElem?_eq_some_iff.mp he
  rw [markLoan_loans, List.modify_eq_set_get _ hi]; rfl

theorem markLoan_eq {i : Nat} {e : LoanEntry} {s : State} (he : s.loans[i]? = some e) (x : LoanState) :
    markLoan i x s = { s with loans := s.loans.set i { e with state := x } } := by rw [← markLoan_set he]; rfl

/-- The top entry replaced. -/
theorem set_top {l : List LoanEntry} {i : Nat} (h : i + 1 = l.length) (e : LoanEntry) : l.set i e = l.dropLast ++ [e] := by
  rcases List.eq_nil_or_concat l with hl | ⟨m, a, hl⟩
  · rw [hl] at h; cases h
  · rw [List.concat_eq_append] at hl
    subst hl
    have hi : i = m.length := by simpa using h
    rw [hi, List.dropLast_concat, List.set_append_right _ _ le_rfl, Nat.sub_self]; rfl

/-- A top entry that is VOID is popped; where the one below it is OUT, nothing else (R158). -/
theorem unwound_topVoid {b : Bool} {i : Nat} {e : LoanEntry} {s : State} (he : s.loans[i]? = some e)
    (htop : i + 1 = s.loans.length) (hbelow : ∀ y ∈ s.loans.dropLast.getLast?, y.state = .out) :
    unwound b (markLoan i .void s) = urgentIf b { s with loans := s.loans.dropLast } := by
  have hl : (markLoan i .void s).loans = s.loans.dropLast ++ [{ e with state := .void }] := by
    rw [markLoan_set he, set_top htop]
  have hby : settledBy ((markLoan i .void s).claims, b) { e with state := .void } = (s.claims, b) :=
    settledBy_void (fun h => by cases h) _
  rw [unwound_pops hl (fun h => by cases h) hby]
  exact unwound_stops hbelow

/-- A record that has lost its tile: a loan that names it is VOID, and the stack unwinds where it is the top (R157). -/
theorem voidLoanOf_free (r : Nat) (c : ClaimRecord) (s : State) : FreeKept s (voidLoanOf r c s) := by
  unfold voidLoanOf voidLoan; split
  · split
    · split
      · exact unwind_freeKept (markLoan _ .void s)
      · exact .refl s
    · exact .refl s
  · exact .refl s

/-- The release of a run and the freeing of its record, with the urgent build (R75, R77). -/
theorem releaseAndFree_eq {r : Nat} {s : State} (hrun : (s.claim r).run.isSome = true) :
    releaseAndFree r s = voidLoanOf r (s.claim r) (urgentIf true (setClaim r (s.claim r).ended s)) := by
  obtain ⟨x, hx⟩ := Option.isSome_iff_exists.mp hrun
  rw [releaseAndFree, unrun_freed_eq_ended hx, releaseRun, urgentRequest_eq]
  congr 1
  simp [urgentIf, setClaim]

/-! ### The end of a drain -/

/-- What the rest of the step leaves of a state is what it was granted. -/
theorem ReturnsGranted.settled {v t u : State} (h : ReturnsGranted v t) (hf : OnlyPlacement t u) : ReturnsGranted v u := by
  have hclaim : ∀ q, u.claim q = t.claim q := fun q => by rw [State.claim, hf.claims]; rfl
  have hcount : dataCount u = dataCount t := by rw [dataCount, hf.claims]; rfl
  obtain ⟨hunmoved, hwithin, habove⟩ := h
  rw [← hf.claims, ← hf.loans, ← hf.grants, ← hf.chan, ← hf.attn] at hunmoved hwithin
  refine ⟨hunmoved, hwithin, fun hm hlt law => ?_⟩
  have ha := habove hm hlt law
  simp only [← hf.claims, ← hf.loans, ← hf.grants, ← hf.chan, ← hf.attn, ← hclaim, ← hcount] at ha
  exact ha

theorem exec_drainEnd {r : Nat} {s : State} (hr : s.loader.inReset = false) (hp : (s.claim r).phase = .draining)
    (hrun : (s.claim r).run.isSome = true) (hd : 2 ≤ (s.claim r).drainCount) : exec (.drainEnd r) s =
      .next (settleFrom s.engine (voidLoanOf r (s.claim r) (urgentIf true (setClaim r (s.claim r).ended s)))) := by
  simp only [exec, execDrainEnd, outOfReset_released hr]
  have hdrain : endDrain r s = releaseAndFree r s := if_pos ⟨hp, hd⟩
  rw [hdrain, releaseAndFree_eq hrun]

/-- Settles O25: the record's loan decides what follows its release. -/
theorem drainEndFreesTheRecord : Obligations.DrainEndFreesTheRecord := by
  intro r s hr hrl hp hrun hd c
  rw [exec_drainEnd hr hp hrun hd]
  set u := setClaim r (s.claim r).ended s with hu
  have hur : u.claim r = (s.claim r).ended := claim_setClaim_same _ hrl
  have hset := settleFrom_frame s.engine (voidLoanOf r (s.claim r) (urgentIf true u))
  have hframe : OnlyClaims s (settleFrom s.engine (voidLoanOf r (s.claim r) (urgentIf true u))) := by
    refine OnlyClaims.trans ?_ hset.claimsFrame
    have := releaseAndFree_frame r s
    rwa [releaseAndFree_eq hrun] at this
  have hclaim : (settleFrom s.engine (voidLoanOf r (s.claim r) (urgentIf true u))).claim r = (s.claim r).ended := by
    have hfree := voidLoanOf_free r (s.claim r) (urgentIf true u) r (by rw [show (urgentIf true u).claim r = _ from hur]; rfl)
    rw [State.claim, hset.claims]
    exact hfree.trans hur
  have hurgent : urgentIf true u = { s with
      claims := s.claims.set r (s.claim r).ended
      chan := if s.loader.part = .active then c else s.chan } := by simp [urgentIf, hu, setClaim]; rfl
  have hvoided : ∀ i e, (s.claim r).onLoan = some i → s.loans[i]? = some e → e.borrower = r →
      e.borrowerGeneration = (s.claim r).generation → e.state ≠ .void → voidLoanOf r (s.claim r) (urgentIf true u) =
        if i + 1 = s.loans.length then unwind (urgentIf true (markLoan i .void u)) else markLoan i .void (urgentIf true u) := by
    intro i e hon he hb hg hv
    have hnames := voidLoan_names (s := urgentIf true u) he hb hg hv
    rw [voidLoanOf, hon]
    exact hnames
  refine ⟨_, rfl, hframe, hclaim, fun hnone => ?_, fun i e hon he hb hg hv hlt => ?_, fun i e hon he hb hg hv htop => ?_⟩
  · rw [voidLoanOf, hnone]
    exact (settleFrom_unchanged rfl).trans hurgent
  · rw [hvoided i e hon he hb hg hv, if_neg (by omega)]
    refine (settleFrom_unchanged rfl).trans ?_
    rw [markLoan_eq (s := urgentIf true u) he, hurgent]
  · rw [hvoided i e hon he hb hg hv, if_pos htop, unwind_urgentIf] at hset ⊢
    refine ⟨?_, fun hbelow hgrants => ?_⟩
    · have hbase : unwound true (markLoan i .void u) = { s with
          claims := ((poppedEntries (s.loans.set i { e with state := .void })).foldl settledBy
            (s.claims.set r (s.claim r).ended, true)).1
          chan := if s.loader.part = .active then c else s.chan
          loans := remainingEntries (s.loans.set i { e with state := .void }) } := by
        have hl : (markLoan i .void u).loans = s.loans.set i { e with state := .void } := markLoan_set (s := u) he .void
        have hclaims : (markLoan i .void u).claims = s.claims.set r (s.claim r).ended := rfl
        simp only [unwound, hl, hclaims, urgentIf, settledBy_urgent, true_and]; rfl
      have := grantReturns_returnsGranted (unwound true (markLoan i .void u))
      rw [hbase] at this hset ⊢
      exact this.settled hset
    · rw [unwound_topVoid (s := u) he htop hbelow, grantReturns_unmoved hgrants.symm]
      refine (settleFrom_unchanged rfl).trans ?_
      simp only [urgentIf, true_and]; rfl

end Sys2Proof.Machine

/-! Loss notices (R87 to R90, R129, R131, R132; O37): what each does to its record, by phase and class. -/

namespace Sys2Proof.Machine

/-! ### What the grant records see -/

/-- What a record shows to the grant record of service `k` (R95). -/
def ClaimRecord.shown (k : ServiceClass) (c : ClaimRecord) : Option (Nat × Option Run) :=
  if c.cls = k ∧ c.phase.granted = true then some (c.slot, c.run) else none

theorem grantEntry_eq (claims : List ClaimRecord) (k : ServiceClass) (slot : Nat) : grantEntry claims k slot =
    ((claims.map (·.shown k)).find? (·.any (·.1 == slot))).elim none (·.elim none (·.2)) := by
  unfold grantEntry
  induction claims with
  | nil => rfl
  | cons c cs ih =>
    rw [List.map_cons, List.find?_cons, List.find?_cons]
    by_cases h : c.cls = k ∧ c.slot = slot ∧ c.phase.granted = true
    · obtain ⟨hk, hs, hp⟩ := h
      simp [ClaimRecord.shown, hk, hs, hp]
    · have hf : (c.cls == k && c.slot == slot && c.phase.granted) = false := by
        rw [← Bool.not_eq_true]; simpa [and_assoc] using h
      have hs : (c.shown k).any (·.1 == slot) = false := by
        unfold ClaimRecord.shown; split
        · rename_i hk; simpa using fun k' => h ⟨hk.1, k', hk.2⟩
        · rfl
      rw [hf, hs]
      exact ih

/-- The entries of a service depend on what the records show to it. -/
theorem grantEntries_congr {l m : List ClaimRecord} {k : ServiceClass} (h : l.map (·.shown k) = m.map (·.shown k)) :
    grantEntries l k = grantEntries m k := by
  simp only [grantEntries, funext (grantEntry_eq l k), funext (grantEntry_eq m k), h]

theorem grantEntries_setClaim {k : ServiceClass} {r : Nat} {c : ClaimRecord} {s : State}
    (h : c.shown k = (s.claim r).shown k) : grantEntries (setClaim r c s).claims k = grantEntries s.claims k :=
  grantEntries_congr (setClaim_map h)

theorem shown_of_cls {c : ClaimRecord} {k : ServiceClass} (h : c.cls ≠ k) : c.shown k = none := if_neg fun k' => h k'.1

theorem shown_of_phase {c : ClaimRecord} {k : ServiceClass} (h : c.phase.granted = false) : c.shown k = none :=
  if_neg fun k' => by rw [h] at k'; cases k'.2

/-! ### The loan of a lost record -/

/-- A record that has lost its tile: its loan entry is VOID, or popped, with nothing below it to pop (R157, R158). -/
theorem voidLoanOf_calm {r : Nat} {c : ClaimRecord} {v : State} (h : ∀ i ∈ c.onLoan, i + 1 = v.loans.length →
    (∀ e ∈ v.loans.dropLast.getLast?, e.state = .out) ∧ v.grants.data.entries = grantEntries v.claims .data) :
    voidLoanOf r c v = { v with loans := voided r c v.loans } := by
  unfold voidLoanOf voided
  cases hon : c.onLoan with
  | none => rfl
  | some i =>
    dsimp only
    cases he : v.loans[i]? with
    | none => rw [voidLoan, if_neg (by simp [loanNames, he])]
    | some e =>
      dsimp only
      by_cases hn : e.borrower = r ∧ e.borrowerGeneration = c.generation ∧ e.state ≠ .void
      · rw [voidLoan_names he hn.1 hn.2.1 hn.2.2, if_pos hn]
        by_cases htop : i + 1 = v.loans.length
        · obtain ⟨hbelow, hgrants⟩ := h i hon htop
          have hu : unwind (markLoan i .void v) = grantReturns (unwound false (markLoan i .void v)) := by
            rw [← unwind_urgentIf, urgentIf_false]
          rw [if_pos htop, if_pos htop, hu, unwound_topVoid he htop hbelow, urgentIf_false]
          exact grantReturns_unmoved hgrants.symm
        · rw [if_neg htop, if_neg htop, markLoan_eq he]
      · rw [if_neg hn, voidLoan, if_neg]
        rintro ⟨hnames, hnot⟩
        exact hn (by simpa [loanNames, loanIs, he, and_assoc] using And.intro hnames hnot)

/-! ### Placement requests without the engine's law -/

/-- The engine holds a request or placement for record `r`, a suspended one under generation `g`, or its outcome is sent. -/
def Wanted (r : Nat) (g : BitVec 4) (e : Engine) (out : List Instr) : Prop :=
  (∃ k ∈ e.queue, k.record = r) ∨ (∃ p ∈ e.active, p.request.record = r) ∨
    (∃ u ∈ e.suspended, u.request.record = r ∧ u.request.generation = g) ∨ ∃ o, .placementOutcome r g o ∈ out

section
variable {r : Nat} {g : BitVec 4} {e : Engine} {out : List Instr}

theorem Wanted.held (h : Wanted r g e out) : r ∈ e.records ∨ ∃ o, .placementOutcome r g o ∈ out := by
  rcases h with hq | hp | ⟨u, hu, hr, -⟩ | ho
  · exact .inl (mem_records.mpr (.inl hq))
  · exact .inl (mem_records.mpr (.inr (.inl hp)))
  · exact .inl (mem_records.mpr (.inr (.inr ⟨u, hu, hr⟩)))
  · exact .inr ho

theorem takeHead_wanted (ha : e.active = none) (h : Wanted r g e out) : Wanted r g e.takeHead out := by
  unfold Engine.takeHead; split
  · rename_i q rest hq
    rcases h with ⟨k, hk, hkr⟩ | ⟨p, hp, -⟩ | hu | ho
    · rcases List.mem_cons.mp (hq ▸ hk) with rfl | hk
      · exact .inr (.inl ⟨_, rfl, hkr⟩)
      · exact .inl ⟨k, hk, hkr⟩
    · rw [ha] at hp; cases hp
    · exact .inr (.inr (.inl hu))
    · exact .inr (.inr (.inr ho))
  · exact h

theorem next_wanted (h : Wanted r g e out) : Wanted r g e.next.1 (out ++ e.next.2) := by
  unfold Engine.next; split
  · rw [List.append_nil]; exact h
  · rename_i ha
    have ha : e.active = none := by simpa using ha
    split
    · rename_i u hu
      split
      · rw [List.append_nil]; exact takeHead_wanted ha h
      · unfold Engine.resume; split
        · rw [List.append_nil]
          rcases h with hq | ⟨p, hp, -⟩ | ⟨v, hv, hr, -⟩ | ho
          · exact .inl hq
          · rw [ha] at hp; cases hp
          · exact .inr (.inl ⟨_, rfl, by rw [hu] at hv; cases hv; exact hr⟩)
          · exact .inr (.inr (.inr ho))
        · refine takeHead_wanted ha ?_
          rcases h with hq | ⟨p, hp, -⟩ | ⟨v, hv, hr, hg⟩ | ⟨o, ho⟩
          · exact .inl hq
          · rw [ha] at hp; cases hp
          · rw [hu] at hv; cases hv
            exact .inr (.inr (.inr ⟨.noRoom, List.mem_append.mpr (.inr (by simp [hr, hg]))⟩))
          · exact .inr (.inr (.inr ⟨o, List.mem_append.mpr (.inl ho)⟩))
    · rw [List.append_nil]; exact takeHead_wanted ha h

theorem takeUpIf_wanted {b : Bool} {s : State} (h : Wanted r g s.engine s.outbox) :
    Wanted r g (takeUpIf b s).engine (takeUpIf b s).outbox := by
  unfold takeUpIf; dsimp only; split
  · exact next_wanted h
  · rw [List.append_nil]; exact h

theorem suspendFor_wanted (q : Request) (sc : Scanner) (h : ∃ k ∈ e.queue, k.record = r) :
    Wanted r g (suspendFor q e sc).1 out := by
  unfold suspendFor; split
  · split <;> exact .inl h
  · exact .inl h

theorem wanted_of_placementGeneration (h : placementGeneration r e = some g) : Wanted r g e out := by
  unfold placementGeneration at h
  have hactive : ∀ p, e.active = some p → p.request.record = r → Wanted r g e out := fun p hp hr => .inr (.inl ⟨p, hp, hr⟩)
  have hsuspended : ∀ u, e.suspended = some u → u.request.record = r → some u.request.generation = some g →
      Wanted r g e out := fun u hu hr hg => .inr (.inr (.inl ⟨u, hu, hr, Option.some.inj hg⟩))
  split at h
  · rename_i p u hp hu
    split at h
    · exact hactive p hp ‹_›
    · split at h
      · exact hsuspended u hu ‹_› h
      · cases h
  · rename_i p hp _
    split at h
    · exact hactive p hp ‹_›
    · cases h
  · rename_i u _ hu
    split at h
    · exact hsuspended u hu ‹_› h
    · cases h
  · cases h

theorem requestIn_wanted (q : Request) (e : Engine) (sc : Scanner) (out : List Instr) :
    Wanted q.record q.generation (requestIn q e sc).1 out := by
  unfold requestIn; split
  · rename_i hany
    obtain ⟨k, hk, hkr⟩ := List.any_eq_true.mp hany
    exact suspendFor_wanted q sc ⟨q, List.mem_map.mpr ⟨k, hk, if_pos (by simpa using hkr)⟩, rfl⟩
  · split
    · exact suspendFor_wanted q sc ⟨q, mem_joinQueue_self _ _, rfl⟩
    · rename_i g hg
      split
      · rename_i hgq
        exact wanted_of_placementGeneration (hgq ▸ hg)
      · exact suspendFor_wanted q _ ⟨q, mem_joinQueue_self _ _, rfl⟩

end

theorem requestPlacement_wanted (r : Nat) {s : State} (ha : s.loader.part = .active) :
    Wanted r (s.claim r).generation (requestPlacement r s).engine (requestPlacement r s).outbox := by
  have hactive : isActive s = true := by simp [isActive, ha]
  refine takeUpIf_wanted ?_
  have hq : (queuePlacement r s).engine = (requestIn (requestOf s r) s.engine s.scan).1 := by
    simp [queuePlacement, hactive]
  rw [hq]
  exact requestIn_wanted (requestOf s r) s.engine s.scan _

/-- A cancellation for another record leaves what is wanted (R104). -/
theorem cancel_wanted {r q : Nat} {g : BitVec 4} {s : State} (hne : r ≠ q) (h : Wanted r g s.engine s.outbox) :
    Wanted r g (cancel q s).engine (cancel q s).outbox := by
  refine takeUpIf_wanted ?_
  rw [show (discardPlacement q s).engine = _ from cancelIn_engine q s.engine s.scan]
  rcases h with ⟨k, hk, hr⟩ | ⟨p, hp, hr⟩ | ⟨u, hu, hr, hg⟩ | ho
  · exact .inl ⟨k, List.mem_filter.mpr ⟨hk, by simp [hr, hne]⟩, hr⟩
  · exact .inr (.inl ⟨p, Option.filter_eq_some_iff.mpr ⟨hp, by simp [hr, hne]⟩, hr⟩)
  · exact .inr (.inr (.inl ⟨u, Option.filter_eq_some_iff.mpr ⟨hu, by simp [hr, hne]⟩, hr, hg⟩))
  · exact .inr (.inr (.inr ho))

/-! ### The notice, by phase and class -/

section
variable {r n w : Nat} {x : Run} {s : State} (hx : (s.claim r).run = some x) (hn : runHas x n = true)
include hx hn

/-- A notice that names the record's generation and a tile of its run applies (R87). -/
theorem noticeApplies_of_run (hp : (s.claim r).phase.holds = true) : noticeApplies r (s.claim r).generation n s = true :=
  noticeApplies_iff.mpr ⟨ownsTile_eq_true.mpr ⟨hp, x, hx, hn⟩, rfl⟩

theorem applyLoss_held_other (hp : (s.claim r).phase = .held) (hk : (s.claim r).cls ≠ .data) :
    applyLoss r (s.claim r).generation n w s = heldLoss r w s := by
  rw [applyLoss, if_pos (noticeApplies_of_run hx hn (by rw [hp]; rfl)), hp]
  exact if_neg hk

theorem applyLoss_held_data (hp : (s.claim r).phase = .held) (hk : (s.claim r).cls = .data) :
    applyLoss r (s.claim r).generation n w s = dataLoss r n w s := by
  rw [applyLoss, if_pos (noticeApplies_of_run hx hn (by rw [hp]; rfl)), hp]
  exact if_pos hk

theorem applyLoss_moving (hp : (s.claim r).phase = .moving) :
    applyLoss r (s.claim r).generation n w s = movingLoss r w s := by
  rw [applyLoss, if_pos (noticeApplies_of_run hx hn (by rw [hp]; rfl)), hp]

theorem applyLoss_ending (hp : (s.claim r).phase = .draining ∨ (s.claim r).phase = .parked) :
    applyLoss r (s.claim r).generation n w s = releaseAndFree r s := by
  rcases hp with hp | hp <;> rw [applyLoss, if_pos (noticeApplies_of_run hx hn (by rw [hp]; rfl)), hp]

theorem applyLoss_tentative_primary (hp : (s.claim r).phase = .tentative) (hq : (s.claim r).predecessor = none) :
    applyLoss r (s.claim r).generation n w s = tentativeLoss r s := by
  rw [applyLoss, if_pos (noticeApplies_of_run hx hn (by rw [hp]; rfl)), hp, hq]

theorem applyLoss_tentative_successor {p : Nat} (hp : (s.claim r).phase = .tentative) (hq : (s.claim r).predecessor = some p) :
    applyLoss r (s.claim r).generation n w s = successorLoss r p s := by
  rw [applyLoss, if_pos (noticeApplies_of_run hx hn (by rw [hp]; rfl)), hp, hq]

end

/-- The release of a run and what the record becomes, in one write (R77). -/
theorem setClaim_releaseRun (r : Nat) (c : ClaimRecord) (s : State) :
    setClaim r c (releaseRun r s) = urgentIf true (setClaim r c s) := by
  rw [releaseRun, urgentRequest_eq]
  simp [urgentIf, setClaim]

theorem of_put (g : Grants) (k : ServiceClass) (x : GrantRecord) :
    (g.put k x).of k = x ∧ ∀ j, j ≠ k → (g.put k x).of j = g.of j := by
  refine ⟨by cases k <;> rfl, fun j hj => ?_⟩
  cases k <;> cases j <;> simp_all [Grants.put, Grants.of]

theorem commitGrant_of (k : ServiceClass) (c : GrantCause) (d : Option Nat) (v : State) :
    (commitGrant k c d v).grants.of k = (v.grants.of k).after (grantEntries v.claims k) c v.clock.stamp d ∧
    ∀ j, j ≠ k → (commitGrant k c d v).grants.of j = v.grants.of j := by
  rw [commitGrant_grants]; exact of_put _ _ _

/-- A cause latched before a grant change is latched after it. -/
theorem commitGrant_attn_and {k : ServiceClass} {c : GrantCause} {d : Option Nat} {v : State} {a : Attention} {b : Byte}
    (h : v.attn = { a with latched := a.latched ||| b }) : (commitGrant k c d v).attn.latched &&& b = b := by
  unfold commitGrant; dsimp only; split
  · simp only [latch, h]; exact latched_or_and _ _ _
  · rw [h]; simpa using latched_or_and a.latched b 0

/-! ### A HELD video or voice record relocates -/

/-- The record as it relocates (R87). -/
def ClaimRecord.relocating (c : ClaimRecord) : ClaimRecord :=
  { c with
    generation := c.generation + 1
    phase := .seeking
    run := none
    seekReason := .relocate
    successor := none
    onLoan := none
    retry := none }

/-- The state in which a HELD record of a displaced run relocates, its placement not yet requested (R87). -/
def relocated (r : Nat) (s : State) : State := urgentIf true (setClaim r (s.claim r).relocating (latch .lost s))

theorem heldLoss_eq (r w : Nat) (s : State) : heldLoss r w s = voidLoanOf r (s.claim r) (commitGrant (s.claim r).cls .lost
    (some w) (freeSuccessor (s.claim r) (requestPlacement r (relocated r s)))) := by
  rw [heldLoss, relocated, ← setClaim_releaseRun]; rfl

theorem freeSuccessor_claim (c : ClaimRecord) (s : State) (q : Nat) :
    (freeSuccessor c s).claim q = if c.successor = some q then (s.claim q).freed else s.claim q := by
  unfold freeSuccessor; split
  · rename_i p hp
    have h := claim_setClaim p q (s.claim p).freed s
    rw [State.claim, cancel_claims, show (setClaim p (s.claim p).freed s).claims.getD q ClaimRecord.reset = _ from h, hp]
    by_cases hq : q = p
    · subst hq
      by_cases hl : q < s.claims.length
      · simp [hl]
      · simp [hl, claim_beyond (Nat.le_of_not_lt hl)]; rfl
    · rw [if_neg fun k => hq k.1, if_neg fun k => hq (Option.some.inj k).symm]
  · rename_i hp; rw [hp]; rfl

theorem freeSuccessor_keeps (c : ClaimRecord) (s : State) : (freeSuccessor c s).grants = s.grants ∧
    (freeSuccessor c s).attn = s.attn ∧ (freeSuccessor c s).chan = s.chan ∧ (freeSuccessor c s).loans = s.loans ∧
    (freeSuccessor c s).clock = s.clock := by
  unfold freeSuccessor; split <;> exact ⟨rfl, rfl, rfl, rfl, rfl⟩

theorem freeSuccessor_shown {c : ClaimRecord} {s : State} {k : ServiceClass}
    (h : ∀ q ∈ c.successor, (s.claim q).shown k = none) :
    grantEntries (freeSuccessor c s).claims k = grantEntries s.claims k := by
  unfold freeSuccessor; split
  · rename_i q hq
    rw [cancel_claims]
    exact grantEntries_setClaim ((shown_of_phase rfl).trans (h q hq).symm)
  · rfl

theorem freeSuccessor_wanted {r : Nat} {g : BitVec 4} {c : ClaimRecord} {s : State} (hne : ∀ q ∈ c.successor, q ≠ r)
    (h : Wanted r g s.engine s.outbox) : Wanted r g (freeSuccessor c s).engine (freeSuccessor c s).outbox := by
  unfold freeSuccessor; split
  · rename_i q hq
    exact cancel_wanted (s := setClaim q (s.claim q).freed s) (hne q hq).symm h
  · exact h

/-- Where a loan of record `r` is the top of the stack, the entry below is OUT and the data grant up to date. -/
abbrev LoanCalm (r : Nat) (s : State) : Prop := ∀ i ∈ (s.claim r).onLoan, i + 1 = s.loans.length →
  (∀ e ∈ s.loans.dropLast.getLast?, e.state = .out) ∧ s.grants.data.entries = grantEntries s.claims .data

section
variable {r w : Nat} {s : State}

/-- The state after the loss of a HELD record, its loan entry not yet VOID. -/
def relocatedAndGranted (r w : Nat) (s : State) : State := commitGrant (s.claim r).cls .lost (some w)
  (freeSuccessor (s.claim r) (requestPlacement r (relocated r s)))

theorem relocated_claim (hr : r < s.claims.length) :
    (requestPlacement r (relocated r s)).claim r = (s.claim r).relocating ∧
      ∀ q, q ≠ r → (requestPlacement r (relocated r s)).claim q = s.claim q :=
  ⟨claim_setClaim_same (s := latch .lost s) _ hr, fun _ hq => claim_setClaim_other (s := latch .lost s) _ hq⟩

theorem relocatedAndGranted_keeps (r w : Nat) (s : State) : (relocatedAndGranted r w s).loans = s.loans ∧
    (relocatedAndGranted r w s).chan = (if s.loader.part = .active then s.chan.takeUrgent else s.chan) ∧
    (relocatedAndGranted r w s).attn.latched &&& 0x02 = 0x02 := by
  obtain ⟨-, hattn, hchan, hloans, -⟩ := freeSuccessor_keeps (s.claim r) (requestPlacement r (relocated r s))
  refine ⟨hloans, hchan.trans (by simp [relocated, urgentIf]), commitGrant_attn_and (a := s.attn) (hattn.trans rfl)⟩

theorem relocatedAndGranted_grants (r w : Nat) (s : State) :
    (relocatedAndGranted r w s).grants.of (s.claim r).cls = (s.grants.of (s.claim r).cls).after
      (grantEntries (relocatedAndGranted r w s).claims (s.claim r).cls) .lost s.clock.stamp (some w) ∧
    ∀ k, k ≠ (s.claim r).cls → (relocatedAndGranted r w s).grants.of k = s.grants.of k := by
  obtain ⟨hgrants, -, -, -, hclock⟩ := freeSuccessor_keeps (s.claim r) (requestPlacement r (relocated r s))
  obtain ⟨hself, hother⟩ := commitGrant_of (s.claim r).cls .lost (some w)
    (freeSuccessor (s.claim r) (requestPlacement r (relocated r s)))
  rw [hgrants, hclock] at hself
  simp only [hgrants] at hother
  exact ⟨hself, hother⟩

theorem heldLoss_calm (hr : r < s.claims.length) (hk : (s.claim r).cls ≠ .data)
    (hcalm : LoanCalm r s)
    (hs : ∀ q ∈ (s.claim r).successor, q ≠ r ∧ (s.claim q).run = none ∧ (s.claim q).cls = (s.claim r).cls) :
    heldLoss r w s = { relocatedAndGranted r w s with loans := voided r (s.claim r) s.loans } := by
  obtain ⟨hself, hother⟩ := relocated_claim hr
  have hloans := (relocatedAndGranted_keeps r w s).1
  have hdata : (relocatedAndGranted r w s).grants.data = s.grants.data :=
    (relocatedAndGranted_grants r w s).2 .data (Ne.symm hk)
  have hentries : grantEntries (relocatedAndGranted r w s).claims .data = grantEntries s.claims .data := by
    have hsucc := freeSuccessor_shown (c := s.claim r) (s := requestPlacement r (relocated r s)) (k := .data) fun q hq => by
      obtain ⟨hne, -, hcls⟩ := hs q hq
      rw [hother q hne]; exact shown_of_cls (hcls ▸ hk)
    have hreloc : grantEntries (requestPlacement r (relocated r s)).claims .data = grantEntries s.claims .data :=
      grantEntries_setClaim (s := latch .lost s) ((shown_of_phase rfl).trans (shown_of_cls hk).symm)
    exact hsucc.trans hreloc
  rw [heldLoss_eq, ← hloans]
  refine voidLoanOf_calm (v := relocatedAndGranted r w s) fun i hi htop => ?_
  rw [hloans] at htop ⊢
  rw [hdata, hentries]
  exact hcalm i hi htop

end

/-! ### A MOVING record is freed -/

theorem after_entries (g : GrantRecord) (l : List (Option Run)) (c : GrantCause) (stamp : Word16) (d : Option Nat) :
    (g.after l c stamp d).entries = l := by
  unfold GrantRecord.after; split
  · rename_i h; exact h.symm
  · rfl

/-- The record ends, and its successor takes over as a relocating primary (R131). -/
def succeeded (r : Nat) (s : State) : State :=
  match (s.claim r).successor with
  | some q => inheritSuccessor q (urgentIf true (setClaim r (s.claim r).ended (latch .lost s)))
  | none => urgentIf true (setClaim r (s.claim r).ended (latch .lost s))

theorem movingLoss_eq {r w : Nat} {x : Run} {s : State} (hx : (s.claim r).run = some x) : movingLoss r w s =
    voidLoanOf r (s.claim r) (commitGrant (s.claim r).cls .lost (some w) (succeeded r s)) := by
  rw [movingLoss, unrun_freed_eq_ended hx, succeeded, ← setClaim_releaseRun] <;> rfl

theorem succeeded_keeps (r : Nat) (s : State) : (succeeded r s).grants = s.grants ∧ (succeeded r s).loans = s.loans ∧
    (succeeded r s).attn = { s.attn with latched := s.attn.latched ||| 0x02 } ∧ (succeeded r s).clock = s.clock ∧
    (succeeded r s).engine = s.engine ∧ (succeeded r s).scan = s.scan ∧ (succeeded r s).outbox = s.outbox ∧
    (succeeded r s).chan = (if s.loader.part = .active then s.chan.takeUrgent else s.chan) := by
  have hchan : (urgentIf true (setClaim r (s.claim r).ended (latch .lost s))).chan =
      (if s.loader.part = .active then s.chan.takeUrgent else s.chan) := by simp [urgentIf]
  unfold succeeded; split <;> exact ⟨rfl, rfl, rfl, rfl, rfl, rfl, rfl, hchan⟩

theorem succeeded_claim {r : Nat} {s : State} (hr : r < s.claims.length) (hne : ∀ q ∈ (s.claim r).successor, q ≠ r) :
    (succeeded r s).claim r = (s.claim r).ended ∧ ∀ q, q ≠ r → (succeeded r s).claim q =
      if (s.claim r).successor = some q ∧ q < s.claims.length then
        { s.claim q with predecessor := none, seekReason := .relocate }
      else s.claim q := by
  have hself : (urgentIf true (setClaim r (s.claim r).ended (latch .lost s))).claim r = (s.claim r).ended :=
    claim_setClaim_same (s := latch .lost s) _ hr
  have hother : ∀ q, q ≠ r → (urgentIf true (setClaim r (s.claim r).ended (latch .lost s))).claim q = s.claim q :=
    fun q hq => claim_setClaim_other (s := latch .lost s) _ hq
  unfold succeeded; split
  · rename_i p hp
    refine ⟨by rw [inheritSuccessor, claim_setClaim_other _ (hne p hp).symm, hself], fun q hq => ?_⟩
    have hlen : (urgentIf true (setClaim r (s.claim r).ended (latch .lost s))).claims.length = s.claims.length :=
      List.length_set
    rw [inheritSuccessor, claim_setClaim, hlen]
    by_cases hqp : q = p
    · subst hqp; simp only [true_and, hother q hq, hp]
    · rw [if_neg fun k => hqp k.1, if_neg fun k => hqp (Option.some.inj (hp.symm.trans k.1)).symm, hother q hq]
  · rename_i hp
    exact ⟨hself, fun q hq => by rw [hother q hq, if_neg fun k => by rw [hp] at k; cases k.1]⟩

theorem succeeded_entries {r : Nat} {s : State} (hk : (s.claim r).cls ≠ .data) :
    grantEntries (succeeded r s).claims .data = grantEntries s.claims .data := by
  have hended : grantEntries (urgentIf true (setClaim r (s.claim r).ended (latch .lost s))).claims .data =
      grantEntries s.claims .data :=
    grantEntries_setClaim (s := latch .lost s) ((shown_of_phase rfl).trans (shown_of_cls hk).symm)
  unfold succeeded; split
  · rw [inheritSuccessor, ← hended]; exact grantEntries_setClaim rfl
  · exact hended

theorem movingLoss_calm {r w : Nat} {x : Run} {s : State} (hx : (s.claim r).run = some x) (hcalm : LoanCalm r s) :
    movingLoss r w s = { commitGrant (s.claim r).cls .lost (some w) (succeeded r s) with
      loans := voided r (s.claim r) s.loans } := by
  obtain ⟨hgrants, hloans, -⟩ := succeeded_keeps r s
  rw [movingLoss_eq hx, ← hloans]
  refine voidLoanOf_calm (v := commitGrant _ _ _ (succeeded r s)) fun i hi htop => ?_
  rw [commitGrant_loans, hloans] at htop ⊢
  obtain ⟨hbelow, hentries⟩ := hcalm i hi htop
  obtain ⟨hself, hother⟩ := commitGrant_of (s.claim r).cls .lost (some w) (succeeded r s)
  refine ⟨hbelow, ?_⟩
  by_cases hk : (s.claim r).cls = .data
  · rw [hk] at hself ⊢
    exact (congrArg GrantRecord.entries hself).trans (after_entries _ _ _ _ _)
  · have hdata := hother .data (Ne.symm hk)
    rw [hgrants] at hdata
    rw [commitGrant_claims, succeeded_entries hk, ← hentries]
    exact congrArg GrantRecord.entries hdata

/-! ### A DRAINING or PARKED record is freed -/

theorem releaseAndFree_calm {r : Nat} {s : State} (hrun : (s.claim r).run.isSome = true)
    (hp : (s.claim r).phase = .draining ∨ (s.claim r).phase = .parked) (hcalm : LoanCalm r s) : releaseAndFree r s =
      { urgentIf true (setClaim r (s.claim r).ended s) with loans := voided r (s.claim r) s.loans } := by
  rw [releaseAndFree_eq hrun]
  refine voidLoanOf_calm (v := urgentIf true (setClaim r (s.claim r).ended s)) fun i hi htop => ?_
  obtain ⟨hbelow, hentries⟩ := hcalm i hi htop
  have hold : (s.claim r).shown .data = none := shown_of_phase (by rcases hp with hp | hp <;> rw [hp] <;> rfl)
  exact ⟨hbelow, hentries.trans (grantEntries_setClaim ((shown_of_phase rfl).trans hold.symm)).symm⟩

/-! ### A TENTATIVE record loses -/

/-- The record ends and its predecessor is HELD again (R129). -/
def withdrawn (r p : Nat) (s : State) : State :=
  cancel r (setClaim p (s.claim p).unmoved (urgentIf true (setClaim r (s.claim r).ended s)))

theorem successorLoss_eq {r p : Nat} {x : Run} {s : State} (hx : (s.claim r).run = some x) :
    successorLoss r p s = if anyNoisy (withdrawn r p s) p then degrade p (withdrawn r p s) else withdrawn r p s := by
  simp only [successorLoss, unrun_freed_eq_ended hx, setClaim_releaseRun]; rfl

theorem withdrawn_keeps (r p : Nat) (s : State) : (withdrawn r p s).loans = s.loans ∧ (withdrawn r p s).grants = s.grants ∧
    (withdrawn r p s).attn = s.attn ∧ (withdrawn r p s).engine = (cancel r s).engine ∧
    (withdrawn r p s).scan = (cancel r s).scan ∧ (withdrawn r p s).outbox = (cancel r s).outbox ∧
    (withdrawn r p s).chan = (if s.loader.part = .active then s.chan.takeUrgent else s.chan) :=
  ⟨rfl, rfl, rfl, rfl, rfl, rfl, by simp [withdrawn, urgentIf]⟩

theorem withdrawn_claim {r p : Nat} {s : State} (hr : r < s.claims.length) (hne : p ≠ r) :
    (withdrawn r p s).claim r = (s.claim r).ended ∧
    ∀ q, q ≠ r → (withdrawn r p s).claim q = if q = p ∧ p < s.claims.length then (s.claim p).unmoved else s.claim q := by
  have hclaim : ∀ q, (withdrawn r p s).claim q =
      if q = p ∧ p < s.claims.length then (s.claim p).unmoved else (setClaim r (s.claim r).ended s).claim q := fun q =>
    (claim_setClaim p q (s.claim p).unmoved (urgentIf true (setClaim r (s.claim r).ended s))).trans (by
      rw [show (urgentIf true (setClaim r (s.claim r).ended s)).claims.length = s.claims.length from List.length_set]; rfl)
  refine ⟨?_, fun q hq => ?_⟩
  · rw [hclaim, if_neg fun k => hne k.1.symm, claim_setClaim_same _ hr]
  · rw [hclaim, claim_setClaim_other _ hq]

theorem withdrawn_anyNoisy {r p : Nat} {s : State} (hr : r < s.claims.length) (hne : p ≠ r) :
    anyNoisy (withdrawn r p s) p = anyNoisy s p := by
  have hrun : ((withdrawn r p s).claim p).run = (s.claim p).run := by
    rw [(withdrawn_claim hr hne).2 p hne]; split <;> rfl
  have htiles : (withdrawn r p s).scan.tiles = s.scan.tiles :=
    (cancel_frame r (setClaim p (s.claim p).unmoved (urgentIf true (setClaim r (s.claim r).ended s)))).levels
  simp only [anyNoisy, hrun, State.noise, htiles]

/-- What R129 makes of a successor `r` that loses and of its predecessor `p`. -/
theorem successorLoss_spec {r p : Nat} {x : Run} {s : State} (hr : r < s.claims.length) (hx : (s.claim r).run = some x)
    (hne : p ≠ r) : (successorLoss r p s).claim r = (s.claim r).ended ∧
      (∀ q, q ≠ r → (successorLoss r p s).claim q = if q = p ∧ p < s.claims.length then { s.claim p with
        phase := .held
        successor := none
        retry := if anyNoisy s p then some 2000000 else (s.claim p).retry } else s.claim q) ∧
      (successorLoss r p s).attn =
        (if anyNoisy s p then { s.attn with latched := s.attn.latched ||| 0x08 } else s.attn) := by
  obtain ⟨hself, hother⟩ := withdrawn_claim hr hne
  rw [successorLoss_eq hx, withdrawn_anyNoisy hr hne]
  by_cases hn : anyNoisy s p = true
  · simp only [hn, if_true]
    have hd := fun q => claim_setClaim p q { (withdrawn r p s).claim p with retry := some Config.retryTime } (withdrawn r p s)
    have hlen : (withdrawn r p s).claims.length = s.claims.length := by
      rw [withdrawn, cancel_claims, setClaim_claims, List.length_set]; exact List.length_set
    refine ⟨(hd r).trans (by rw [if_neg fun k => hne k.1.symm, hself]), fun q hq => (hd q).trans ?_, rfl⟩
    rw [hlen]
    by_cases hqp : q = p ∧ p < s.claims.length
    · rw [if_pos hqp, if_pos hqp, hother p hne, if_pos ⟨rfl, hqp.2⟩]; rfl
    · rw [if_neg hqp, if_neg hqp, hother q hq, if_neg hqp]
  · simp only [hn]
    exact ⟨hself, hother, rfl⟩

theorem successorLoss_keeps {r p : Nat} {x : Run} {s : State} (hx : (s.claim r).run = some x) :
    (successorLoss r p s).loans = s.loans ∧ (successorLoss r p s).grants = s.grants ∧
    (successorLoss r p s).engine = (cancel r s).engine ∧ (successorLoss r p s).scan = (cancel r s).scan ∧
    (successorLoss r p s).outbox = (cancel r s).outbox ∧
    (successorLoss r p s).chan = (if s.loader.part = .active then s.chan.takeUrgent else s.chan) := by
  obtain ⟨hloans, hgrants, -, hengine, hscan, houtbox, hchan⟩ := withdrawn_keeps r p s
  rw [successorLoss_eq hx]; split <;> exact ⟨hloans, hgrants, hengine, hscan, houtbox, hchan⟩

/-- The record that seeks again after a loss (R88). -/
def ClaimRecord.outbid (c : ClaimRecord) : ClaimRecord :=
  { c with
    generation := c.generation + 1
    phase := .seeking
    run := none
    tentativeLosses := min 4 (c.tentativeLosses + 1)
    retry := if c.tentativeLosses + 1 < 4 then c.retry else some 2000000 }

theorem tentativeLoss_eq (r : Nat) (s : State) : tentativeLoss r s =
    if (s.claim r).tentativeLosses + 1 < 4 then requestPlacement r (urgentIf true (setClaim r (s.claim r).outbid s))
    else latch .unmet (urgentIf true (setClaim r (s.claim r).outbid s)) := by
  unfold tentativeLoss; dsimp only
  rw [setClaim_releaseRun, setClaim_releaseRun]
  by_cases h : (s.claim r).tentativeLosses + 1 < 4
  · have hc : (s.claim r).outbid = { (s.claim r).unrun with
        phase := .seeking, tentativeLosses := (s.claim r).tentativeLosses + 1 } := by
      simp only [ClaimRecord.outbid, if_pos h, Nat.min_eq_right h.le]; rfl
    rw [hc]; exact (if_pos h).trans (if_pos h).symm
  · have hc : (s.claim r).outbid = { (s.claim r).unrun with
        phase := .seeking, tentativeLosses := Config.lossesBeforeWait, retry := some Config.retryTime } := by
      simp only [ClaimRecord.outbid, if_neg h, Nat.min_eq_left (Nat.le_of_not_lt h)]; rfl
    rw [hc]; exact (if_neg h).trans (if_neg h).symm

/-- The placement work of a state: what requests and cancellations change. -/
abbrev SameWork (a b : State) : Prop := a.engine = b.engine ∧ a.scan = b.scan ∧ a.outbox = b.outbox

theorem requestPlacement_work {r : Nat} {a b : State} (h : SameWork a b) (hl : a.loader = b.loader) (hc : a.claims = b.claims) :
    SameWork (requestPlacement r a) (requestPlacement r b) := by
  obtain ⟨he, hs, ho⟩ := h
  have hq : requestOf a r = requestOf b r := by simp only [requestOf, State.claim, hc]
  have hactive : isActive a = isActive b := by rw [isActive, isActive, hl]
  simp only [SameWork, requestPlacement, takeUpIf, queuePlacement, he, hs, ho, hq, hactive, and_self]

theorem cancel_work {q : Nat} {a b : State} (h : SameWork a b) : SameWork (cancel q a) (cancel q b) := by
  obtain ⟨he, hs, ho⟩ := h
  refine ⟨?_, ?_, ?_⟩ <;> simp only [cancel, discardPlacement, takeUpIf, he, hs, ho] <;> rfl

theorem freeSuccessor_work (c : ClaimRecord) {a b : State} (h : SameWork a b) :
    SameWork (freeSuccessor c a) (c.successor.elim b fun q => cancel q b) := by
  unfold freeSuccessor; split
  · rename_i q hq
    rw [hq]; exact cancel_work (a := setClaim q (a.claim q).freed a) h
  · rename_i hq
    rw [hq]; exact h

/-- A HELD DATA record keeps the wider part of its run (R89, R145). -/
theorem dataLoss_spec {r n w : Nat} {x : Run} {s : State} (hr : r < s.claims.length) (hx : (s.claim r).run = some x) :
    (∀ q, q ≠ r → (dataLoss r n w s).claim q = s.claim q) ∧
    (dataLoss r n w s).claim r = ClaimRecord.keeping { s.claim r with generation := (s.claim r).generation + 1 } (trimmedRun x n) ∧
    (dataLoss r n w s).grants = { s.grants with
      data := s.grants.data.after (grantEntries (dataLoss r n w s).claims .data) .lost s.clock.stamp (some w) } := by
  have hclaims : (dataLoss r n w s).claims = _ := trimTile_claims (s := latch .lost s) hx
  refine ⟨fun q hq => claim_of_set_other (s := s) hclaims hq, claim_of_set_same (s := s) hclaims hr, ?_⟩
  have hclock : (trimTile r n (latch .lost s)).clock = s.clock := (trimTile_frame _ _ _).clock
  have hgrants : (trimTile r n (latch .lost s)).grants = s.grants := trimTile_grants r n (latch .lost s)
  show (commitGrant .data .lost (some w) (trimTile r n (latch .lost s))).grants = _
  rw [commitGrant_data_grants, hgrants, hclock]; rfl

theorem dataLoss_keeps {r n w : Nat} {x : Run} {s : State} (hx : (s.claim r).run = some x) :
    (dataLoss r n w s).chan = (if s.loader.part = .active then s.chan.takeUrgent else s.chan) ∧
    (dataLoss r n w s).loans = orphanLoans r (s.claim r).generation s.loans ∧
    SameWork (dataLoss r n w s) s ∧ (dataLoss r n w s).attn.latched &&& 0x02 = 0x02 := by
  have htrim := trimTile_eq (r := r) (t := n) (s := latch .lost s) hx
  have hattn : (trimTile r n (latch .lost s)).attn = { s.attn with latched := s.attn.latched ||| 0x02 } := by rw [htrim]; rfl
  refine ⟨?_, ?_, ⟨?_, ?_, ?_⟩, commitGrant_attn_and hattn⟩
  · rw [dataLoss, commitGrant_chan, htrim]; simp [cutRecord, isActive]
  all_goals rw [dataLoss]; simp only [htrim]; rfl

/-- A grant record that changes takes a new generation. -/
theorem after_eq_self {g : GrantRecord} {l : List (Option Run)} {c : GrantCause} {stamp : Word16} {d : Option Nat}
    (h : g.after l c stamp d = g) : l = g.entries := by
  by_contra hne
  have hg := congrArg GrantRecord.generation h
  rw [GrantRecord.after, if_neg hne] at hg
  exact absurd hg (by dsimp only; bv_omega)

theorem commitGrant_unchanged {k : ServiceClass} {c : GrantCause} {d : Option Nat} {v : State}
    (h : (commitGrant k c d v).grants = v.grants) : (commitGrant k c d v).attn = v.attn := by
  have hself := (commitGrant_of k c d v).1
  rw [h] at hself
  have hm : grantMoved v k = false := decide_eq_false (not_not.mpr (after_eq_self hself.symm))
  unfold commitGrant; simp only [hm]; rfl

/-- Settles O37: the notice by the phase and class of its record. -/
theorem lossNoticeByPhaseAndClass : Obligations.LossNoticeByPhaseAndClass := by
  intro r n w x s hr hx hn c t lost unmet calm urgent asks
  have hframe : OnlyClaims s t := applyLoss_frame _ _ _ _ _
  have hrun : (s.claim r).run.isSome = true := by rw [hx]; rfl
  refine ⟨?held, fun hp hcalm hne => ?moving, fun hp hcalm => ?ending,
    fun p hp hq hne => ?successor, ?primary, fun hp hk => ?data⟩
  case held =>
    intro hp hk hcalm hs next asked left
    obtain ⟨hself, hother⟩ := relocated_claim (s := s) hr
    obtain ⟨-, hchan, hattn⟩ := relocatedAndGranted_keeps r w s
    obtain ⟨hgrant, hgrants⟩ := relocatedAndGranted_grants r w s
    have ht : t = { relocatedAndGranted r w s with loans := voided r (s.claim r) s.loans } :=
      (applyLoss_held_other hx hn hp hk).trans (heldLoss_calm hr hk hcalm hs)
    have hclaim : ∀ q, t.claim q = (freeSuccessor c (requestPlacement r (relocated r s))).claim q := fun q => by rw [ht]; rfl
    have hwork : SameWork t (c.successor.elim asked fun q => cancel q asked) := by
      have := freeSuccessor_work c (a := requestPlacement r (relocated r s)) (b := asked)
        (requestPlacement_work ⟨rfl, rfl, rfl⟩ rfl rfl)
      rw [ht]; exact this
    have hleft : left = c.successor.elim asked fun q => cancel q asked := by
      show (match c.successor with | some q => cancel q asked | none => asked) = _
      cases c.successor <;> rfl
    have hgen : ((relocated r s).claim r).generation = c.generation + 1 := congrArg ClaimRecord.generation hself
    have hasks : asks := fun ha => by
      have hw := freeSuccessor_wanted (fun q hq => (hs q hq).1) (requestPlacement_wanted r (s := relocated r s) ha)
      rw [hgen] at hw
      rw [ht]; exact hw.held
    refine ⟨?_, by rw [ht]; exact hchan, hasks, hleft ▸ hwork.1, hleft ▸ hwork.2.1, hleft ▸ hwork.2.2, fun q hq => ?_,
      hframe, by rw [ht], by rw [ht]; exact hattn, by rw [ht]; exact hgrant, by rw [ht]; exact hgrants⟩
    · rw [hclaim, freeSuccessor_claim, if_neg fun k : c.successor = some r => (hs r k).1 rfl, hself]; rfl
    · rw [hclaim, freeSuccessor_claim, hother q hq]
      by_cases hq : c.successor = some q
      · rw [if_pos hq, if_pos hq, freed_eq_ended (hs q hq).2.1]
      · rw [if_neg hq, if_neg hq]
  case moving =>
    have ht : t = _ := (applyLoss_moving hx hn hp).trans (movingLoss_calm hx hcalm)
    obtain ⟨hgrants, -, hattn, hclock, hengine, hscan, houtbox, hchan⟩ := succeeded_keeps r s
    obtain ⟨hself, hother⟩ := succeeded_claim hr hne
    obtain ⟨hgrant, hothers⟩ := commitGrant_of (s.claim r).cls .lost (some w) (succeeded r s)
    rw [hgrants, hclock] at hgrant
    rw [hgrants] at hothers
    have hlatched := commitGrant_attn_and (k := (s.claim r).cls) (c := .lost) (d := some w) hattn
    have hclaim : ∀ q, t.claim q = (succeeded r s).claim q := fun q => by rw [ht]; rfl
    refine ⟨(hclaim r).trans hself, fun q hq => (hclaim q).trans (hother q hq), hframe, by rw [ht]; exact hchan,
      by rw [ht]; exact hengine, by rw [ht]; exact hscan, by rw [ht]; exact houtbox, congrArg State.loans ht,
      by rw [ht]; exact hlatched, by rw [ht]; exact hgrant, by rw [ht]; exact hothers⟩
  case ending =>
    rw [show t = _ from (applyLoss_ending hx hn hp).trans (releaseAndFree_calm hrun hp hcalm)]
    simp only [urgentIf, true_and]; rfl
  case successor =>
    have ht : t = successorLoss r p s := applyLoss_tentative_successor hx hn hp hq
    obtain ⟨hself, hother, hattn⟩ := successorLoss_spec hr hx hne
    obtain ⟨hloans, hgrants, hengine, hscan, houtbox, hchan⟩ := successorLoss_keeps (p := p) hx
    rw [ht] at hframe ⊢
    exact ⟨hself, hother, hframe, hchan, hengine, hscan, houtbox, hloans, hgrants, hattn⟩
  case primary =>
    intro hp hq next sought
    have hsought : urgentIf true (setClaim r (s.claim r).outbid s) = sought := by simp only [urgentIf, true_and]; rfl
    have ht : t = if c.tentativeLosses + 1 < 4 then requestPlacement r sought else latch .unmet sought := by
      rw [← hsought]; exact (applyLoss_tentative_primary hx hn hp hq).trans (tentativeLoss_eq r s)
    have hnext : sought.claim r = next := claim_setClaim_same (s := s) _ hr
    have hother : ∀ q, q ≠ r → sought.claim q = s.claim q := fun q hq => claim_setClaim_other (s := s) _ hq
    have hclaims : t.claims = sought.claims := by rw [ht]; split <;> rfl
    have hclaim : ∀ q, t.claim q = sought.claim q := fun q => by rw [State.claim, hclaims]; rfl
    refine ⟨ht, fun hlt ha => ?_, (hclaim r).trans hnext, fun q hq => (hclaim q).trans (hother q hq), hframe,
      by rw [ht]; split <;> rfl, by rw [ht]; split <;> rfl, by rw [ht]; split <;> rfl⟩
    have hw := requestPlacement_wanted r (s := sought) ha
    rw [hnext] at hw
    rw [ht, if_pos hlt]; exact hw.held
  case data =>
    have ht : t = dataLoss r n w s := applyLoss_held_data hx hn hp hk
    obtain ⟨hother, hself, hgrants⟩ := dataLoss_spec (n := n) (w := w) hr hx
    obtain ⟨hchan, hloans, ⟨hengine, hscan, houtbox⟩, hattn⟩ := dataLoss_keeps (n := n) (w := w) hx
    obtain ⟨h1, h2⟩ := runHas_iff.mp hn
    rw [ht] at hframe ⊢
    refine ⟨hother, hframe, hchan, hengine, hscan, houtbox, fun hg => ?_, hattn, by rw [hself, keeping_generation], hgrants,
      fun hw => ?_, fun hw hle => ?_, fun hw hlt => ?_, hloans⟩
    · have htrim : (trimTile r n (latch .lost s)).grants = s.grants := trimTile_grants r n (latch .lost s)
      have hattn : (trimTile r n (latch .lost s)).attn = lost := by rw [trimTile_eq (s := latch .lost s) hx]; rfl
      exact (commitGrant_unchanged (v := trimTile r n (latch .lost s)) (by rw [htrim]; exact hg)).trans hattn
    · have hnone : trimmedRun x n = none := if_pos (by simp only [runLast]; omega)
      rw [hself, hnone, show (s.claim r).ended = _ from (unrun_freed_eq_ended hx).symm]; rfl
    · have hsome : trimmedRun x n = some ⟨x.first, n - x.first⟩ := by
        rw [trimmedRun, if_neg (by simp only [runLast]; omega)]; exact if_pos hle
      rw [hself, hsome]; rfl
    · have hsome : trimmedRun x n = some ⟨n + 1, x.first + x.width - 1 - n⟩ := by
        rw [trimmedRun, if_neg (by simp only [runLast]; omega)]; exact if_neg (by simp only [runLast]; omega)
      rw [hself, hsome]; rfl

end Sys2Proof.Machine

/-! The commit (R80; O32): its conditions, and the notices that meet the record as it is committed (R17, R31, R120). -/

namespace Sys2Proof.Machine

/-! ### The engine's work sends, and takes back nothing -/

section
variable {m : Instr} {s : State}

theorem takeUpIf_sent {b : Bool} (h : m ∈ s.outbox) : m ∈ (takeUpIf b s).outbox := List.mem_append.mpr (.inl h)

theorem chooseNow_sent (h : m ∈ s.outbox) : m ∈ (chooseNow s).outbox := by
  rcases chooseNow_cases s with ⟨k, -⟩ | ⟨p, -, -, k⟩
  · rw [k]; exact h
  · rcases k.engine with ⟨o, -, hout⟩ | ⟨p', l, -, -, -, hout⟩ | ⟨-, -, u, -, -, hout⟩ <;> rw [hout]
    · exact List.mem_append.mpr (.inl h)
    · exact List.mem_append.mpr (.inl h)
    · exact h

theorem runEngine_sent (n : Nat) (h : m ∈ s.outbox) : m ∈ (runEngine n s).outbox := by
  induction n generalizing s with
  | zero => exact h
  | succ n ih =>
    unfold runEngine; split
    · exact ih (takeUpIf_sent (chooseNow_sent h))
    · exact h

theorem settle_sent (h : m ∈ s.outbox) : m ∈ (settle s).outbox := runEngine_sent _ (takeUpIf_sent h)

theorem settleFrom_sent (e : Engine) (h : m ∈ s.outbox) : m ∈ (settleFrom e s).outbox := by
  unfold settleFrom; split
  · exact h
  · exact settle_sent h

end

theorem settleFrom_records {e : Engine} {s : State} {r : Nat} (h : r ∈ (settleFrom e s).engine.records) :
    r ∈ s.engine.records := by
  unfold settleFrom at h; split at h
  · exact h
  · exact settle_records h

/-- Where the engine of the step's start obeys its law, its work is done whether it has changed or not. -/
theorem settleFrom_of_law {s t : State} (h : EngineLaw s) : settleFrom s.engine t = settle t := by
  unfold settleFrom; split
  · rename_i he; exact (settle_of_engine_eq h he).symm
  · rfl

theorem claims_ext {s t : State} (hl : t.claims.length = s.claims.length) (h : ∀ q, t.claim q = s.claim q) :
    t.claims = s.claims := by
  refine List.ext_getElem hl fun q hq hq' => ?_
  have := h q
  rwa [State.claim, State.claim, List.getD_eq_getElem _ _ hq, List.getD_eq_getElem _ _ hq'] at this

/-! ### The conditions -/

section
variable {r : Nat} {g : BitVec 4} {x : Run} {s : State}

theorem meetsOwn_eq_false_iff : meetsOwn x s = false ↔ ∀ n ∈ runTiles x, isOwn s n = false := by
  simp [meetsOwn]

theorem predecessorHeld_iff : predecessorHeld r s = true ↔
    ∀ p, (s.claim r).predecessor = some p → (s.claim p).phase = .held := by
  unfold predecessorHeld
  cases (s.claim r).predecessor with
  | none => simp
  | some p => simp

/-- The answer to a commit in ACTIVE, condition by condition (R80). -/
theorem judgeCommit_active (ha : s.loader.part = .active) : judgeCommit r g x s =
    if ¬((s.claim r).phase = .seeking ∧ (s.claim r).generation = g) then .record
    else if ¬(∀ n ∈ runTiles x, isOwn s n = false) then .overlap
    else if ¬((s.claim r).predecessor = none → heldTotal s + x.width ≤ holdLimit s) then .limit
    else if ¬(∀ p, (s.claim r).predecessor = some p → (s.claim p).phase = .held) then .predecessor
    else .taken := by
  have hactive : isActive s = true := by simp [isActive, ha]
  have h1 : (¬isActive s = true ∨ (s.claim r).phase ≠ .seeking ∨ (s.claim r).generation ≠ g) ↔
      ¬((s.claim r).phase = .seeking ∧ (s.claim r).generation = g) := by simp [hactive, imp_iff_not_or]
  have h2 : meetsOwn x s = true ↔ ¬(∀ n ∈ runTiles x, isOwn s n = false) := by
    rw [← meetsOwn_eq_false_iff, Bool.not_eq_false]
  have h3 : ((s.claim r).predecessor = none ∧ holdLimit s < heldTotal s + x.width) ↔
      ¬((s.claim r).predecessor = none → heldTotal s + x.width ≤ holdLimit s) := by simp
  have h4 : (!predecessorHeld r s) = true ↔ ¬(∀ p, (s.claim r).predecessor = some p → (s.claim p).phase = .held) := by
    rw [← predecessorHeld_iff]; simp
  simp only [judgeCommit, h1, h2, h3, h4]

theorem judgeCommit_inactive (ha : s.loader.part ≠ .active) : judgeCommit r g x s = .record :=
  if_pos (.inl (by simpa [isActive] using ha))

theorem commit_refused (hr : s.loader.inReset = false) {y : CommitAnswer} (hj : judgeCommit r g x s = y) (hy : y ≠ .taken) :
    exec (.commit r g x) s = .next (send (.commitAnswer r g y) (arrive (.commit r g x) s)) := by
  have hj' : judgeCommit r g x (arrive (.commit r g x) s) = y := hj
  simp only [exec, execCommit, outOfReset_released hr, hj']
  exact congrArg _ (if_neg hy)

/-- The state in which a commit has been taken and answered, the notices its run met on the way not yet applied. -/
def committed (r : Nat) (g : BitVec 4) (x : Run) (s : State) : State :=
  send (.commitAnswer r g .taken) (takeCommit r x (arrive (.commit r g x) s))

theorem commit_taken (hr : s.loader.inReset = false) (hj : judgeCommit r g x s = .taken) : exec (.commit r g x) s =
    .next (settleFrom s.engine (commitNoise r x (commitContention r x (committed r g x s)))) := by
  have hj' : judgeCommit r g x (arrive (.commit r g x) s) = .taken := hj
  simp only [exec, execCommit, outOfReset_released hr, hj']
  exact congrArg _ (if_pos trivial)

/-! ### The committed record -/

theorem committed_eq (ha : s.loader.part = .active) : committed r g x s = { s with
    claims := match (s.claim r).predecessor with
      | some p => (s.claims.set r ((s.claim r).committed x)).set p { s.claim p with phase := .moving }
      | none => s.claims.set r ((s.claim r).committed x)
    chan := s.chan.takeUrgent
    outbox := (s.outbox.erase (.commit r g x)) ++ [.commitAnswer r g .taken] } := by
  have hurgent : ∀ w, w.loader = s.loader → urgentRequest w = { w with chan := w.chan.takeUrgent } := fun w hw => by
    simp [urgentRequest, isActive, hw, ha]
  unfold committed takeCommit
  have hp : ((arrive (.commit r g x) s).claim r).predecessor = (s.claim r).predecessor := rfl
  rw [hp]
  cases (s.claim r).predecessor with
  | none =>
    exact congrArg (send (.commitAnswer r g .taken))
      (hurgent (setClaim r ((s.claim r).committed x) (arrive (.commit r g x) s)) rfl)
  | some p =>
    exact congrArg (send (.commitAnswer r g .taken)) (hurgent (setClaim p { s.claim p with phase := .moving }
      (setClaim r ((s.claim r).committed x) (arrive (.commit r g x) s))) rfl)

/-- The committed record and its predecessor, which is another record. -/
theorem committed_claim (ha : s.loader.part = .active) (hr : r < s.claims.length)
    (hp : ∀ p, (s.claim r).predecessor = some p → p ≠ r) : (committed r g x s).claim r = (s.claim r).committed x ∧
    ∀ q, q ≠ r → (committed r g x s).claim q =
      if (s.claim r).predecessor = some q ∧ q < s.claims.length then { s.claim q with phase := .moving } else s.claim q := by
  have hclaims := congrArg State.claims (committed_eq (r := r) (g := g) (x := x) ha)
  cases hpred : (s.claim r).predecessor with
  | none =>
    rw [hpred] at hclaims
    refine ⟨claim_of_set_same (s := s) hclaims hr, fun q hq => ?_⟩
    rw [claim_of_set_other (s := s) hclaims hq, if_neg fun k => by cases k.1]
  | some p =>
    have hne := hp p hpred
    rw [hpred] at hclaims
    have hclaim : ∀ q, (committed r g x s).claim q =
        (setClaim p { s.claim p with phase := .moving } (setClaim r ((s.claim r).committed x) s)).claim q := fun q =>
      congrArg (List.getD · q ClaimRecord.reset) hclaims
    refine ⟨by rw [hclaim, claim_setClaim_other _ hne.symm, claim_setClaim_same _ hr], fun q hq => ?_⟩
    rw [hclaim, claim_setClaim, setClaim_claims, List.length_set, claim_setClaim_other _ hq]
    by_cases hqp : q = p
    · subst hqp; simp only [true_and]
    · rw [if_neg fun k => hqp k.1, if_neg fun k => hqp (Option.some.inj k.1).symm]

theorem committed_keeps (ha : s.loader.part = .active) : (committed r g x s).chan = s.chan.takeUrgent ∧
    (committed r g x s).outbox = (s.outbox.erase (.commit r g x)) ++ [.commitAnswer r g .taken] ∧
    (committed r g x s).claims.length = s.claims.length := by
  rw [committed_eq ha]
  refine ⟨rfl, rfl, ?_⟩
  dsimp only; split <;> simp

theorem committed_rest (ha : s.loader.part = .active) : (committed r g x s).grants = s.grants ∧
    (committed r g x s).loans = s.loans ∧ (committed r g x s).attn = s.attn := by
  rw [committed_eq ha]; exact ⟨rfl, rfl, rfl⟩

end

/-! ### The notices on the way -/

theorem tileWinner_eq_none {w : State} {c : Contender} {n : Nat} : tileWinner w c n = none ↔
    ∀ e ∈ (w.tile n).claimants.head?, beats e.contender c = false := by
  unfold tileWinner
  cases (w.tile n).claimants with
  | nil => simp
  | cons e l => simp

theorem tileWinner_tile {w : State} {c : Contender} {n m p : Nat} (h : tileWinner w c n = some (m, p)) : n = m := by
  unfold tileWinner at h; split at h
  · cases h
  · split at h <;> cases h
    rfl

section
variable {r : Nat} {x : Run} {w : State} (hp : (w.claim r).phase = .tentative)
include hp

/-- No first claimant of the run's tiles beats the committed record (R16). -/
abbrev Unbeaten (k : ServiceClass) (x : Run) (w : State) : Prop := ∀ n ∈ runTiles x, ∀ e ∈ (w.tile n).claimants.head?,
  beats e.contender ⟨k, .tentative, (ownId w).getD 0⟩ = false

theorem contender_of_tentative (own : Nat) : (w.claim r).contender own = ⟨(w.claim r).cls, .tentative, own⟩ := by
  simp only [ClaimRecord.contender, ClaimRecord.announced, hp]

theorem commitContention_of_unbeaten (h : Unbeaten (w.claim r).cls x w) : commitContention r x w = w := by
  refine commitContention_unbeaten fun n hn => ?_
  rw [contender_of_tentative hp, tileWinner_eq_none]
  exact h n hn

/-- A tile of the run that a peer's claim wins sends the loss notice (R16, R17). -/
theorem commitContention_of_beaten (h : ¬Unbeaten (w.claim r).cls x w) :
    ∃ n p, runHas x n = true ∧ commitContention r x w = applyLoss r (w.claim r).generation n p w := by
  unfold commitContention; split
  · rename_i n p hsome
    obtain ⟨m, hm, hw⟩ := List.exists_of_findSome?_eq_some hsome
    exact ⟨n, p, tileWinner_tile hw ▸ mem_runTiles.mp hm, rfl⟩
  · rename_i hnone
    rw [List.findSome?_eq_none_iff, contender_of_tentative hp] at hnone
    exact absurd (fun n hn => tileWinner_eq_none.mp (hnone n hn)) h

end

theorem commitNoise_quiet {r : Nat} {x : Run} {w : State} (h : ∀ n ∈ runTiles x, (w.noise n).state = .quiet) : commitNoise r x w = w := by
  have hnone : (runTiles x).find? (fun t => (w.noise t).state != .quiet) = none := by
    rw [List.find?_eq_none]
    intro n hn; simp [h n hn]
  unfold commitNoise; rw [hnone]

/-- A record that has lost its run receives no noise notice. -/
theorem commitNoise_unrun {r : Nat} {x : Run} {w : State} (h : (w.claim r).run = none) : commitNoise r x w = w := by
  unfold commitNoise; split
  · have hn : ∀ n, noticeApplies r (w.claim r).generation n w = false := fun n => by
      simp [noticeApplies, ClaimRecord.ownsTile, h]
    exact if_neg (by rw [hn]; nofun)
  · rfl

/-- A tile of the run that has left QUIET sends the noise notice (R31, R91). -/
theorem commitNoise_noisy {r : Nat} {x : Run} {w : State} (hrun : (w.claim r).run = some x)
    (hp : (w.claim r).phase = .tentative) (h : ¬∀ n ∈ runTiles x, (w.noise n).state = .quiet) : commitNoise r x w = tentativeNoise r w := by
  unfold commitNoise; split
  · rename_i n hn
    have happ := noticeApplies_of_run hrun (mem_runTiles.mp (List.mem_of_find?_eq_some hn)) (by rw [hp]; rfl)
    rw [applyNoise, if_pos happ, hp]
  · rename_i hnone
    refine absurd (fun n hn => ?_) h
    simpa using List.find?_eq_none.mp hnone n hn

/-! ### What the notices leave -/

/-- A record that noise makes seek again (R91). -/
def ClaimRecord.unsettled (c : ClaimRecord) : ClaimRecord :=
  { c with generation := c.generation + 1, phase := .seeking, run := none }

/-- What an event at the Claim Table that leaves the grants and loans comes to. -/
theorem OnlyClaims.placement {s t : State} {c : Transceiver} (h : OnlyClaims s t) (hg : t.grants = s.grants)
    (hl : t.loans = s.loans) (hc : t.chan = c) : OnlyPlacement { s with claims := t.claims, chan := c, attn := t.attn } t where
  loader := h.loader
  clock := h.clock
  chan := hc
  peers := h.peers
  tiles := h.tiles
  levels := h.levels
  sweep := h.sweep
  claims := rfl
  growth := h.growth
  grants := hg
  loans := hl
  link := h.link
  demand := h.demand
  lines := h.lines
  attn := rfl
  pins := h.pins
  pending := h.pending

/-- The state after a commit that is taken. -/
def taken (r : Nat) (g : BitVec 4) (x : Run) (s : State) : State :=
  settleFrom s.engine (commitNoise r x (commitContention r x (committed r g x s)))

theorem outbid_of_lt {c : ClaimRecord} (h : c.tentativeLosses + 1 < 4) : c.outbid = { c with
    generation := c.generation + 1, phase := .seeking, run := none, tentativeLosses := c.tentativeLosses + 1 } := by
  simp only [ClaimRecord.outbid, if_pos h, Nat.min_eq_right h.le]

theorem outbid_of_le {c : ClaimRecord} (h : 3 ≤ c.tentativeLosses) : c.outbid = { c with
    generation := c.generation + 1, phase := .seeking, run := none, tentativeLosses := 4, retry := some 2000000 } := by
  have hn : ¬c.tentativeLosses + 1 < 4 := by omega
  simp only [ClaimRecord.outbid, if_neg hn, Nat.min_eq_left (Nat.le_of_not_lt hn)]

theorem tentativeLoss_claims (r : Nat) (s : State) :
    (tentativeLoss r s).claims = s.claims.set r (s.claim r).outbid := by
  rw [tentativeLoss_eq]; split <;> rfl

section
variable {r : Nat} {g : BitVec 4} {x : Run} {s : State} (ha : s.loader.part = .active) (hk : (s.claim r).phase = .seeking)
  (hpaired : ∀ p, (s.claim r).predecessor = some p → (s.claim p).phase = .held)
include ha hk hpaired

omit ha in
theorem seeking_other : r < s.claims.length ∧ ∀ p, (s.claim r).predecessor = some p → p ≠ r := by
  refine ⟨lt_length_of_not_free (by rw [hk]; nofun), fun p hp => ?_⟩
  rintro rfl
  exact absurd (hk.symm.trans (hpaired p hp)) nofun

theorem committed_self : (committed r g x s).claim r = (s.claim r).committed x :=
  (committed_claim ha (seeking_other hk hpaired).1 (seeking_other hk hpaired).2).1

theorem committed_pred {p : Nat} (hp : (s.claim r).predecessor = some p) :
    (committed r g x s).claim p = { s.claim p with phase := .moving } := by
  have hne := (seeking_other hk hpaired).2 p hp
  have hlen : p < s.claims.length := lt_length_of_not_free (by rw [hpaired p hp]; nofun)
  rw [(committed_claim ha (seeking_other hk hpaired).1 (seeking_other hk hpaired).2).2 p hne, if_pos ⟨hp, hlen⟩]

omit ha hk hpaired in
theorem committed_frame : OnlyClaims s (committed r g x s) := by
  have h := takeCommit_frame r x (arrive (.commit r g x) s)
  obtain ⟨⟩ := h; constructor <;> assumption

omit ha hk hpaired in
theorem committed_loader : (committed r g x s).loader = s.loader := committed_frame.loader

omit ha hk hpaired in
theorem committed_scan (r : Nat) (g : BitVec 4) (x : Run) (s : State) (n : Nat) :
    (committed r g x s).noise n = s.noise n ∧ (committed r g x s).tile n = s.tile n ∧ ownId (committed r g x s) = ownId s := by
  have hf := committed_frame (r := r) (g := g) (x := x) (s := s)
  simp only [State.noise, State.tile, ownId, hf.levels, hf.tiles, hf.loader, and_self]

theorem unbeaten_committed : Unbeaten ((committed r g x s).claim r).cls x (committed r g x s) ↔ Unbeaten (s.claim r).cls x s := by
  rw [committed_self ha hk hpaired]
  have htile := fun n => (committed_scan r g x s n).2.1
  have hown := (committed_scan r g x s 0).2.2
  simp only [Unbeaten, htile, hown, ClaimRecord.committed]

theorem taken_quiet (hu : Unbeaten (s.claim r).cls x s) (hq : ∀ n ∈ runTiles x, (s.noise n).state = .quiet) :
    taken r g x s = committed r g x s := by
  have hphase : ((committed r g x s).claim r).phase = .tentative := by rw [committed_self ha hk hpaired]; rfl
  rw [taken, commitContention_of_unbeaten hphase ((unbeaten_committed ha hk hpaired).mpr hu),
    commitNoise_quiet fun n hn => by rw [(committed_scan r g x s n).1]; exact hq n hn]
  exact settleFrom_unchanged (by rw [committed_eq ha])

theorem taken_noisy (hu : Unbeaten (s.claim r).cls x s) (hq : ¬∀ n ∈ runTiles x, (s.noise n).state = .quiet) :
    taken r g x s = settleFrom s.engine (tentativeNoise r (committed r g x s)) := by
  have hself : (committed r g x s).claim r = (s.claim r).committed x := committed_self ha hk hpaired
  rw [taken, commitContention_of_unbeaten (by rw [hself]; rfl) ((unbeaten_committed ha hk hpaired).mpr hu),
    commitNoise_noisy (by rw [hself]; rfl) (by rw [hself]; rfl) fun h => hq fun n hn => ?_]
  rw [← (committed_scan r g x s n).1]; exact h n hn

theorem taken_beaten_primary (hu : ¬Unbeaten (s.claim r).cls x s) (hp : (s.claim r).predecessor = none) :
    taken r g x s = settleFrom s.engine (tentativeLoss r (committed r g x s)) := by
  have hself : (committed r g x s).claim r = (s.claim r).committed x := committed_self ha hk hpaired
  have hrun : ((committed r g x s).claim r).run = some x := by rw [hself]; rfl
  obtain ⟨n, w, hn, he⟩ := commitContention_of_beaten (by rw [hself]; rfl) ((unbeaten_committed ha hk hpaired).not.mpr hu)
  have hlost : ((tentativeLoss r (committed r g x s)).claim r).run = none := by
    rw [claim_of_set_same (tentativeLoss_claims r _) (lt_length_of_run hrun)]; rfl
  rw [taken, he, applyLoss_tentative_primary hrun hn (by rw [hself]; rfl) (by rw [hself]; exact hp), commitNoise_unrun hlost]

theorem taken_beaten_successor (hu : ¬Unbeaten (s.claim r).cls x s) {p : Nat} (hp : (s.claim r).predecessor = some p) :
    taken r g x s = settleFrom s.engine (successorLoss r p (committed r g x s)) := by
  have hself : (committed r g x s).claim r = (s.claim r).committed x := committed_self ha hk hpaired
  have hrun : ((committed r g x s).claim r).run = some x := by rw [hself]; rfl
  obtain ⟨n, w, hn, he⟩ := commitContention_of_beaten (by rw [hself]; rfl) ((unbeaten_committed ha hk hpaired).not.mpr hu)
  have hlost : ((successorLoss r p (committed r g x s)).claim r).run = none := by
    rw [(successorLoss_spec (lt_length_of_run hrun) hrun ((seeking_other hk hpaired).2 p hp)).1]; rfl
  rw [taken, he, applyLoss_tentative_successor hrun hn (by rw [hself]; rfl) (by rw [hself]; exact hp), commitNoise_unrun hlost]

/-- The state in which a primary that has lost at the commit seeks again. -/
theorem outbid_committed (hp : (s.claim r).predecessor = none) :
    urgentIf true (setClaim r ((committed r g x s).claim r).outbid (committed r g x s)) = { s with
      claims := s.claims.set r ((s.claim r).committed x).outbid
      chan := s.chan.takeUrgent
      outbox := (s.outbox.erase (.commit r g x)) ++ [.commitAnswer r g .taken] } := by
  rw [committed_self ha hk hpaired, committed_eq ha, hp]
  simp [urgentIf, setClaim, ha, takeUrgent_takeUrgent]

theorem tentativeLoss_committed (hp : (s.claim r).predecessor = none) : tentativeLoss r (committed r g x s) =
    if (s.claim r).tentativeLosses + 1 < 4 then requestPlacement r { s with
      claims := s.claims.set r ((s.claim r).committed x).outbid
      chan := s.chan.takeUrgent
      outbox := (s.outbox.erase (.commit r g x)) ++ [.commitAnswer r g .taken] }
    else latch .unmet { s with
      claims := s.claims.set r ((s.claim r).committed x).outbid
      chan := s.chan.takeUrgent
      outbox := (s.outbox.erase (.commit r g x)) ++ [.commitAnswer r g .taken] } := by
  rw [tentativeLoss_eq, outbid_committed ha hk hpaired hp, committed_self ha hk hpaired]; rfl

section
variable {p : Nat} (hp : (s.claim r).predecessor = some p)
include hp

omit hk hpaired in
theorem committed_claims_successor : (committed r g x s).claims =
    (s.claims.set r ((s.claim r).committed x)).set p { s.claim p with phase := .moving } := by
  rw [committed_eq ha, hp]

/-- The predecessor's run and the noise under it are as they were. -/
theorem committed_anyNoisy : anyNoisy (committed r g x s) p = anyNoisy s p := by
  simp only [anyNoisy, committed_pred ha hk hpaired hp, committed_scan]

theorem successorLoss_committed : (successorLoss r p (committed r g x s)).claims =
    (s.claims.set r ((s.claim r).committed x).ended).set p { s.claim p with
      phase := .held
      successor := none
      retry := if anyNoisy s p then some 2000000 else (s.claim p).retry } := by
  obtain ⟨hr, hother⟩ := seeking_other hk hpaired
  have hne := hother p hp
  have hpl : p < s.claims.length := lt_length_of_not_free (by rw [hpaired p hp]; nofun)
  have hself : (committed r g x s).claim r = (s.claim r).committed x := committed_self ha hk hpaired
  have hlen := (committed_keeps (r := r) (g := g) (x := x) ha).2.2
  obtain ⟨hlost, hothers, -⟩ := successorLoss_spec (r := r) (p := p) (hlen ▸ hr) (by rw [hself]; rfl) hne
  refine claims_ext (s := setClaim p _ (setClaim r ((s.claim r).committed x).ended s)) ?_ fun q => ?_
  · have := (successorLoss_receding r p (committed r g x s)).length
    rw [this, hlen]; simp
  · rw [claim_setClaim]
    by_cases hq : q = r
    · subst hq
      rw [hlost, hself, if_neg fun k => hne k.1.symm, claim_setClaim_same _ hr]
    · rw [hothers q hq, hlen, committed_anyNoisy ha hk hpaired hp, committed_pred ha hk hpaired hp, claim_setClaim_other _ hq]
      by_cases hqp : q = p
      · subst hqp; simp [hpl]
      · rw [if_neg fun k => hqp k.1, if_neg fun k => hqp k.1,
          (committed_claim ha hr hother).2 q hq, if_neg fun k => hqp (Option.some.inj (k.1.symm.trans hp))]

/-- The state of a successor that noise has made seek again, its predecessor not yet HELD again. -/
theorem seekAgain_committed : (requestPlacement r (seekAgain r (committed r g x s))).claims =
      (s.claims.set r ((s.claim r).committed x).unsettled).set p { s.claim p with phase := .moving } ∧
    (requestPlacement r (seekAgain r (committed r g x s))).claim r = ((s.claim r).committed x).unsettled ∧
    (requestPlacement r (seekAgain r (committed r g x s))).claim p = { s.claim p with phase := .moving } := by
  obtain ⟨hr, hother⟩ := seeking_other hk hpaired
  have hne := hother p hp
  have hself : (committed r g x s).claim r = (s.claim r).committed x := committed_self ha hk hpaired
  have hlen := (committed_keeps (r := r) (g := g) (x := x) ha).2.2
  have hseek : (requestPlacement r (seekAgain r (committed r g x s))).claims =
      (committed r g x s).claims.set r ((s.claim r).committed x).unsettled := by
    rw [requestPlacement_claims, seekAgain_claims, hself]; rfl
  refine ⟨?_, claim_of_set_same hseek (hlen ▸ hr), ?_⟩
  · rw [hseek, committed_claims_successor ha hp, List.set_comm _ _ hne, List.set_set]
  · rw [claim_of_set_other hseek hne, committed_pred ha hk hpaired hp]

theorem seekAgain_allQuiet {v : Run} (hv : (s.claim p).run = some v) :
    allQuiet (heldAgain p (requestPlacement r (seekAgain r (committed r g x s)))) p = true ↔
      ∀ n ∈ runTiles v, (s.noise n).state = .quiet := by
  obtain ⟨hclaims, -, hpred⟩ := seekAgain_committed (g := g) (x := x) ha hk hpaired hp
  have hpl : p < s.claims.length := lt_length_of_run hv
  have hrun : ((heldAgain p (requestPlacement r (seekAgain r (committed r g x s)))).claim p).run = (s.claim p).run := by
    rw [heldAgain, claim_setClaim_same _ (by rw [hclaims]; simpa using hpl), hpred]
  have htiles : (heldAgain p (requestPlacement r (seekAgain r (committed r g x s)))).scan.tiles = s.scan.tiles :=
    (requestPlacement_frame r (seekAgain r (committed r g x s))).levels.trans (committed_frame (g := g)).levels
  rw [allQuiet_congr hrun htiles, allQuiet_iff hv]

theorem tentativeNoise_committed_clean {v : Run} (hs : (s.claim p).successor = some r) (hv : (s.claim p).run = some v)
    (hc : ∀ n ∈ runTiles v, (s.noise n).state = .quiet) : (tentativeNoise r (committed r g x s)).claims =
      (s.claims.set r ((s.claim r).committed x).ended).set p { s.claim p with successor := none } ∧
    r ∉ (tentativeNoise r (committed r g x s)).engine.records := by
  obtain ⟨hr, hother⟩ := seeking_other hk hpaired
  have hne := hother p hp
  have hself : (committed r g x s).claim r = (s.claim r).committed x := committed_self ha hk hpaired
  obtain ⟨hclaims, hseek, hpred⟩ := seekAgain_committed (g := g) (x := x) ha hk hpaired hp
  have hpl : p < s.claims.length := lt_length_of_run hv
  rw [tentativeNoise_successor (by rw [hself]; exact hp)]
  obtain ⟨hset, hrecords⟩ := resumeSeeking_clean ((seekAgain_allQuiet ha hk hpaired hp hv).mpr hc)
    (by rw [hclaims]; simpa using hpl) hne (by rw [hpred]; exact hs)
  refine ⟨?_, hrecords⟩
  have hended : ((s.claim r).committed x).unsettled.freed = ((s.claim r).committed x).ended :=
    unrun_freed_eq_ended (c := (s.claim r).committed x) rfl
  have hheld : ({ ({ s.claim p with phase := .moving } : ClaimRecord) with phase := .held, successor := none }) =
      ({ s.claim p with successor := none } : ClaimRecord) := by
    rw [← hpaired p hp]
  rw [hset, hseek, hpred, hclaims, hended, hheld, List.set_comm _ _ hne, List.set_set, List.set_set]

theorem tentativeNoise_committed_unclean {v : Run} (hv : (s.claim p).run = some v)
    (hc : ¬∀ n ∈ runTiles v, (s.noise n).state = .quiet) : (tentativeNoise r (committed r g x s)).claims =
      s.claims.set r ((s.claim r).committed x).unsettled := by
  obtain ⟨hr, hother⟩ := seeking_other hk hpaired
  have hne := hother p hp
  have hself : (committed r g x s).claim r = (s.claim r).committed x := committed_self ha hk hpaired
  obtain ⟨hclaims, hseek, hpred⟩ := seekAgain_committed (g := g) (x := x) ha hk hpaired hp
  rw [tentativeNoise_successor (by rw [hself]; exact hp),
    resumeSeeking_unclean ((seekAgain_allQuiet ha hk hpaired hp hv).not.mpr hc), heldAgain, setClaim_claims, hpred, hclaims,
    List.set_set]
  have hheld : ({ ({ s.claim p with phase := .moving } : ClaimRecord) with phase := .held }) = s.claim p := by
    rw [← hpaired p hp]
  have hset := congrArg State.claims (setClaim_self p (setClaim r ((s.claim r).committed x).unsettled s))
  rw [claim_setClaim_other _ hne] at hset
  rw [hheld]; exact hset

end

theorem tentativeNoise_committed_primary (hp : (s.claim r).predecessor = none) :
    (tentativeNoise r (committed r g x s)).claims = s.claims.set r ((s.claim r).committed x).unsettled := by
  have hself : (committed r g x s).claim r = (s.claim r).committed x := committed_self ha hk hpaired
  rw [tentativeNoise_primary (by rw [hself]; exact hp), requestPlacement_claims, seekAgain_claims, hself, committed_eq ha, hp]
  exact List.set_set ..

end

theorem resumeSeeking_loans (p : Nat) (s : State) : (resumeSeeking p s).loans = s.loans := by
  unfold resumeSeeking; dsimp only; split
  · exact (dropSuccessor_keeps p (heldAgain p s)).2.2.2
  · rfl

theorem resumeSeeking_sent {m : Instr} (p : Nat) {s : State} (h : m ∈ s.outbox) : m ∈ (resumeSeeking p s).outbox := by
  unfold resumeSeeking; dsimp only; split
  · unfold dropSuccessor; split
    · exact takeUpIf_sent h
    · exact h
  · exact h

/-- What the noise notice of a TENTATIVE record leaves as it was, and the urgent build (R91). -/
theorem tentativeNoise_keeps (r : Nat) (s : State) : (tentativeNoise r s).grants = s.grants ∧
    (tentativeNoise r s).attn = s.attn ∧ (tentativeNoise r s).loans = s.loans ∧
    (tentativeNoise r s).chan = (if s.loader.part = .active then s.chan.takeUrgent else s.chan) ∧
    ∀ m ∈ s.outbox, m ∈ (tentativeNoise r s).outbox := by
  have hseek := seekAgain_chan r s
  cases hp : (s.claim r).predecessor with
  | none =>
    rw [tentativeNoise_primary hp]
    exact ⟨rfl, rfl, rfl, hseek, fun m hm => takeUpIf_sent (s := queuePlacement r (seekAgain r s)) hm⟩
  | some p =>
    rw [tentativeNoise_successor hp]
    obtain ⟨hattn, hgrants, hchan⟩ := resumeSeeking_keeps p (requestPlacement r (seekAgain r s))
    exact ⟨hgrants, hattn, resumeSeeking_loans p _, hchan.trans hseek, fun m hm =>
      resumeSeeking_sent p (takeUpIf_sent (s := queuePlacement r (seekAgain r s)) hm)⟩

/-- Settles O32: the answer by its conditions, and a commit that is taken by the notice its run has met on the way. -/
theorem commitIsTakenOrRefused : Obligations.CommitIsTakenOrRefused := by
  intro r g x s hr a
  refine ⟨fun ha => commit_refused hr (judgeCommit_inactive ha) nofun, fun ha => ?_⟩
  intro known free fits paired c
  have hj := judgeCommit_active (r := r) (g := g) (x := x) ha
  refine ⟨fun h1 => ?record, fun h1 h2 => ?overlap, fun h1 h2 h3 => ?limit, fun h1 h2 h3 h4 => ?predecessor,
    fun h1 h2 h3 h4 => ?taken⟩
  case record => exact commit_refused hr (hj.trans (if_pos h1)) nofun
  all_goals replace hj := hj.trans (if_neg (not_not.mpr h1))
  case overlap => exact commit_refused hr (hj.trans (if_pos h2)) nofun
  all_goals replace hj := hj.trans (if_neg (not_not.mpr h2))
  case limit => exact commit_refused hr (hj.trans (if_pos h3)) nofun
  all_goals replace hj := hj.trans (if_neg (not_not.mpr h3))
  case predecessor => exact commit_refused hr (hj.trans (if_pos h4)) nofun
  replace hj := hj.trans (if_neg (not_not.mpr h4))
  have hexec : exec (.commit r g x) s = .next (taken r g x s) := commit_taken hr hj
  obtain ⟨hk, rfl⟩ := h1
  intro quiet unbeaten again chan unmet
  rw [hexec]
  have hsent : (.commitAnswer r (s.claim r).generation .taken) ∈ (committed r (s.claim r).generation x s).outbox := by
    rw [(committed_keeps ha).2.1]; exact List.mem_append.mpr (.inr (List.mem_singleton_self _))
  refine ⟨fun hu hq => ?plain, fun hu hrl => ⟨_, rfl, ?beaten⟩, fun hu hq hrl => ⟨_, rfl, ?noisy⟩⟩
  case plain => rw [taken_quiet ha hk h4 hu hq, committed_eq ha]; rfl
  case beaten =>
    have hlost : (s.claim r).predecessor = none → taken r (s.claim r).generation x s =
        settleFrom s.engine (tentativeLoss r (committed r (s.claim r).generation x s)) := taken_beaten_primary ha hk h4 hu
    refine ⟨?sent, fun hp hl he => ?again, fun hp hl => ?frame, fun hp hl => ?waits, ?successor⟩
    case sent =>
      cases hp : (s.claim r).predecessor with
      | none =>
        rw [hlost hp]
        refine settleFrom_sent _ ?_
        rw [tentativeLoss_eq]; split
        · exact takeUpIf_sent hsent
        · exact hsent
      | some p =>
        rw [taken_beaten_successor ha hk h4 hu hp]
        refine settleFrom_sent _ ?_
        have hrun : ((committed r (s.claim r).generation x s).claim r).run = some x := by rw [committed_self ha hk h4]; rfl
        rw [(successorLoss_keeps (p := p) hrun).2.2.2.2.1]
        exact takeUpIf_sent hsent
    case again =>
      rw [hlost hp, settleFrom_of_law he, tentativeLoss_committed ha hk h4 hp, if_pos (by omega),
        outbid_of_lt (c := (s.claim r).committed x) (by show (s.claim r).tentativeLosses + 1 < 4; omega)]
      rfl
    case frame =>
      rw [hlost hp, tentativeLoss_committed ha hk h4 hp, if_pos (by omega),
        outbid_of_lt (c := (s.claim r).committed x) (by show (s.claim r).tentativeLosses + 1 < 4; omega)]
      refine OnlyPlacement.trans (OnlyPlacement.trans ?_ (requestPlacement_frame r _)) (settleFrom_frame _ _)
      constructor <;> rfl
    case waits =>
      rw [hlost hp, tentativeLoss_committed ha hk h4 hp, if_neg (by omega),
        outbid_of_le (c := (s.claim r).committed x) (by show 3 ≤ (s.claim r).tentativeLosses; omega)]
      exact settleFrom_unchanged rfl
    case successor =>
      intro p hp hne noisy
      have hself : (committed r (s.claim r).generation x s).claim r = (s.claim r).committed x := committed_self ha hk h4
      have hrun : ((committed r (s.claim r).generation x s).claim r).run = some x := by rw [hself]; rfl
      obtain ⟨hloans, hgrants, hengine, -, -, hchan⟩ := successorLoss_keeps (p := p) hrun
      have hattn := (successorLoss_spec (r := r) (p := p) (lt_length_of_run hrun) hrun hne).2.2
      have hset := settleFrom_frame s.engine (successorLoss r p (committed r (s.claim r).generation x s))
      have hframe := (committed_frame.trans (successorLoss_frame r p (committed r (s.claim r).generation x s))).trans
        hset.claimsFrame
      obtain ⟨hcg, hcl, hca⟩ := committed_rest (r := r) (g := (s.claim r).generation) (x := x) ha
      rw [taken_beaten_successor ha hk h4 hu hp]
      refine ⟨hframe.placement (hset.grants.trans (hgrants.trans hcg)) (hset.loans.trans (hloans.trans hcl)) ?_, fun hm => ?_,
        ?_, ?_⟩
      · rw [hset.chan, hchan, committed_loader, if_pos ha, (committed_keeps ha).1, takeUrgent_takeUrgent]
      · have := settleFrom_records hm
        rw [hengine] at this
        exact cancel_records _ _ this
      · rw [hset.attn, hattn, committed_anyNoisy ha hk h4 hp, hca]
      · rw [hset.claims]; exact successorLoss_committed ha hk h4 hp
  case noisy =>
    have hset := settleFrom_frame s.engine (tentativeNoise r (committed r (s.claim r).generation x s))
    obtain ⟨hgrants, hattn, hloans, hchan, hout⟩ := tentativeNoise_keeps r (committed r (s.claim r).generation x s)
    have hframe := (committed_frame.trans (tentativeNoise_frame r (committed r (s.claim r).generation x s))).trans
      hset.claimsFrame
    obtain ⟨hcg, hcl, hca⟩ := committed_rest (r := r) (g := (s.claim r).generation) (x := x) ha
    rw [taken_noisy ha hk h4 hu hq]
    refine ⟨settleFrom_sent _ (hout _ hsent), ?_, fun hp => ?_, ?successor⟩
    · have hplace := hframe.placement (hset.grants.trans (hgrants.trans hcg)) (hset.loans.trans (hloans.trans hcl))
        (hset.chan.trans hchan)
      rw [hset.attn, hattn, hca, committed_loader, if_pos ha, (committed_keeps ha).1, takeUrgent_takeUrgent] at hplace
      exact hplace
    · rw [hset.claims, tentativeNoise_committed_primary ha hk h4 hp]; rfl
    case successor =>
      intro p v hp hne hs hv clean
      refine ⟨fun hc => ⟨?_, fun hm => ?_⟩, fun hc => ?_⟩
      · rw [hset.claims]; exact (tentativeNoise_committed_clean ha hk h4 hp hs hv hc).1
      · exact (tentativeNoise_committed_clean ha hk h4 hp hs hv hc).2 (settleFrom_records hm)
      · rw [hset.claims, tentativeNoise_committed_unclean ha hk h4 hp hv hc]; rfl

end Sys2Proof.Machine

/-! The close of a call (R94, R155, R158 to R160; O47): the loans it returns, the unwinding and the parking. -/

namespace Sys2Proof.Machine

/-! ### The loans that a close returns -/

theorem freeClosed_attn (s : State) (r : Nat) : (freeClosed s r).attn = s.attn := by
  unfold freeClosed; dsimp only; split <;> rfl

theorem holdsLoan_iff {s : State} {q : Nat} : holdsLoan s q = true ↔ ∃ i e, (s.claim q).onLoan = some i ∧
    s.loans[i]? = some e ∧ e.borrower = q ∧ e.borrowerGeneration = (s.claim q).generation ∧ e.state = .out := by
  unfold holdsLoan
  cases (s.claim q).onLoan with
  | none => simp
  | some i => cases he : s.loans[i]? <;> simp [he, and_assoc]

theorem holdsLoan_without {s : State} {q : Nat} (h : (s.claim q).onLoan = none) : holdsLoan s q = false := by
  unfold holdsLoan; rw [h]

/-- A close returns the loans that `holdsLoan` says (R155). -/
theorem returnsLoan_eq (q : Nat) (s : State) :
    returnsLoan q s = if holdsLoan s q = true then (s.claim q).onLoan else none := by
  unfold returnsLoan holdsLoan
  cases (s.claim q).onLoan with
  | none => rfl
  | some i =>
    unfold loanNames loanIs
    cases he : s.loans[i]? with
    | none => simp [he]
    | some e => simp [he]

/-- Whether a record holds a loan depends on the record and on the entries that name it as borrower. -/
theorem holdsLoan_congr {s t : State} {q : Nat} (hc : t.claim q = s.claim q)
    (hl : ∀ (i : Nat) (e : LoanEntry), e.borrower = q → (t.loans[i]? = some e ↔ s.loans[i]? = some e)) : holdsLoan t q = holdsLoan s q := by
  rw [Bool.eq_iff_iff, holdsLoan_iff, holdsLoan_iff, hc]
  refine exists_congr fun i => exists_congr fun e => and_congr_right fun _ => ?_
  exact ⟨fun ⟨he, hb, hrest⟩ => ⟨(hl i e hb).mp he, hb, hrest⟩, fun ⟨he, hb, hrest⟩ => ⟨(hl i e hb).mpr he, hb, hrest⟩⟩

/-! ### The records of the call, one after another -/

/-- An entry whose borrower is one of the records `rs` and holds its loan by it becomes RETURNED (R155). -/
def markReturned (s : State) (rs : List Nat) (i : Nat) (e : LoanEntry) : LoanEntry :=
  if e.borrower ∈ rs ∧ holdsLoan s e.borrower = true ∧ (s.claim e.borrower).onLoan = some i then
    { e with state := .returned }
  else e

theorem markReturned_borrower (s : State) (rs : List Nat) (i : Nat) (e : LoanEntry) :
    (markReturned s rs i e).borrower = e.borrower := by
  unfold markReturned; split <;> rfl

theorem markReturned_of_not_mem {s : State} {rs : List Nat} {e : LoanEntry} (h : e.borrower ∉ rs) (i : Nat) :
    markReturned s rs i e = e := if_neg fun k => h k.1

/-- The records `rs` of a closed call are ended, or their loans marked (R94). -/
structure CallEnds (rs : List Nat) (s t : State) : Prop where
  length : t.claims.length = s.claims.length
  claim : ∀ q, t.claim q = if q ∈ rs ∧ holdsLoan s q = false then (s.claim q).ended else s.claim q
  loans : t.loans = s.loans.mapIdx (markReturned s rs)
  chan : t.chan = (urgentIf (rs.any fun r => !holdsLoan s r && (s.claim r).run.isSome) s).chan
  records : ∀ q ∈ t.engine.records, q ∉ rs
  loader : t.loader = s.loader
  grants : t.grants = s.grants
  attn : t.attn = s.attn

namespace CallEnds

variable {rs : List Nat} {r : Nat} {s t : State}

theorem nil (s : State) : CallEnds [] s s where
  length := rfl
  claim q := by simp
  loans := by
    refine List.ext_getElem? fun i => ?_
    rw [List.getElem?_mapIdx]
    cases s.loans[i]? with
    | none => rfl
    | some e => simp [markReturned]
  chan := by rw [List.any_nil, urgentIf_false]
  records _ _ := List.not_mem_nil
  loader := rfl
  grants := rfl
  attn := rfl

/-- A record still to come is as it was, and so is its loan. -/
theorem untouched (h : CallEnds rs s t) (hr : r ∉ rs) : t.claim r = s.claim r ∧ holdsLoan t r = holdsLoan s r := by
  have hc : t.claim r = s.claim r := by rw [h.claim, if_neg fun k => hr k.1]
  refine ⟨hc, holdsLoan_congr hc fun i e hb => ?_⟩
  rw [h.loans, List.getElem?_mapIdx]
  constructor
  · intro he
    obtain ⟨f, hf, rfl⟩ := Option.map_eq_some_iff.mp he
    rw [markReturned_borrower] at hb
    rw [markReturned_of_not_mem (hb ▸ hr), hf]
  · intro he
    rw [he, Option.map_some, markReturned_of_not_mem (hb ▸ hr)]

/-- A record with a loan: its entry becomes RETURNED. -/
theorem returning (h : CallEnds rs s t) (hr : r ∉ rs) (hl : holdsLoan s r = true) {i : Nat} (hi : (s.claim r).onLoan = some i) :
    CallEnds (rs ++ [r]) s (markLoan i .returned (cancel r t)) where
  length := h.length
  claim q := by
    refine (h.claim q).trans ?_
    by_cases hq : q = r
    · subst hq; simp [hr, hl]
    · simp [hq]
  loans := by
    obtain ⟨j, e, hj, he, hb, -, -⟩ := holdsLoan_iff.mp hl
    obtain rfl : j = i := Option.some.inj (hj.symm.trans hi)
    rw [markLoan_loans, cancel_loans, h.loans]
    refine List.ext_getElem? fun k => ?_
    rw [List.getElem?_modify, List.getElem?_mapIdx, List.getElem?_mapIdx]
    cases hk : s.loans[k]? with
    | none => rfl
    | some f =>
      refine congrArg some ?_
      dsimp only
      by_cases hjk : j = k
      · subst hjk
        obtain rfl : e = f := Option.some.inj (he.symm.trans hk)
        rw [if_pos rfl, markReturned_of_not_mem (hb ▸ hr), markReturned, if_pos ⟨by simp [hb], hb ▸ hl, hb ▸ hi⟩]
      · rw [if_neg hjk]
        have hne : f.borrower = r → (s.claim f.borrower).onLoan ≠ some k := fun hf => by
          rw [hf, hi]; exact fun h => hjk (Option.some.inj h)
        unfold markReturned
        refine if_congr ?_ rfl rfl
        rw [List.mem_append, List.mem_singleton]
        exact ⟨fun ⟨hm, hrest⟩ => ⟨.inl hm, hrest⟩, fun ⟨hm, hrest⟩ => ⟨hm.resolve_right fun k => hne k hrest.2, hrest⟩⟩
  chan := by simp [h.chan, hl]
  records q hq := by
    obtain ⟨hne, hin⟩ := cancel_records_of hq
    simpa [hne] using h.records q hin
  loader := h.loader
  grants := h.grants
  attn := h.attn

/-- A record without a loan: it is freed. -/
theorem freeing (h : CallEnds rs s t) (hr : r ∉ rs) (hl : holdsLoan s r = false) : CallEnds (rs ++ [r]) s (freeClosed t r) where
  length := by rw [freeClosed_claims, List.length_set, h.length]
  claim q := by
    rw [freeClosed_claim, (h.untouched hr).1]
    by_cases hq : q = r
    · subst hq; simp [hl]
    · rw [if_neg hq, h.claim]; simp [hq]
  loans := by
    rw [freeClosed_loans, h.loans]
    refine List.ext_getElem? fun k => ?_
    rw [List.getElem?_mapIdx, List.getElem?_mapIdx]
    cases s.loans[k]? with
    | none => rfl
    | some f =>
      refine congrArg some (if_congr ?_ rfl rfl)
      rw [List.mem_append, List.mem_singleton]
      refine ⟨fun ⟨hm, hrest⟩ => ⟨.inl hm, hrest⟩, fun ⟨hm, hh, hrest⟩ => ⟨hm.resolve_right fun k => ?_, hh, hrest⟩⟩
      rw [k, hl] at hh; cases hh
  chan := by
    rw [freeClosed_chan, (h.untouched hr).1, List.any_append]
    simp only [List.any_cons, List.any_nil, hl, Bool.not_false, Bool.true_and, Bool.or_false]
    rw [← urgentIf_urgentIf]
    simp only [urgentIf, h.chan, h.loader]
    rfl
  records q hq := by
    obtain ⟨hne, hin⟩ := cancel_records_of hq
    have := h.records q (by split at hin <;> exact hin)
    simpa [hne] using this
  loader := (freeClosed_frame t r).loader.trans h.loader
  grants := (freeClosed_grants t r).trans h.grants
  attn := (freeClosed_attn t r).trans h.attn

theorem next (h : CallEnds rs s t) (hr : r ∉ rs) : CallEnds (rs ++ [r]) s (closeCallRecord t r) := by
  obtain ⟨hc, hl⟩ := h.untouched hr
  unfold closeCallRecord
  rw [returnsLoan_eq, hl, hc]
  cases hh : holdsLoan s r with
  | false => exact h.freeing hr hh
  | true =>
    obtain ⟨i, e, hi, -⟩ := holdsLoan_iff.mp hh
    rw [if_pos rfl, hi]
    exact h.returning hr hh hi

theorem foldl (l : List Nat) (h : CallEnds rs s t) (hn : (rs ++ l).Nodup) : CallEnds (rs ++ l) s (l.foldl closeCallRecord t) := by
  induction l generalizing rs t with
  | nil => rw [List.append_nil]; exact h
  | cons r l ih =>
    rw [List.append_cons] at hn ⊢
    have hr : r ∉ rs := fun k => List.disjoint_of_nodup_append (List.nodup_append.mp hn).1 k (List.mem_singleton_self r)
    exact ih (h.next hr) hn

end CallEnds

theorem closeCallRecord_ends (n : Nat) (s : State) :
    CallEnds (closingRecords .voice n s) s ((closingRecords .voice n s).foldl closeCallRecord s) :=
  (CallEnds.nil s).foldl (closingRecords .voice n s) (closingRecords_nodup _ _ _)

/-! ### The parking of what the unwinding has left -/

/-- The record as it is parked, if it is one of `rs` and not FREE (R155). -/
def parkedOf (rs : List Nat) (q : Nat) (c : ClaimRecord) : ClaimRecord := if q ∈ rs ∧ c.phase ≠ .free then c.park else c

theorem mapIdx_parkedOf_nil (l : List ClaimRecord) : l.mapIdx (parkedOf []) = l := by
  refine List.ext_getElem? fun q => ?_
  rw [List.getElem?_mapIdx]
  cases l[q]? with
  | none => rfl
  | some c => simp [parkedOf]

theorem parkRemaining_eq (s : State) (r : Nat) : parkRemaining s r = { s with claims := s.claims.mapIdx (parkedOf [r]) } := by
  have hset : ∀ c, c = parkedOf [r] r (s.claim r) → s.claims.set r c = s.claims.mapIdx (parkedOf [r]) := fun c hc => by
    refine List.ext_getElem? fun q => ?_
    rw [List.getElem?_set, List.getElem?_mapIdx]
    split
    · rename_i hq
      subst hq
      by_cases hl : r < s.claims.length
      · rw [if_pos hl, List.getElem?_eq_getElem hl, Option.map_some, hc, State.claim, List.getD_eq_getElem _ _ hl]
      · rw [if_neg hl, List.getElem?_eq_none (Nat.le_of_not_lt hl)]; rfl
    · rename_i hq
      cases s.claims[q]? with
      | none => rfl
      | some d => rw [Option.map_some, parkedOf, if_neg fun k => hq (List.mem_singleton.mp k.1).symm]
  unfold parkRemaining; split
  · rename_i hp
    rw [← hset (s.claim r) (if_neg fun k => k.2 hp).symm, ← setClaim_claims, setClaim_self]
  · rename_i hp
    rw [← hset (s.claim r).park (if_pos ⟨List.mem_singleton_self r, hp⟩).symm]; rfl

theorem parkedOf_parkedOf (r : Nat) (rs : List Nat) (q : Nat) (c : ClaimRecord) :
    parkedOf rs q (parkedOf [r] q c) = parkedOf (r :: rs) q c := by
  by_cases hp : c.phase = .free
  · simp [parkedOf, hp]
  · by_cases hq : q = r
    · have hpark : c.park.park = c.park := rfl
      simp [parkedOf, hp, hq, hpark]
    · simp [parkedOf, hp, hq]

theorem parkRemaining_foldl (rs : List Nat) (s : State) :
    rs.foldl parkRemaining s = { s with claims := s.claims.mapIdx (parkedOf rs) } := by
  induction rs generalizing s with
  | nil => rw [mapIdx_parkedOf_nil]; rfl
  | cons r rs ih =>
    rw [List.foldl_cons, ih, parkRemaining_eq, List.mapIdx_mapIdx]
    refine congrArg (fun l => ({ s with claims := l } : State)) (congrArg s.claims.mapIdx ?_)
    funext q c
    exact parkedOf_parkedOf r rs q c

/-! ### What the close leaves -/

/-- The records with those of the closed call that hold no loan ended (R94). -/
def closedClaims (n : Nat) (s : State) : List ClaimRecord :=
  s.claims.mapIdx (fun q c => if c.closes n && !holdsLoan s q then c.ended else c)

/-- The loan entries with those of the closed call RETURNED (R155). -/
def closedLoans (n : Nat) (s : State) : List LoanEntry :=
  s.loans.mapIdx (fun i e =>
    if (s.claim e.borrower).closes n && holdsLoan s e.borrower && (s.claim e.borrower).onLoan == some i then
      { e with state := .returned }
    else e)

/-- Whether the close releases the run of a record without a loan (R77). -/
def closeReleases (n : Nat) (s : State) : Bool :=
  (List.range 20).any (fun q => (s.claim q).closes n && !holdsLoan s q && (s.claim q).run.isSome)

/-- The records and the urgent build after the unwinding of a close (R158, R159). -/
def closeSettled (n : Nat) (s : State) : List ClaimRecord × Bool :=
  (poppedEntries (closedLoans n s)).foldl settledBy (closedClaims n s, closeReleases n s)

/-- The records after a close, the data grant not yet made (R155). -/
def closeParked (n : Nat) (s : State) : List ClaimRecord :=
  (closeSettled n s).1.mapIdx (fun q c =>
    if (s.claim q).closes n && holdsLoan s q && c.phase != .free then
      { c with phase := .parked, listenCount := 0, drainCount := 0, predecessor := none, successor := none, retry := none }
    else c)

/-- The state after a close, the data grant not yet made. -/
def closeBase (n : Nat) (s : State) : State :=
  { s with
    claims := closeParked n s
    loans := remainingEntries (closedLoans n s)
    chan := if (closeSettled n s).2 = true ∧ s.loader.part = .active then s.chan.takeUrgent else s.chan
    grants := { s.grants with
      voice := s.grants.voice.after (grantEntries (closeParked n s) .voice) .closed s.clock.stamp none }
    attn := if grantEntries (closeParked n s) .voice = s.grants.voice.entries then s.attn
      else { s.attn with latched := s.attn.latched ||| 0x01 } }

theorem callClosed_iff {n : Nat} {s t : State} : CallClosed n s t ↔
    (slotOpen s .voice n = false →
      t.claims = s.claims ∧ t.loans = s.loans ∧ t.grants = s.grants ∧ t.chan = s.chan ∧ t.attn = s.attn) ∧
    (slotOpen s .voice n = true → slotOpen t .voice n = false ∧
      (∀ q < 20, (s.claim q).closes n = true → q ∉ t.engine.records) ∧ ReturnsGranted (closeBase n s) t) := Iff.rfl

theorem closes_iff {c : ClaimRecord} {n : Nat} : c.closes n = true ↔
    c.cls = .voice ∧ c.slot = n ∧ c.phase ≠ .free ∧ c.phase ≠ .parked := by
  simp [ClaimRecord.closes, and_assoc]

section
variable {n : Nat} {s : State} (hlen : s.claims.length = 20)
include hlen

theorem closes_lt {q : Nat} (h : (s.claim q).closes n = true) : q < 20 :=
  hlen ▸ lt_length_of_not_free (closes_iff.mp h).2.2.1

theorem mem_closing_iff {q : Nat} : q ∈ closingRecords .voice n s ↔ (s.claim q).closes n = true := by
  rw [mem_closingRecords, closes_iff]
  exact ⟨fun h => h.2, fun h => ⟨closes_lt hlen (closes_iff.mpr h), h⟩⟩

/-- A list of records is known by what each record is. -/
theorem claims_eq_mapIdx {t : State} {f : Nat → ClaimRecord → ClaimRecord} (hl : t.claims.length = s.claims.length)
    (h : ∀ q < 20, t.claim q = f q (s.claim q)) : t.claims = s.claims.mapIdx f := by
  refine List.ext_getElem (by simpa using hl) fun q hq hq' => ?_
  have hqs : q < s.claims.length := hl ▸ hq
  have := h q (hlen ▸ hqs)
  rw [State.claim, State.claim, List.getD_eq_getElem _ _ hq, List.getD_eq_getElem _ _ hqs] at this
  rw [this, List.getElem_mapIdx]

theorem closeCallRecord_closed : ∃ u, (closingRecords .voice n s).foldl closeCallRecord s = urgentIf (closeReleases n s) u ∧
    u.claims = closedClaims n s ∧ u.loans = closedLoans n s ∧ u.chan = s.chan ∧ u.grants = s.grants ∧ u.attn = s.attn ∧
    u.loader = s.loader ∧ ∀ q, (s.claim q).closes n = true → q ∉ u.engine.records := by
  have h := closeCallRecord_ends n s
  generalize (closingRecords .voice n s).foldl closeCallRecord s = t at h
  have hmem : ∀ q, q ∈ closingRecords .voice n s ↔ (s.claim q).closes n = true := fun q => mem_closing_iff hlen
  have hreleases : (closingRecords .voice n s).any (fun r => !holdsLoan s r && (s.claim r).run.isSome) = closeReleases n s := by
    rw [Bool.eq_iff_iff, List.any_eq_true, closeReleases, List.any_eq_true]
    refine exists_congr fun q => ?_
    rw [hmem, List.mem_range]
    constructor
    · rintro ⟨hq, hrest⟩
      exact ⟨closes_lt hlen hq, by rw [hq, Bool.true_and]; exact hrest⟩
    · rintro ⟨-, hrest⟩
      obtain ⟨hq, hrest⟩ := Bool.and_eq_true_iff.mp (Bool.and_assoc _ _ _ ▸ hrest)
      exact ⟨hq, hrest⟩
  refine ⟨{ t with chan := s.chan }, ?_, ?_, ?_, rfl, h.grants, h.attn, h.loader, fun q hq => ?_⟩
  · have hchan := h.chan
    rw [hreleases] at hchan
    simp only [urgentIf] at hchan ⊢
    rw [h.loader, ← hchan, ← h.loader]
  · refine claims_eq_mapIdx hlen h.length fun q _ => (h.claim q).trans ?_
    simp only [hmem, Bool.and_eq_true, Bool.not_eq_true']
  · refine h.loans.trans (congrArg s.loans.mapIdx ?_)
    funext i e
    simp only [markReturned, hmem, Bool.and_eq_true, beq_iff_eq, and_assoc]
  · exact fun hm => h.records q hm ((hmem q).mpr hq)

end

/-! ### Records that are not DATA -/

/-- No record changes its class, and one that is not DATA stays as it is or is FREE. -/
def OthersEnd (s t : State) : Prop :=
  ∀ q, (t.claim q).cls = (s.claim q).cls ∧ ((s.claim q).cls ≠ .data → t.claim q = s.claim q ∨ (t.claim q).phase = .free)

theorem OthersEnd.refl (s : State) : OthersEnd s s := fun _ => ⟨rfl, fun _ => .inl rfl⟩

theorem settleReturned_othersEnd (e : LoanEntry) (s : State) : OthersEnd s (settleReturned e s) := by
  intro q
  unfold settleReturned; split
  · split
    · rename_i l hl
      obtain ⟨-, x, hx, hdata, -⟩ := returnsHome_eq_some.mp hl
      rw [mergeInto, claim_setClaim]; split
      · rename_i hq; rw [hq.1]; exact ⟨rfl, fun _ => .inr rfl⟩
      · rw [claim_setClaim]; split
        · rename_i hq
          rw [hq.1, ClaimRecord.widened, hx]
          exact ⟨rfl, fun h => absurd hdata h⟩
        · exact ⟨rfl, fun _ => .inl rfl⟩
    · rw [show (urgentRequest (setClaim e.borrower _ s)).claim q = (setClaim e.borrower _ s).claim q from rfl,
        claim_setClaim]; split
      · rename_i hq; rw [hq.1]; exact ⟨rfl, fun _ => .inr rfl⟩
      · exact ⟨rfl, fun _ => .inl rfl⟩
  · exact ⟨rfl, fun _ => .inl rfl⟩

theorem OthersEnd.trans {s t u : State} (h : OthersEnd s t) (k : OthersEnd t u) (hf : FreeKept t u) : OthersEnd s u := fun q => by
  obtain ⟨hc, ho⟩ := h q
  obtain ⟨kc, ko⟩ := k q
  refine ⟨kc.trans hc, fun hd => ?_⟩
  rcases ho hd with he | he
  · rcases ko (hc ▸ hd) with k' | k'
    · exact .inl (k'.trans he)
    · exact .inr k'
  · exact .inr (by rw [hf q he]; exact he)

theorem unwindStack_othersEnd (n : Nat) : ∀ s, OthersEnd s (unwindStack n s) := by
  induction n with
  | zero => exact .refl
  | succ n ih =>
    intro s; unfold unwindStack; split
    · split
      · exact .refl s
      · exact ih { s with loans := s.loans.dropLast }
      · exact (settleReturned_othersEnd _ { s with loans := s.loans.dropLast }).trans (ih _) (unwindStack_freeKept n _)
    · exact .refl s

/-- A trim changes DATA records and their grant only, no record's class, and takes no placement up for another record. -/
structure OnlyData (s t : State) : Prop where
  length : t.claims.length = s.claims.length
  cls : ∀ q, (t.claim q).cls = (s.claim q).cls
  others : ∀ q, (s.claim q).cls ≠ .data → t.claim q = s.claim q
  video : t.grants.video = s.grants.video
  voice : t.grants.voice = s.grants.voice
  records : ∀ q ∈ t.engine.records, q ∈ s.engine.records

theorem OnlyData.refl (s : State) : OnlyData s s := ⟨rfl, fun _ => rfl, fun _ _ => rfl, rfl, rfl, fun _ => id⟩

theorem OnlyData.trans {s t u : State} (h : OnlyData s t) (k : OnlyData t u) : OnlyData s u where
  length := k.length.trans h.length
  cls q := (k.cls q).trans (h.cls q)
  others q hq := (k.others q (by rw [h.cls]; exact hq)).trans (h.others q hq)
  video := k.video.trans h.video
  voice := k.voice.trans h.voice
  records q hq := h.records q (k.records q hq)

/-- The commit of the data grant, and the urgent build of a trim. -/
theorem commitGrant_onlyData (c : GrantCause) (d : Option Nat) (s : State) : OnlyData s (commitGrant .data c d s) := by
  refine ⟨rfl, fun _ => rfl, fun _ _ => rfl, ?_, ?_, fun _ => id⟩ <;> rw [commitGrant_data_grants]

theorem urgentRequest_onlyData (s : State) : OnlyData s (urgentRequest s) := ⟨rfl, fun _ => rfl, fun _ _ => rfl, rfl, rfl, fun _ => id⟩

theorem cutTop_onlyData {r : Nat} (cut : List Nat) {s : State} {x : Run} (hd : (s.claim r).cls = .data)
    (hx : (s.claim r).run = some x) : OnlyData s (cutTop r cut s) := by
  have hclaims := (cutTop_cutsTop cut hx).claims
  have hkeep : ∀ again, ((s.claim r).topCut again x).cls = .data := fun again => by
    unfold ClaimRecord.topCut
    cases dropLastTile x <;> exact hd
  have hgrants := (cutTop_cutsTop cut hx).grants
  refine ⟨by rw [hclaims, List.length_set], fun q => ?_, fun q hq => claim_of_set_other hclaims fun k => hq (k ▸ hd),
    by rw [hgrants], by rw [hgrants], fun q hq => ?records⟩
  case records =>
    unfold cutTop cancelCut at hq
    rw [hx] at hq; dsimp only at hq
    split at hq
    · have := (cancel_records_of hq).2
      split at this <;> exact this
    · split at hq <;> exact hq
  by_cases hq : q = r
  · rw [hq, claim_of_set_same hclaims (lt_length_of_run hx), hkeep, hd]
  · rw [claim_of_set_other hclaims hq]

theorem topDownTrim_onlyData (k : Nat) (s : State) : OnlyData s (topDownTrim k s) := by
  have hcut : ∀ k cut s, OnlyData s (cutHighest k cut s) := by
    intro k
    induction k with
    | zero => exact fun _ => .refl
    | succ k ih =>
      intro cut s; unfold cutHighest; split
      · rename_i r hr
        have hh := highestData_highest s
        rw [hr] at hh
        obtain ⟨x, hd, hx, -⟩ := hh
        exact (cutTop_onlyData cut (isData_iff.mp hd).1 hx).trans (ih _ _)
      · exact .refl s
  unfold topDownTrim; split
  · exact .refl s
  · exact ((hcut k [] s).trans (urgentRequest_onlyData _)).trans (commitGrant_onlyData .trimmed none _)

theorem grantReturns_onlyData (s : State) : OnlyData s (grantReturns s) := by
  by_cases h : grantEntries s.claims .data = s.grants.data.entries
  · rw [grantReturns_unmoved h]; exact .refl s
  · rw [grantReturns_moved h]
    exact (commitGrant_onlyData .returned none s).trans (topDownTrim_onlyData _ _)

/-- A change of DATA records only is not seen by the other grants. -/
theorem OnlyData.grantEntries {s t : State} (h : OnlyData s t) {k : ServiceClass} (hk : k ≠ .data) :
    Machine.grantEntries t.claims k = Machine.grantEntries s.claims k := by
  refine grantEntries_congr (List.ext_getElem (by simpa using h.length) fun q hq hq' => ?_)
  rw [List.length_map] at hq hq'
  have hshown : (t.claim q).shown k = (s.claim q).shown k := by
    by_cases hd : (s.claim q).cls = .data
    · rw [shown_of_cls (by rw [h.cls, hd]; exact hk.symm), shown_of_cls (by rw [hd]; exact hk.symm)]
    · rw [h.others q hd]
  rw [State.claim, State.claim, List.getD_eq_getElem _ _ hq, List.getD_eq_getElem _ _ hq'] at hshown
  rw [List.getElem_map, List.getElem_map, hshown]

theorem OnlyData.slotOpen {s t : State} (h : OnlyData s t) {k : ServiceClass} {n : Nat} (hk : k ≠ .data)
    (hs : Machine.slotOpen s k n = false) : Machine.slotOpen t k n = false := by
  rw [slotOpen_eq_false] at hs ⊢
  intro q hq
  by_cases hd : (s.claim q).cls = .data
  · by_contra ho
    have := (opens_iff.mp (Bool.not_eq_false _ ▸ ho)).1
    rw [h.cls, hd] at this
    exact hk this.symm
  · rw [h.others q hd]; exact hs q (h.length ▸ hq)

/-! ### The close as an event -/

/-- What returns are granted depends on these blocks only. -/
theorem ReturnsGranted.congr {v w t : State} (h : ReturnsGranted v t) (hclaims : w.claims = v.claims) (hloans : w.loans = v.loans)
    (hgrants : w.grants = v.grants) (hchan : w.chan = v.chan) (hattn : w.attn = v.attn) (hclock : w.clock = v.clock)
    (hdemand : w.demand = v.demand) (hload : w.loader = v.loader) : ReturnsGranted w t := by
  have hcount : dataCount w = dataCount v := by rw [dataCount, hclaims]; rfl
  have hclaim : ∀ r, w.claim r = v.claim r := fun r => by rw [State.claim, hclaims]; rfl
  have hlaw : OwnRunsLaw w → OwnRunsLaw v := fun law => by
    simpa only [OwnRunsLaw, hclaims, hclaim] using law
  obtain ⟨hunmoved, hwithin, habove⟩ := h
  refine ⟨?_, ?_, fun hm hlt law => ?_⟩
  · rw [hclaims, hloans, hgrants, hchan, hattn]; exact hunmoved
  · rw [hclaims, hloans, hgrants, hchan, hattn, hclock, hdemand, hcount]; exact hwithin
  · rw [hclaims, hgrants] at hm
    rw [hdemand, hcount] at hlt
    have ha := habove hm hlt (hlaw law)
    simp only [hclaims, hloans, hgrants, hchan, hattn, hclock, hdemand, hload, hclaim]
    exact ha

/-- A close, up to the returned tiles' grant (R94, R155). -/
theorem closeCall_base (n : Nat) {s : State} (hlen : s.claims.length = 20) : ∃ v, closeCall n s = grantReturns v ∧
    v.claims = closeParked n s ∧ v.loans = (closeBase n s).loans ∧ v.grants = (closeBase n s).grants ∧
    v.chan = (closeBase n s).chan ∧ v.attn = (closeBase n s).attn ∧ OnlyClaims s v ∧ slotOpen v .voice n = false ∧
    ∀ q, (s.claim q).closes n = true → q ∉ v.engine.records := by
  obtain ⟨u, hu, hclaims, hloans, hchan, hgrants, hattn, hload, hrecords⟩ := closeCallRecord_closed (n := n) hlen
  have hends := closeCallRecord_ends n s
  have hframe : OnlyClaims s (urgentIf (closeReleases n s) u) := by
    rw [← hu]; exact foldl_frame OnlyClaims .refl .trans _ closeCallRecord_frame _ s
  rw [hu] at hends
  have hunwound := unwindStack_eq u.loans.length (closeReleases n s) u le_rfl
  have hother := unwindStack_othersEnd u.loans.length (urgentIf (closeReleases n s) u)
  have hframe' := hframe.trans (unwindStack_frame u.loans.length (urgentIf (closeReleases n s) u))
  rw [hunwound] at hother hframe'
  have hsettled : (unwound (closeReleases n s) u).claims = (closeSettled n s).1 ∧
      (unwound (closeReleases n s) u).chan = (closeBase n s).chan ∧
      (unwound (closeReleases n s) u).loans = (closeBase n s).loans := by
    simp only [unwound, hclaims, hloans, hload, urgentIf, hchan]; exact ⟨rfl, rfl, rfl⟩
  have hkept : (unwound (closeReleases n s) u).grants = s.grants ∧ (unwound (closeReleases n s) u).attn = s.attn ∧
      (unwound (closeReleases n s) u).engine = u.engine := ⟨hgrants, hattn, rfl⟩
  generalize unwound (closeReleases n s) u = x at hother hframe' hsettled hunwound hkept
  obtain ⟨hxclaims, hxchan, hxloans⟩ := hsettled
  obtain ⟨hxgrants, hxattn, hxengine⟩ := hkept
  have hmem : ∀ q, q ∈ closingRecords .voice n s ↔ (s.claim q).closes n = true := fun q => mem_closing_iff hlen
  have hfree : ∀ q, (s.claim q).closes n = true → holdsLoan s q = false → (x.claim q).phase = .free := fun q hq hh => by
    have hu : ((urgentIf (closeReleases n s) u).claim q).phase = .free := by
      rw [hends.claim, if_pos ⟨(hmem q).mpr hq, hh⟩]; rfl
    have hkept := unwindStack_freeKept u.loans.length (urgentIf (closeReleases n s) u) q hu
    rw [hunwound] at hkept
    rw [hkept, hu]
  have hparked : x.claims.mapIdx (parkedOf (closingRecords .voice n s)) = closeParked n s := by
    rw [closeParked, ← hxclaims]
    refine List.ext_getElem (by simp) fun q hq _ => ?_
    rw [List.length_mapIdx] at hq
    rw [List.getElem_mapIdx, List.getElem_mapIdx]
    unfold parkedOf
    refine if_congr ?_ rfl rfl
    rw [hmem]
    cases hc : (s.claim q).closes n with
    | false => simp
    | true =>
      cases hh : holdsLoan s q with
      | true => simp
      | false =>
        have := hfree q hc hh
        rw [State.claim, List.getD_eq_getElem _ _ hq] at this
        simp [this]
  have hclosed : slotOpen { x with claims := closeParked n s } .voice n = false := by
    rw [← hparked, slotOpen_eq_false]
    intro q hq
    have hqx : q < x.claims.length := by simpa using hq
    have hclaim : ({ x with claims := x.claims.mapIdx (parkedOf (closingRecords .voice n s)) } : State).claim q =
        parkedOf (closingRecords .voice n s) q (x.claim q) := by
      rw [State.claim, State.claim, List.getD_eq_getElem _ _ hq, List.getD_eq_getElem _ _ hqx, List.getElem_mapIdx]
    rw [hclaim]
    by_contra ho
    obtain ⟨hk, hs, hp, hphase⟩ := opens_iff.mp (Bool.not_eq_false _ ▸ ho)
    unfold parkedOf at hk hs hphase
    split at hphase
    · rcases hphase with h | h | h | h <;> cases h
    · rename_i hnot
      rw [if_neg hnot] at hk hs
      have hnf : (x.claim q).phase ≠ .free := by rcases hphase with h | h | h | h <;> rw [h] <;> nofun
      have hq : q ∉ closingRecords .voice n s := fun h => hnot ⟨h, hnf⟩
      obtain ⟨hcls, hkeep⟩ := hother q
      have hu : (urgentIf (closeReleases n s) u).claim q = s.claim q := by rw [hends.claim, if_neg fun k => hq k.1]
      rw [hu] at hcls hkeep
      have hsame : x.claim q = s.claim q :=
        (hkeep (by rw [← hcls, hk]; nofun)).resolve_right hnf
      rw [hsame] at hk hs hphase hnf
      refine hq ((hmem q).mpr (closes_iff.mpr ⟨hk, hs, hnf, ?_⟩))
      rcases hphase with h | h | h | h <;> rw [h] <;> nofun
  refine ⟨commitGrant .voice .closed none { x with claims := closeParked n s }, ?_, rfl, hxloans, ?_, hxchan, ?_, ?_, hclosed,
    fun q hq => ?_⟩
  · have hfold : (closingRecords .voice n s).foldl parkRemaining x = { x with claims := closeParked n s } := by
      rw [parkRemaining_foldl, hparked]
    have hlength : (urgentIf (closeReleases n s) u).loans.length = u.loans.length := rfl
    rw [← hfold, ← hunwound, ← hlength, ← hu]; rfl
  · rw [commitGrant_grants, hxgrants, hframe'.clock]; rfl
  · unfold commitGrant
    by_cases hm : grantEntries (closeParked n s) .voice = s.grants.voice.entries
    · have hk : grantMoved { x with claims := closeParked n s } .voice = false :=
        decide_eq_false (not_not.mpr (by rw [hxgrants]; exact hm))
      simp only [hk]
      exact hxattn.trans (if_pos hm).symm
    · have hk : grantMoved { x with claims := closeParked n s } .voice = true := decide_eq_true (by rw [hxgrants]; exact hm)
      simp only [hk, if_true]
      refine Eq.trans ?_ (if_neg hm).symm
      rw [← hxattn]; rfl
  · exact hframe'.trans (OnlyClaims.trans (t := { x with claims := closeParked n s }) (by constructor <;> rfl)
      (commitGrant_frame .voice .closed none _))
  · exact fun hm => hrecords q hq (hxengine ▸ hm)

/-- The close of an open call, as an event (R94). -/
theorem closeCall_closed {n : Nat} {s : State} (hlen : s.claims.length = 20) (hopen : slotOpen s .voice n = true) :
    CallClosed n s (closeCall n s) := by
  obtain ⟨v, hv, hclaims, hloans, hgrants, hchan, hattn, hframe, hclosed, hrecords⟩ := closeCall_base n hlen
  rw [callClosed_iff]
  refine ⟨fun h => (by rw [hopen] at h; cases h), fun _ => ?_⟩
  rw [hv]
  refine ⟨(grantReturns_onlyData v).slotOpen nofun hclosed, fun q _ hq hm => ?_, ?_⟩
  · exact hrecords q hq ((grantReturns_onlyData v).records q hm)
  · exact (grantReturns_returnsGranted v).congr hclaims.symm hloans.symm hgrants.symm hchan.symm hattn.symm
      hframe.clock.symm hframe.demand.symm hframe.loader.symm

theorem settledBy_length (p : List ClaimRecord × Bool) (e : LoanEntry) : (settledBy p e).1.length = p.1.length := by
  unfold settledBy; dsimp only
  split
  · split
    · split
      · split
        · rw [List.length_set, List.length_set]
        · rw [List.length_set]
      · rw [List.length_set]
    · rw [List.length_set]
  · rfl

theorem closeParked_length (n : Nat) (s : State) : (closeParked n s).length = s.claims.length := by
  have hfold : ∀ (l : List LoanEntry) p, (l.foldl settledBy p).1.length = p.1.length := by
    intro l
    induction l with
    | nil => exact fun _ => rfl
    | cons e l ih => exact fun p => (ih _).trans (settledBy_length p e)
  rw [closeParked, List.length_mapIdx, closeSettled, hfold, closedClaims, List.length_mapIdx]

/-- The grants of the other services, and the number of records, after a close (R94, R96). -/
theorem closeCall_keeps {n : Nat} {s : State} (hlen : s.claims.length = 20) : (closeCall n s).claims.length = 20 ∧
    (closeCall n s).grants.video = s.grants.video ∧ (closeCall n s).grants.voice =
      s.grants.voice.after (grantEntries (closeCall n s).claims .voice) .closed s.clock.stamp none := by
  obtain ⟨v, hv, hclaims, -, hgrants, -⟩ := closeCall_base n hlen
  have hdata := grantReturns_onlyData v
  rw [hv]
  refine ⟨by rw [hdata.length, hclaims, closeParked_length, hlen], by rw [hdata.video, hgrants]; rfl, ?_⟩
  rw [hdata.grantEntries (k := .voice) (nofun : ServiceClass.voice ≠ .data), hdata.voice, hgrants, hclaims]; rfl

/-! ### A close whose returns stay within the ceiling -/

/-- A data count within the ceiling is granted without a trim (R147). -/
theorem ReturnsGranted.withinCeiling {v t : State} (h : ReturnsGranted v t) (hd : dataCount v ≤ v.demand.ceiling) :
    t.claims = v.claims ∧ t.loans = v.loans ∧ t.chan = v.chan ∧
      t.grants.data = v.grants.data.after (grantEntries t.claims .data) .returned v.clock.stamp none := by
  by_cases hm : grantEntries v.claims .data = v.grants.data.entries
  · obtain ⟨hclaims, hloans, hgrants, hchan, -⟩ := h.unmoved hm
    refine ⟨hclaims, hloans, hchan, ?_⟩
    rw [hgrants, hclaims, hm, GrantRecord.after, if_pos rfl]
  · obtain ⟨hclaims, hloans, hchan, hgrants, -⟩ := h.within hm hd
    refine ⟨hclaims, hloans, hchan, ?_⟩
    rw [hgrants, hclaims]

theorem popped_stops {l : List LoanEntry} (h : ∀ e ∈ l.getLast?, e.state = .out) :
    poppedEntries l = [] ∧ remainingEntries l = l := by
  rcases List.eq_nil_or_concat l with hl | ⟨m, e, hl⟩
  · rw [hl]; exact ⟨rfl, rfl⟩
  · rw [List.concat_eq_append] at hl
    have he : e.state = .out := h e (by rw [hl, List.getLast?_concat]; rfl)
    rw [hl, popped_concat, remaining_concat, if_pos he, if_pos he]; exact ⟨rfl, rfl⟩

theorem getD_mapIdx {α : Type} {f : Nat → α → α} {d : α} (l : List α) {q : Nat} (h : f q d = d) :
    (l.mapIdx f).getD q d = f q (l.getD q d) := by
  by_cases hq : q < l.length
  · rw [List.getD_eq_getElem _ _ (by simpa using hq), List.getD_eq_getElem _ _ hq, List.getElem_mapIdx]
  · rw [List.getD_eq_default _ _ (by simpa using Nat.le_of_not_lt hq), List.getD_eq_default _ _ (Nat.le_of_not_lt hq), h]

theorem closes_free {c : ClaimRecord} {n : Nat} (h : c.phase = .free) : c.closes n = false := by
  simp [ClaimRecord.closes, h]

theorem closedClaims_getD (n : Nat) (s : State) (q : Nat) : (closedClaims n s).getD q ClaimRecord.reset =
    if (s.claim q).closes n = true ∧ holdsLoan s q = false then (s.claim q).ended else s.claim q := by
  rw [closedClaims, getD_mapIdx _ (by rw [closes_free rfl]; rfl)]
  simp only [Bool.and_eq_true, Bool.not_eq_true']; rfl

theorem closeParked_getD (n : Nat) (s : State) (q : Nat) : (closeParked n s).getD q ClaimRecord.reset =
    let c := (closeSettled n s).1.getD q ClaimRecord.reset
    if (s.claim q).closes n = true ∧ holdsLoan s q = true ∧ c.phase ≠ .free then c.park else c := by
  rw [closeParked, getD_mapIdx _ (by rw [show (ClaimRecord.reset.phase != .free) = false from rfl, Bool.and_false]; rfl)]
  simp only [Bool.and_eq_true, bne_iff_ne, and_assoc]; rfl

theorem dataCount_congr {s t : State} (hl : t.claims.length = s.claims.length)
    (h : ∀ q, (t.claim q).dataTiles = (s.claim q).dataTiles) : dataCount t = dataCount s := by
  rw [dataCount_eq, dataCount_eq]
  refine congrArg List.sum (List.ext_getElem (by simpa using hl) fun q hq hq' => ?_)
  rw [List.length_map] at hq hq'
  have := h q
  rw [State.claim, State.claim, List.getD_eq_getElem _ _ hq, List.getD_eq_getElem _ _ hq'] at this
  rw [List.getElem_map, List.getElem_map, this]

theorem dataTiles_not_data {c : ClaimRecord} (h : c.isData = false) : c.dataTiles = 0 := by
  simp [ClaimRecord.dataTiles, h]

theorem closes_not_data {c : ClaimRecord} {n : Nat} (h : c.closes n = true) : c.isData = false := by
  simp [ClaimRecord.isData, (closes_iff.mp h).1]

theorem ended_not_data {c : ClaimRecord} : c.ended.isData = false := by simp [ClaimRecord.isData, ClaimRecord.ended]

section
variable {n : Nat} {s : State}

theorem closeSettled_stops (h : ∀ y ∈ (closedLoans n s).getLast?, y.state = .out) :
    closeSettled n s = (closedClaims n s, closeReleases n s) ∧ (closeBase n s).loans = closedLoans n s := by
  obtain ⟨hpop, hremain⟩ := popped_stops h
  exact ⟨by rw [closeSettled, hpop]; rfl, hremain⟩

theorem closeReleases_of_run {q : Nat} (hq : q < 20) (hc : (s.claim q).closes n = true) (hl : holdsLoan s q = false)
    (hx : (s.claim q).run.isSome = true) : closeReleases n s = true :=
  List.any_eq_true.mpr ⟨q, List.mem_range.mpr hq, by simp [hc, hl, hx]⟩

theorem closeReleases_without (h : ∀ q < 20, (s.claim q).closes n = true → (s.claim q).run = none) :
    closeReleases n s = false := by
  refine List.any_eq_false.mpr fun q hq hr => ?_
  obtain ⟨⟨hc, -⟩, hx⟩ := by simpa only [Bool.and_eq_true] using hr
  rw [h q (List.mem_range.mp hq) hc] at hx; cases hx

/-- A close of a call that holds no loan (R94). -/
theorem closeBase_unlent (hno : ∀ q, (s.claim q).closes n = true → holdsLoan s q = false)
    (hout : ∀ y ∈ s.loans.getLast?, y.state = .out) :
    (closeBase n s).loans = s.loans ∧ dataCount (closeBase n s) = dataCount s ∧
    (∀ q, (closeBase n s).claim q = if (s.claim q).closes n = true then (s.claim q).ended else s.claim q) ∧
    (closeBase n s).chan = (urgentIf (closeReleases n s) s).chan := by
  have hloans : closedLoans n s = s.loans := by
    refine List.ext_getElem? fun i => ?_
    rw [closedLoans, List.getElem?_mapIdx]
    cases s.loans[i]? with
    | none => rfl
    | some e =>
      refine congrArg some (if_neg fun h => ?_)
      obtain ⟨⟨hc, hh⟩, -⟩ := by simpa only [Bool.and_eq_true] using h
      rw [hno _ hc] at hh; cases hh
  obtain ⟨hsettled, hremain⟩ := closeSettled_stops (n := n) (s := s) (by rw [hloans]; exact hout)
  have hclaim : ∀ q, (closeBase n s).claim q = if (s.claim q).closes n = true then (s.claim q).ended else s.claim q := by
    intro q
    refine (closeParked_getD n s q).trans ?_
    rw [hsettled]; dsimp only
    rw [closedClaims_getD, if_neg fun h => by rw [hno q h.1] at h; cases h.2.1]
    exact if_congr ⟨fun h => h.1, fun h => ⟨h, hno q h⟩⟩ rfl rfl
  refine ⟨hremain.trans hloans, dataCount_congr (closeParked_length n s) fun q => ?_, hclaim, ?_⟩
  · rw [hclaim]; split
    · rename_i hc
      rw [dataTiles_not_data (closes_not_data hc), dataTiles_not_data ended_not_data]
    · rfl
  · simp only [closeBase, hsettled]; rfl

end

/-- Record `b` alone of the call holds a loan, by entry `i` (R155). -/
structure SoleLoan (n : Nat) (s : State) (b i : Nat) (e : LoanEntry) : Prop where
  closes : (s.claim b).closes n = true
  onLoan : (s.claim b).onLoan = some i
  others : ∀ q, q ≠ b → (s.claim q).closes n = true → (s.claim q).onLoan = none
  entry : s.loans[i]? = some e
  borrower : e.borrower = b
  generation : e.borrowerGeneration = (s.claim b).generation
  out : e.state = .out
  phase : (s.claim b).phase = .held ∨ (s.claim b).phase = .moving ∨ (s.claim b).phase = .draining
  run : (s.claim b).run = some ⟨e.tile, 1⟩

namespace SoleLoan

variable {n b i : Nat} {s : State} {e : LoanEntry}

theorem holds (h : SoleLoan n s b i e) : holdsLoan s b = true :=
  holdsLoan_iff.mpr ⟨i, e, h.onLoan, h.entry, h.borrower, h.generation, h.out⟩

theorem holds_iff (h : SoleLoan n s b i e) {q : Nat} (hq : (s.claim q).closes n = true) : holdsLoan s q = true ↔ q = b := by
  refine ⟨fun hh => by_contra fun hne => ?_, fun hqb => hqb ▸ h.holds⟩
  rw [holdsLoan_without (h.others q hne hq)] at hh; cases hh

theorem closedLoans_eq (h : SoleLoan n s b i e) : closedLoans n s = s.loans.set i { e with state := .returned } := by
  have hi := (List.getElem?_eq_some_iff.mp h.entry).1
  refine List.ext_getElem? fun k => ?_
  rw [closedLoans, List.getElem?_mapIdx, List.getElem?_set]
  by_cases hk : i = k
  · subst hk
    rw [if_pos rfl, if_pos hi, h.entry, Option.map_some, if_pos]
    simp [h.borrower, h.closes, h.holds, h.onLoan]
  · rw [if_neg hk]
    cases s.loans[k]? with
    | none => rfl
    | some f =>
      refine congrArg some (if_neg fun hf => ?_)
      obtain ⟨⟨hc, hh⟩, hon⟩ := by simpa only [Bool.and_eq_true, beq_iff_eq] using hf
      rw [(h.holds_iff hc).mp hh, h.onLoan] at hon
      exact hk (Option.some.inj hon)

/-- The records with the others of the call ended. -/
theorem closed_claim (h : SoleLoan n s b i e) (q : Nat) : ({ s with claims := closedClaims n s } : State).claim q =
    if q ≠ b ∧ (s.claim q).closes n = true then (s.claim q).ended else s.claim q := by
  refine (closedClaims_getD n s q).trans (if_congr ?_ rfl rfl)
  rw [and_comm, and_congr_left_iff]
  intro hc
  rw [← Bool.not_eq_true, h.holds_iff hc]

theorem closed_dataCount (h : SoleLoan n s b i e) : dataCount { s with claims := closedClaims n s } = dataCount s := by
  refine dataCount_congr (by simp [closedClaims]) fun q => ?_
  rw [h.closed_claim]; split
  · rename_i hc
    rw [dataTiles_not_data (closes_not_data hc.2), dataTiles_not_data ended_not_data]
  · rfl

/-- A record of a close that parks none but, if the unwinding has left it, the borrower. -/
theorem base_claim (h : SoleLoan n s b i e) {q : Nat} {c : ClaimRecord} (hc : (closeSettled n s).1.getD q ClaimRecord.reset = c)
    (hfree : q = b → c.phase = .free) : (closeBase n s).claim q = c := by
  refine (closeParked_getD n s q).trans ?_
  rw [hc]; dsimp only
  exact if_neg fun ⟨hq, hh, hp⟩ => hp (hfree ((h.holds_iff hq).mp hh))

/-- A buried loan: the borrower is PARKED (R155). -/
theorem buried (h : SoleLoan n s b i e) (hlt : i + 1 < s.loans.length) (hout : ∀ y ∈ s.loans.getLast?, y.state = .out) :
    (closeBase n s).loans = s.loans.set i { e with state := .returned } ∧ dataCount (closeBase n s) = dataCount s ∧
    (closeBase n s).claim b = (s.claim b).park ∧
    ∀ q, q ≠ b → (closeBase n s).claim q = if (s.claim q).closes n = true then (s.claim q).ended else s.claim q := by
  have hlast : (s.loans.set i { e with state := .returned }).getLast? = s.loans.getLast? := by
    rw [List.getLast?_eq_getElem?, List.getLast?_eq_getElem?, List.length_set, List.getElem?_set_ne (by omega)]
  obtain ⟨hsettled, hremain⟩ := closeSettled_stops (n := n) (s := s) (by rw [h.closedLoans_eq, hlast]; exact hout)
  have hclaim : ∀ q, (closeSettled n s).1.getD q ClaimRecord.reset =
      if q ≠ b ∧ (s.claim q).closes n = true then (s.claim q).ended else s.claim q := fun q => by
    rw [hsettled]; exact h.closed_claim q
  have hb : (closeBase n s).claim b = (s.claim b).park := by
    refine (closeParked_getD n s b).trans ?_
    have hsame : (closeSettled n s).1.getD b ClaimRecord.reset = s.claim b := (hclaim b).trans (if_neg fun k => k.1 rfl)
    rw [hsame]
    exact if_pos ⟨h.closes, h.holds, (closes_iff.mp h.closes).2.2.1⟩
  have hq : ∀ q, q ≠ b → (closeBase n s).claim q = if (s.claim q).closes n = true then (s.claim q).ended else s.claim q :=
    fun q hq => (h.base_claim (hclaim q) fun k => absurd k hq).trans (if_congr (and_iff_right hq) rfl rfl)
  refine ⟨hremain.trans h.closedLoans_eq, ?_, hb, hq⟩
  rw [← h.closed_dataCount]
  refine dataCount_congr (by rw [show (closeBase n s).claims = closeParked n s from rfl, closeParked_length]; simp [closedClaims])
    fun q => ?_
  rw [h.closed_claim]
  by_cases hqb : q = b
  · subst hqb
    rw [hb, if_neg fun k => k.1 rfl, dataTiles_not_data (closes_not_data h.closes), dataTiles_not_data]
    simp [ClaimRecord.isData, ClaimRecord.park]
  · rw [hq q hqb, if_congr (and_iff_right hqb) rfl rfl]

/-! A loan on top of the stack: its entry is popped (R158). -/

theorem answers (h : SoleLoan n s b i e) :
    answersFor { e with state := .returned } { s with claims := closedClaims n s } = true := by
  have hb : ({ s with claims := closedClaims n s } : State).claim e.borrower = s.claim b := by
    rw [h.borrower, h.closed_claim, if_neg fun k => k.1 rfl]
  refine answersFor_iff.mpr ⟨?_, ?_, ?_⟩ <;> dsimp only <;> rw [hb]
  · exact .inr h.phase
  · exact h.generation.symm
  · exact h.run

theorem returnsHome_iff (h : SoleLoan n s b i e) {l : Nat} :
    returnsHome { e with state := .returned } { s with claims := closedClaims n s } = some l ↔
      returnsHome e s = some l := by
  have hl : ∀ x, (({ s with claims := closedClaims n s } : State).claim l).cls = .data ∧
      (({ s with claims := closedClaims n s } : State).claim l).run = some x ↔
      (s.claim l).cls = .data ∧ (s.claim l).run = some x := fun x => by
    rw [h.closed_claim]; split
    · rename_i hc
      have hk := (closes_iff.mp hc.2).1
      rw [show (s.claim l).ended.cls = (s.claim l).cls from rfl, hk]; simp
    · rfl
  rw [returnsHome_eq_some, returnsHome_eq_some]
  refine and_congr_right fun _ => exists_congr fun x => ?_
  constructor
  · rintro ⟨hx, hd, hrest⟩
    have hd' := ((hl x).mp ⟨hd, hx⟩).1
    have hc : ¬(l ≠ b ∧ (s.claim l).closes n = true) := fun k => by
      have := (closes_iff.mp k.2).1
      rw [hd'] at this; cases this
    rw [h.closed_claim, if_neg hc] at hx hd hrest
    exact ⟨hx, hd, hrest⟩
  · rintro ⟨hx, hd, hrest⟩
    have hc : ¬(l ≠ b ∧ (s.claim l).closes n = true) := fun k => by
      have := (closes_iff.mp k.2).1
      rw [hd] at this; cases this
    rw [h.closed_claim, if_neg hc]
    exact ⟨hx, hd, hrest⟩

theorem settled_top (h : SoleLoan n s b i e) (htop : i + 1 = s.loans.length)
    (hbelow : ∀ y ∈ s.loans.dropLast.getLast?, y.state = .out) : (closeBase n s).loans = s.loans.dropLast ∧
      closeSettled n s = settledBy (closedClaims n s, closeReleases n s) { e with state := .returned } := by
  obtain ⟨hpop, hremain⟩ := popped_stops hbelow
  have hloans : closedLoans n s = s.loans.dropLast ++ [{ e with state := .returned }] := by
    rw [h.closedLoans_eq, set_top htop]
  refine ⟨?_, ?_⟩
  · show remainingEntries (closedLoans n s) = _
    rw [hloans, remaining_concat, if_neg nofun, hremain]
  · rw [closeSettled, hloans, popped_concat, if_neg nofun, hpop]; rfl

/-- The loan of a closed call goes home to a lender that can take it (R158). -/
theorem home (h : SoleLoan n s b i e) (htop : i + 1 = s.loans.length) (hbelow : ∀ y ∈ s.loans.dropLast.getLast?, y.state = .out)
    {l : Nat} {x : Run} (hl : returnsHome e s = some l) (hx : (s.claim l).run = some x) :
    (closeBase n s).loans = s.loans.dropLast ∧ dataCount (closeBase n s) = dataCount s + 1 ∧
    (closeBase n s).claim l = { s.claim l with run := some ⟨x.first, x.width + 1⟩, width := x.width + 1 } ∧
    ∀ q, q ≠ l → (closeBase n s).claim q = if (s.claim q).closes n = true then (s.claim q).ended else s.claim q := by
  obtain ⟨hloans, hsettled⟩ := h.settled_top htop hbelow
  obtain ⟨-, y, hy, hdata, hheld, -⟩ := returnsHome_eq_some.mp hl
  obtain rfl : y = x := Option.some.inj (hy.symm.trans hx)
  have hlb : l ≠ b := fun k => by rw [k, (closes_iff.mp h.closes).1] at hdata; cases hdata
  have hlc : (s.claim l).closes n = false := by
    rw [← Bool.not_eq_true]; exact fun k => by rw [(closes_iff.mp k).1] at hdata; cases hdata
  set F : State := { s with claims := closedClaims n s } with hF
  have hFclaim := h.closed_claim
  rw [← hF] at hFclaim
  have hFl : F.claim l = s.claim l := by rw [hFclaim, if_neg fun k => by rw [hlc] at k; cases k.2]
  have hFb : F.claim b = s.claim b := by rw [hFclaim, if_neg fun k => k.1 rfl]
  have hlt : l < F.claims.length := lt_length_of_run (hFl ▸ hx)
  have hbt : b < F.claims.length := lt_length_of_run (hFb ▸ h.run)
  have hhome : returnsHome { e with state := .returned } F = some l := h.returnsHome_iff.mpr hl
  have hwide : (F.claim l).widened widenUp = { s.claim l with run := some ⟨y.first, y.width + 1⟩, width := y.width + 1 } := by
    rw [hFl, ClaimRecord.widened, hx]; rfl
  have hended : (F.claim b).unrun.freed = (s.claim b).ended := by rw [hFb, unrun_freed_eq_ended h.run]
  have hclaims : (closeSettled n s).1 = (setClaim b (s.claim b).ended (setClaim l
      { s.claim l with run := some ⟨y.first, y.width + 1⟩, width := y.width + 1 } F)).claims := by
    have hby := settledBy_answers (e := { e with state := .returned }) rfl h.answers (closeReleases n s)
    rw [hhome] at hby
    rw [hsettled, hby]
    dsimp only
    rw [h.borrower, mergeInto, hwide, hended]
  have hget : ∀ q, (closeSettled n s).1.getD q ClaimRecord.reset = if q = b then (s.claim b).ended else if q = l then
      { s.claim l with run := some ⟨y.first, y.width + 1⟩, width := y.width + 1 } else F.claim q := fun q => by
    rw [hclaims]
    refine (claim_setClaim b q _ _).trans (if_congr (and_iff_left (by simpa using hbt)) rfl ?_)
    exact (claim_setClaim l q _ _).trans (if_congr (and_iff_left hlt) rfl rfl)
  have hclaim : ∀ q, (closeBase n s).claim q = if q = b then (s.claim b).ended else if q = l then
      { s.claim l with run := some ⟨y.first, y.width + 1⟩, width := y.width + 1 } else F.claim q := fun q =>
    h.base_claim (hget q) fun k => by rw [if_pos k]; rfl
  refine ⟨hloans, ?_, by rw [hclaim, if_neg hlb, if_pos rfl], fun q hq => ?_⟩
  · have hsame : dataCount (closeBase n s) = dataCount (setClaim b (s.claim b).ended (setClaim l
        { s.claim l with run := some ⟨y.first, y.width + 1⟩, width := y.width + 1 } F)) := by
      refine dataCount_congr ?_ fun q => ?_
      · rw [show (closeBase n s).claims = closeParked n s from rfl, closeParked_length]; simp [hF, closedClaims]
      · rw [hclaim, ← hget, hclaims]; rfl
    have hbsum := sum_setClaim (f := ClaimRecord.dataTiles) (r := b) (s.claim b).ended (s := setClaim l
      { s.claim l with run := some ⟨y.first, y.width + 1⟩, width := y.width + 1 } F) (by simpa using hbt)
    have hlsum := sum_setClaim (f := ClaimRecord.dataTiles)
      { s.claim l with run := some ⟨y.first, y.width + 1⟩, width := y.width + 1 } hlt
    have hdl : (s.claim l).isData = true := isData_iff.mpr ⟨hdata, .inr hheld⟩
    have hone : ClaimRecord.dataTiles { s.claim l with run := some ⟨y.first, y.width + 1⟩, width := y.width + 1 } =
        (s.claim l).dataTiles + 1 := by
      have hd' : ClaimRecord.isData { s.claim l with run := some ⟨y.first, y.width + 1⟩, width := y.width + 1 } = true := hdl
      simp [ClaimRecord.dataTiles, hdl, hd', ClaimRecord.runWidth, hx]
    have hzero := dataTiles_not_data (closes_not_data h.closes)
    rw [claim_setClaim_other _ hlb.symm, hFb, hzero, dataTiles_not_data ended_not_data] at hbsum
    rw [hFl, hone, ← dataCount_eq, ← dataCount_eq, h.closed_dataCount] at hlsum
    rw [← dataCount_eq, ← dataCount_eq] at hbsum
    rw [hsame]
    omega
  · rw [hclaim]
    by_cases hqb : q = b
    · rw [if_pos hqb, hqb, if_pos h.closes]
    · rw [if_neg hqb, if_neg hq, hFclaim, if_congr (and_iff_right hqb) rfl rfl]

/-- The loan of a closed call whose lender cannot take the tile: it is released (R159). -/
theorem released (h : SoleLoan n s b i e) (htop : i + 1 = s.loans.length)
    (hbelow : ∀ y ∈ s.loans.dropLast.getLast?, y.state = .out) (hnone : returnsHome e s = none) :
    (closeBase n s).loans = s.loans.dropLast ∧ dataCount (closeBase n s) = dataCount s ∧
    (closeBase n s).chan = (urgentIf true s).chan ∧
    ∀ q, (closeBase n s).claim q = if (s.claim q).closes n = true then (s.claim q).ended else s.claim q := by
  obtain ⟨hloans, hsettled⟩ := h.settled_top htop hbelow
  set F : State := { s with claims := closedClaims n s } with hF
  have hFclaim := h.closed_claim
  rw [← hF] at hFclaim
  have hFb : F.claim b = s.claim b := by rw [hFclaim, if_neg fun k => k.1 rfl]
  have hbt : b < F.claims.length := lt_length_of_run (hFb ▸ h.run)
  have hhome : returnsHome { e with state := .returned } F = none := by
    rw [Option.eq_none_iff_forall_ne_some]
    intro l hl
    rw [h.returnsHome_iff.mp hl] at hnone; cases hnone
  have hpair : closeSettled n s = ((setClaim b (s.claim b).ended F).claims, true) := by
    have hby := settledBy_answers (e := { e with state := .returned }) rfl h.answers (closeReleases n s)
    rw [hhome] at hby
    rw [hsettled, hby]
    dsimp only
    rw [h.borrower, hFb]; rfl
  have hget : ∀ q, (closeSettled n s).1.getD q ClaimRecord.reset = if q = b then (s.claim b).ended else F.claim q := fun q => by
    rw [hpair]
    exact (claim_setClaim b q _ _).trans (if_congr (and_iff_left hbt) rfl rfl)
  have hclaim : ∀ q, (closeBase n s).claim q = if (s.claim q).closes n = true then (s.claim q).ended else s.claim q := fun q => by
    refine (h.base_claim (hget q) fun k => by rw [if_pos k]; rfl).trans ?_
    split
    · rename_i hqb; rw [hqb, if_pos h.closes]
    · rename_i hqb; rw [hFclaim, if_congr (and_iff_right hqb) rfl rfl]
  refine ⟨hloans, dataCount_congr (closeParked_length n s) fun q => ?_, ?_, hclaim⟩
  · rw [hclaim]; split
    · rename_i hc
      rw [dataTiles_not_data (closes_not_data hc), dataTiles_not_data ended_not_data]
    · rfl
  · simp only [closeBase, hpair, urgentIf]

end SoleLoan

/-! ### The request -/

theorem exec_closeCall {n : Byte} {s : State} (hr : s.loader.inReset = false) (hcode : s.link.state = .code)
    (hl : s.loader.part ≠ .loading) (hf : s.loader.part ≠ .fault) (hn : n.toNat ≤ 3) : exec (.closeCall n) s = .next
      { settle (closeLine n.toNat (clockBytes [0x14, n] s)) with link := s.link.replying 0x14 [n] [0xA0] } := by
  have hexec : exec (.closeCall n) s = .next (serveCloseCall n (clockBytes [0x14, n] s)) :=
    (outOfReset_released hr _).trans (congrArg _ (transact_code (c := .closeCall n) rfl rfl hcode))
  have hlink : (settle (closeLine n.toNat (clockBytes [0x14, n] s))).link = (clockBytes [0x14, n] s).link := by
    rw [(settle_frame _).link]
    unfold closeLine; split
    · exact (closeCall_frame n.toNat _).link
    · rfl
  rw [hexec]
  exact congrArg _ (takeRequest_ok (code := 0x14) (args := [n]) hcode rfl (checkDemand_ok hl hf (slotArg_ok hn)) hlink)

/-- What a closed line leaves, the rest of the step with it (R94, R167). -/
theorem settle_closeLine {n : Nat} {v : State} (hlen : v.claims.length = 20) :
    OnlyClaims { v with lines := v.lines.set n ⟨false, false⟩ } (settle (closeLine n v)) ∧
    (settle (closeLine n v)).claims.length = 20 ∧ CallClosed n v (settle (closeLine n v)) ∧
    (slotOpen v .voice n = true → (settle (closeLine n v)).grants.video = v.grants.video ∧
      (settle (closeLine n v)).grants.voice =
        v.grants.voice.after (grantEntries (settle (closeLine n v)).claims .voice) .closed v.clock.stamp none) := by
  have hset := settle_frame (closeLine n v)
  cases hopen : slotOpen v .voice n with
  | false =>
    have hline : closeLine n v = setLine n ⟨false, false⟩ v := by rw [closeLine, hopen]; rfl
    rw [hline] at hset ⊢
    refine ⟨hset.claimsFrame, by rw [hset.claims]; exact hlen, callClosed_iff.mpr ⟨fun _ => ?_, fun h => ?_⟩, nofun⟩
    · exact ⟨hset.claims, hset.loans, hset.grants, hset.chan, hset.attn⟩
    · rw [hopen] at h; cases h
  | true =>
    have hline : closeLine n v = setLine n ⟨false, false⟩ (closeCall n v) := by rw [closeLine, hopen]; rfl
    obtain ⟨hlength, hvideo, hvoice⟩ := closeCall_keeps (n := n) hlen
    obtain ⟨-, hclosed⟩ := callClosed_iff.mp (closeCall_closed (n := n) hlen hopen)
    obtain ⟨hslot, hrecords, hreturns⟩ := hclosed hopen
    have hframe : OnlyClaims { v with lines := v.lines.set n ⟨false, false⟩ } (setLine n ⟨false, false⟩ (closeCall n v)) := by
      have h := closeCall_frame n v
      exact { h with lines := congrArg (·.set n ⟨false, false⟩) h.lines }
    have hreturned : ReturnsGranted (closeBase n v) (setLine n ⟨false, false⟩ (closeCall n v)) :=
      ⟨hreturns.unmoved, hreturns.within, hreturns.above⟩
    rw [hline] at hset ⊢
    refine ⟨hframe.trans hset.claimsFrame, by rw [hset.claims]; exact hlength, callClosed_iff.mpr ⟨fun h => ?_, fun _ => ?_⟩,
      fun _ => ?_⟩
    · rw [hopen] at h; cases h
    · refine ⟨?_, fun q hq hc hm => hrecords q hq hc (settle_records (s := setLine n ⟨false, false⟩ (closeCall n v)) hm), hreturned.settled hset⟩
      rw [slotOpen, hset.claims]; exact hslot
    · rw [hset.claims, hset.grants]; exact ⟨hvideo, hvoice⟩

/-- A close depends on, and shows in, the Claim Table's blocks and the engine only. -/
theorem CallClosed.withLink {n : Nat} {s t : State} (h : CallClosed n s t) (l m : Link) (lines : List CallLine) :
    CallClosed n { s with link := l, lines := lines } { t with link := m } := by
  obtain ⟨hshut, hopen⟩ := callClosed_iff.mp h
  refine callClosed_iff.mpr ⟨hshut, fun ho => ?_⟩
  obtain ⟨hslot, hrecords, hreturns⟩ := hopen ho
  have hgranted : ReturnsGranted (closeBase n s) { t with link := m } := ⟨hreturns.unmoved, hreturns.within, hreturns.above⟩
  exact ⟨hslot, hrecords, hgranted.congr rfl rfl rfl rfl rfl rfl rfl rfl⟩

/-- Settles O47: the event is `CallClosed`, and what it comes to where the calls of the entries above and below are open. -/
theorem closeCallReturnsOrParks : Obligations.CloseCallReturnsOrParks := by
  intro n s hr hcode hl hf hn hlen
  rw [exec_closeCall hr hcode hl hf hn]
  obtain ⟨hframe, hlength, hclosed, hgrants⟩ := settle_closeLine (n := n.toNat) (v := clockBytes [0x14, n] s) hlen
  generalize settle (closeLine n.toNat (clockBytes [0x14, n] s)) = t at hframe hlength hclosed hgrants
  obtain ⟨hshut, hopened⟩ := callClosed_iff.mp hclosed
  refine ⟨_, rfl, hframe.withLink _, hlength, hclosed.withLink _ _ _, fun ho => ?shut, fun ho => (hopened ho).1,
    fun ho => hgrants ho, fun ho hcount => ?_⟩
  case shut =>
    obtain ⟨hclaims, hloans, hgr, -, -⟩ := hshut ho
    exact ⟨hclaims, hgr, hloans⟩
  intro closes after regranted urgent
  obtain ⟨-, -, hreturns⟩ := hopened ho
  have hwithin := fun hd => (hreturns.congr (w := closeBase n.toNat s) rfl rfl rfl rfl rfl rfl rfl rfl).withinCeiling hd
  clear hreturns
  have hcloses : ∀ q, (s.claim q).closes n.toNat = true ↔ closes q := fun q => closes_iff
  have hafter : ∀ q, (if (s.claim q).closes n.toNat = true then (s.claim q).ended else s.claim q) = after q :=
    fun q => if_congr (hcloses q) rfl rfl
  refine ⟨fun hno => ?unlent, fun b i e hb hcb hp hon hothers he hbor hgen hout hrun => ?lent⟩
  case unlent =>
    have hholds : ∀ q, (s.claim q).closes n.toNat = true → holdsLoan s q = false := fun q hq => by
      rcases hno with hnil | ⟨hnone, -⟩
      · rw [← Bool.not_eq_true, holdsLoan_iff]
        rintro ⟨i, e, -, he, -⟩
        rw [hnil] at he; cases he
      · exact holdsLoan_without (hnone q (closes_lt hlen hq) ((hcloses q).mp hq))
    have hlast : ∀ y ∈ s.loans.getLast?, y.state = .out := by
      rcases hno with hnil | ⟨-, hlast⟩
      · rw [hnil]; exact nofun
      · exact hlast
    obtain ⟨hloans, hsame, hclaim, hchan⟩ := closeBase_unlent hholds hlast
    obtain ⟨htc, htl, hth, htg⟩ := hwithin (hsame ▸ hcount)
    have hq : ∀ q, t.claim q = (closeBase n.toNat s).claim q := fun q => by rw [State.claim, htc]; rfl
    refine ⟨htl.trans hloans, htg, fun q _ => (hq q).trans ((hclaim q).trans (hafter q)), fun q hq hc hx => hth.trans (hchan.trans ?_), fun hnorun =>
      hth.trans (hchan.trans ?_)⟩
    · rw [closeReleases_of_run hq ((hcloses q).mpr hc) (hholds q ((hcloses q).mpr hc)) hx]
      simp only [urgentIf, true_and]; rfl
    · rw [closeReleases_without fun q hq hc => hnorun q hq ((hcloses q).mp hc), urgentIf_false]
  case lent =>
    intro home
    have hsole : SoleLoan n.toNat s b i e := ⟨(hcloses b).mpr hcb, hon,
      fun q hq hc => hothers q (closes_lt hlen hc) hq ((hcloses q).mp hc), he, hbor, hgen, hout, hp, hrun⟩
    have hhome : ∀ l x, (s.claim l).run = some x → (home l x ↔ returnsHome e s = some l) := fun l x hx => by
      rw [returnsHome_eq_some]
      constructor
      · rintro ⟨hlend, hd, hph, hg, -, hlast, hw⟩
        exact ⟨hlend, x, hx, hd, hph, hg, hlast, hw⟩
      · rintro ⟨hlend, y, hy, hd, hph, hg, hlast, hw⟩
        obtain rfl : y = x := Option.some.inj (hy.symm.trans hx)
        exact ⟨hlend, hd, hph, hg, hx, hlast, hw⟩
    refine ⟨fun hlt hlast => ?buried, fun htop hbelow => ⟨fun l x _ hl hroom _ => ?home, fun hnone => ?released⟩⟩
    case buried =>
      obtain ⟨hloans, hsame, hclaim, hclaims⟩ := hsole.buried hlt hlast
      obtain ⟨htc, htl, -, htg⟩ := hwithin (hsame ▸ hcount)
      have hq : ∀ q, t.claim q = (closeBase n.toNat s).claim q := fun q => by rw [State.claim, htc]; rfl
      exact ⟨htg, (hq b).trans hclaim, fun q _ hne => (hq q).trans ((hclaims q hne).trans (hafter q)), htl.trans hloans⟩
    case home =>
      obtain ⟨-, -, -, -, hx, -⟩ := id hl
      obtain ⟨hloans, hsame, hclaim, hclaims⟩ := hsole.home htop hbelow ((hhome l x hx).mp hl) hx
      obtain ⟨htc, htl, -, htg⟩ := hwithin (by rw [hsame]; exact hroom)
      have hq : ∀ q, t.claim q = (closeBase n.toNat s).claim q := fun q => by rw [State.claim, htc]; rfl
      exact ⟨htl.trans hloans, htg, (hq l).trans hclaim, fun q _ hne => (hq q).trans ((hclaims q hne).trans (hafter q))⟩
    case released =>
      have hret : returnsHome e s = none := by
        rw [Option.eq_none_iff_forall_ne_some]
        intro l hl
        obtain ⟨-, x, hx, -⟩ := returnsHome_eq_some.mp hl
        exact hnone l x ((hhome l x hx).mpr hl)
      obtain ⟨hloans, hsame, hchan, hclaims⟩ := hsole.released htop hbelow hret
      obtain ⟨htc, htl, hth, htg⟩ := hwithin (hsame ▸ hcount)
      have hq : ∀ q, t.claim q = (closeBase n.toNat s).claim q := fun q => by rw [State.claim, htc]; rfl
      refine ⟨htl.trans hloans, htg, hth.trans (hchan.trans ?_), fun q _ => (hq q).trans ((hclaims q).trans (hafter q))⟩
      simp only [urgentIf, true_and]; rfl

end Sys2Proof.Machine

/-! The form of the Claim Table, in parts that events keep one by one (R73 to R80, R95, R122, R149; for O59). -/

namespace Sys2Proof.Machine

/-! ### Links and slots -/

/-- What the laws of links and slots see of a record. -/
def ClaimRecord.linkView (c : ClaimRecord) : ServiceClass × Nat × Nat × Phase × Option Nat × Option Nat :=
  (c.cls, c.slot, c.width, c.phase, c.predecessor, c.successor)

theorem linkView_eq {c d : ClaimRecord} : c.linkView = d.linkView ↔ c.cls = d.cls ∧ c.slot = d.slot ∧ c.width = d.width ∧
    c.phase = d.phase ∧ c.predecessor = d.predecessor ∧ c.successor = d.successor := by
  simp [ClaimRecord.linkView]

/-- Record `q` names record `r` as its successor or predecessor. -/
def Linked (s : State) (q r : Nat) : Prop := (s.claim q).successor = some r ∨ (s.claim q).predecessor = some r

/-- A record with no link, and in no phase that asks for one. -/
def ClaimRecord.Solo (c : ClaimRecord) : Prop := c.predecessor = none ∧ c.successor = none ∧ c.phase ≠ .moving

theorem sharesSlot_iff {c d : ClaimRecord} : c.sharesSlot d = true ↔
    c.cls = d.cls ∧ c.slot = d.slot ∧ c.phase.keepsSlot = true ∧ d.phase.keepsSlot = true := by
  simp [ClaimRecord.sharesSlot, and_assoc]

/-- The links of all records, and the slots that they keep (R74, R95). -/
structure LinksForm (s : State) : Prop where
  link : ∀ r, LinkLaw s r
  slot : ∀ q r, q ≠ r → (s.claim q).sharesSlot (s.claim r) = true → Linked s q r

theorem linkLaw_of_solo {s : State} {r : Nat} (h : (s.claim r).Solo) : LinkLaw s r := by
  obtain ⟨hp, hs, hm⟩ := h
  refine ⟨fun p k => ?_, fun q k => ?_, fun k => absurd k hm⟩
  · rw [hp] at k; cases k
  · rw [hs] at k; cases k

namespace LinksForm

variable {s t : State}

/-- A successor and its predecessor, seen from the successor (R74, R80, R122). -/
theorem predecessor (h : LinksForm s) {r p : Nat} (hp : (s.claim r).predecessor = some p) : p < 20 ∧
    (s.claim p).successor = some r ∧ (s.claim r).cls ≠ .data ∧ (s.claim p).cls = (s.claim r).cls ∧
    (s.claim p).slot = (s.claim r).slot ∧ (s.claim p).width = (s.claim r).width ∧
    ((s.claim r).phase = .seeking ∧ (s.claim p).phase = .held ∨ (s.claim r).phase = .tentative ∧ (s.claim p).phase = .moving) :=
  (h.link r).1 p hp

theorem successor (h : LinksForm s) {r q : Nat} (hq : (s.claim r).successor = some q) :
    q < 20 ∧ (s.claim q).predecessor = some r := (h.link r).2.1 q hq

theorem linked_symm (h : LinksForm s) {q r : Nat} (hl : Linked s q r) : Linked s r q :=
  hl.elim (fun k => .inr (h.successor k).2) fun k => .inl (h.predecessor k).2.1

/-- A link joins a SEEKING or TENTATIVE successor and a HELD or MOVING predecessor. -/
theorem successor_phase (h : LinksForm s) {r q : Nat} (hq : (s.claim r).successor = some q) :
    (s.claim q).phase = .seeking ∧ (s.claim r).phase = .held ∨ (s.claim q).phase = .tentative ∧ (s.claim r).phase = .moving := by
  obtain ⟨-, -, -, -, -, -, hp⟩ := h.predecessor (h.successor hq).2
  exact hp

theorem ne_of_linked (h : LinksForm s) {q r : Nat} (hl : Linked s q r) : q ≠ r := by
  rintro rfl
  have hp : (s.claim q).predecessor = some q := hl.elim (fun k => (h.successor k).2) id
  obtain ⟨-, -, -, -, -, -, ⟨h1, h2⟩ | ⟨h1, h2⟩⟩ := h.predecessor hp <;> rw [h1] at h2 <;> cases h2

theorem predecessor_none (h : LinksForm s) {r : Nat} (h1 : (s.claim r).phase ≠ .seeking) (h2 : (s.claim r).phase ≠ .tentative) :
    (s.claim r).predecessor = none := by
  cases hp : (s.claim r).predecessor with
  | none => rfl
  | some p =>
    obtain ⟨-, -, -, -, -, -, ⟨k, -⟩ | ⟨k, -⟩⟩ := h.predecessor hp
    · exact absurd k h1
    · exact absurd k h2

theorem successor_none (h : LinksForm s) {r : Nat} (h1 : (s.claim r).phase ≠ .held) (h2 : (s.claim r).phase ≠ .moving) :
    (s.claim r).successor = none := by
  cases hq : (s.claim r).successor with
  | none => rfl
  | some q =>
    rcases h.successor_phase hq with ⟨-, k⟩ | ⟨-, k⟩
    · exact absurd k h1
    · exact absurd k h2

/-- A DATA record has no link (R122). -/
theorem data_solo (h : LinksForm s) {r : Nat} (hd : (s.claim r).cls = .data) : (s.claim r).Solo := by
  have hs : (s.claim r).successor = none := by
    cases hq : (s.claim r).successor with
    | none => rfl
    | some q =>
      obtain ⟨-, -, hne, hcls, -⟩ := h.predecessor (h.successor hq).2
      rw [hd] at hcls
      exact absurd hcls.symm hne
  refine ⟨?_, hs, fun hm => ?_⟩
  · cases hp : (s.claim r).predecessor with
    | none => rfl
    | some p => exact absurd hd (h.predecessor hp).2.2.1
  · have := (h.link r).2.2 hm
    rw [hs] at this; cases this

/-- A record that keeps no slot has no link. -/
theorem solo_of_not_keeps (h : LinksForm s) {r : Nat} (hk : (s.claim r).phase.keepsSlot = false) : (s.claim r).Solo := by
  refine ⟨h.predecessor_none ?_ ?_, h.successor_none ?_ ?_, ?_⟩ <;> intro hp <;> rw [hp] at hk <;> cases hk

theorem not_linked (h : (s.claim q).Solo) (r : Nat) : ¬Linked s q r := by
  rintro (k | k)
  · rw [h.2.1] at k; cases k
  · rw [h.1] at k; cases k

/-- A change of the records of `A`, which no link leaves. -/
theorem change (h : LinksForm s) (A : Nat → Prop) (hout : ∀ q, ¬A q → (t.claim q).linkView = (s.claim q).linkView)
    (hclosed : ∀ q p, A q → Linked s q p → A p) (hlink : ∀ q, A q → LinkLaw t q)
    (hslot : ∀ q r, A q → q ≠ r → (t.claim q).sharesSlot (t.claim r) = true → Linked t q r) : LinksForm t := by
  have hapart : ∀ q p, ¬A q → Linked s q p → ¬A p := fun q p hq hl hp => hq (hclosed p q hp (h.linked_symm hl))
  have hlinks : ∀ r, LinkLaw t r := by
    intro r
    by_cases hr : A r
    · exact hlink r hr
    · obtain ⟨hcls, hslot, hwidth, hphase, hpred, hsucc⟩ := linkView_eq.mp (hout r hr)
      refine ⟨fun p hp => ?_, fun q hq => ?_, fun hm => ?_⟩
      · rw [hpred] at hp
        obtain ⟨pcls, pslot, pwidth, pphase, -, psucc⟩ := linkView_eq.mp (hout p (hapart r p hr (.inr hp)))
        rw [hcls, hslot, hwidth, hphase, pcls, pslot, pwidth, pphase, psucc]
        exact h.predecessor hp
      · rw [hsucc] at hq
        obtain ⟨-, -, -, -, qpred, -⟩ := linkView_eq.mp (hout q (hapart r q hr (.inl hq)))
        rw [qpred]
        exact h.successor hq
      · rw [hphase] at hm
        rw [hsucc]; exact (h.link r).2.2 hm
  refine ⟨hlinks, fun q r hne hs => ?_⟩
  by_cases hq : A q
  · exact hslot q r hq hne hs
  · by_cases hr : A r
    · have hs' : (t.claim r).sharesSlot (t.claim q) = true := by
        obtain ⟨h1, h2, h3, h4⟩ := sharesSlot_iff.mp hs
        exact sharesSlot_iff.mpr ⟨h1.symm, h2.symm, h4, h3⟩
      rcases hslot r q hr hne.symm hs' with k | k
      · exact .inr ((hlinks r).2.1 q k).2
      · exact .inl ((hlinks r).1 q k).2.1
    · obtain ⟨hcls, hslot', -, hphase, hpred, hsucc⟩ := linkView_eq.mp (hout q hq)
      obtain ⟨rcls, rslot, -, rphase, -, -⟩ := linkView_eq.mp (hout r hr)
      obtain ⟨h1, h2, h3, h4⟩ := sharesSlot_iff.mp hs
      rw [hcls, rcls] at h1
      rw [hslot', rslot] at h2
      rw [hphase] at h3
      rw [rphase] at h4
      have := h.slot q r hne (sharesSlot_iff.mpr ⟨h1, h2, h3, h4⟩)
      unfold Linked at this ⊢
      rwa [hpred, hsucc]

/-- The records of `A`, which no link leaves, lose their links, and of two that were linked one keeps its slot at most. -/
theorem sever (h : LinksForm s) (A : Nat → Prop) (hout : ∀ q, ¬A q → (t.claim q).linkView = (s.claim q).linkView)
    (hclosed : ∀ q p, A q → Linked s q p → A p) (hsolo : ∀ q, A q → (t.claim q).Solo)
    (hkeep : ∀ q, A q → (t.claim q).phase.keepsSlot = true →
      (s.claim q).phase.keepsSlot = true ∧ (t.claim q).cls = (s.claim q).cls ∧ (t.claim q).slot = (s.claim q).slot)
    (hpair : ∀ q p, A q → Linked s q p → (t.claim q).phase.keepsSlot = true → (t.claim p).phase.keepsSlot = false) :
    LinksForm t := by
  refine h.change A hout hclosed (fun q hq => linkLaw_of_solo (hsolo q hq)) fun q r hq hne hs => ?_
  obtain ⟨h1, h2, h3, h4⟩ := sharesSlot_iff.mp hs
  obtain ⟨hk, hcls, hslot⟩ := hkeep q hq h3
  have hr : (s.claim r).phase.keepsSlot = true ∧ (t.claim r).cls = (s.claim r).cls ∧ (t.claim r).slot = (s.claim r).slot := by
    by_cases hr : A r
    · exact hkeep r hr h4
    · obtain ⟨rcls, rslot, -, rphase, -, -⟩ := linkView_eq.mp (hout r hr)
      exact ⟨rphase ▸ h4, rcls, rslot⟩
  have hl := h.slot q r hne (sharesSlot_iff.mpr ⟨by rw [← hcls, ← hr.2.1, h1], by rw [← hslot, ← hr.2.2, h2], hk, hr.1⟩)
  rw [hpair q r hq hl h3] at h4; cases h4

theorem congr (h : LinksForm s) (hv : ∀ q, (t.claim q).linkView = (s.claim q).linkView) : LinksForm t :=
  h.sever (fun _ => False) (fun q _ => hv q) nofun nofun nofun nofun

/-- One record without a link changes, and takes no slot. -/
theorem solo (h : LinksForm s) {r : Nat} (hr : (s.claim r).Solo) (ht : (t.claim r).Solo)
    (hout : ∀ q, q ≠ r → (t.claim q).linkView = (s.claim q).linkView)
    (hkeep : (t.claim r).phase.keepsSlot = true →
      (s.claim r).phase.keepsSlot = true ∧ (t.claim r).cls = (s.claim r).cls ∧ (t.claim r).slot = (s.claim r).slot) :
    LinksForm t :=
  h.sever (· = r) hout (fun _ p hq hl => absurd hl (not_linked (hq ▸ hr) p)) (fun _ hq => hq ▸ ht) (fun _ hq => hq ▸ hkeep)
    fun _ p hq hl => absurd hl (not_linked (hq ▸ hr) p)

/-- A successor and its predecessor part: one of them at most keeps the slot. -/
theorem part (h : LinksForm s) {r p : Nat} (hp : (s.claim r).predecessor = some p) (hr : (t.claim r).Solo)
    (hpt : (t.claim p).Solo) (hout : ∀ q, q ≠ r → q ≠ p → (t.claim q).linkView = (s.claim q).linkView)
    (hcls : (t.claim r).cls = (s.claim r).cls ∧ (t.claim r).slot = (s.claim r).slot)
    (hpcls : (t.claim p).cls = (s.claim p).cls ∧ (t.claim p).slot = (s.claim p).slot)
    (hone : (t.claim r).phase.keepsSlot = false ∨ (t.claim p).phase.keepsSlot = false) : LinksForm t := by
  obtain ⟨-, hsucc, -, -, -, -, hphase⟩ := h.predecessor hp
  have hrk : (s.claim r).phase.keepsSlot = true := by rcases hphase with ⟨k, -⟩ | ⟨k, -⟩ <;> rw [k] <;> rfl
  have hpk : (s.claim p).phase.keepsSlot = true := by rcases hphase with ⟨-, k⟩ | ⟨-, k⟩ <;> rw [k] <;> rfl
  have hrs : (s.claim r).successor = none := h.successor_none
    (by rcases hphase with ⟨k, -⟩ | ⟨k, -⟩ <;> rw [k] <;> nofun) (by rcases hphase with ⟨k, -⟩ | ⟨k, -⟩ <;> rw [k] <;> nofun)
  have hpp : (s.claim p).predecessor = none := h.predecessor_none
    (by rcases hphase with ⟨-, k⟩ | ⟨-, k⟩ <;> rw [k] <;> nofun) (by rcases hphase with ⟨-, k⟩ | ⟨-, k⟩ <;> rw [k] <;> nofun)
  have hlinked : ∀ q u, q = r ∨ q = p → Linked s q u → q = r ∧ u = p ∨ q = p ∧ u = r := by
    rintro q u (rfl | rfl) (k | k)
    · rw [hrs] at k; cases k
    · rw [hp] at k; cases k; exact .inl ⟨rfl, rfl⟩
    · rw [hsucc] at k; cases k; exact .inr ⟨rfl, rfl⟩
    · rw [hpp] at k; cases k
  refine h.sever (fun q => q = r ∨ q = p) (fun q hq => ?_) (fun q u hq hl => ?_) ?_ ?_ fun q u hq hl hk => ?_
  · obtain ⟨h1, h2⟩ := not_or.mp hq; exact hout q h1 h2
  · rcases hlinked q u hq hl with ⟨-, k⟩ | ⟨-, k⟩
    · exact .inr k
    · exact .inl k
  · rintro q (rfl | rfl)
    · exact hr
    · exact hpt
  · rintro q (rfl | rfl) -
    · exact ⟨hrk, hcls⟩
    · exact ⟨hpk, hpcls⟩
  · rcases hlinked q u hq hl with ⟨rfl, rfl⟩ | ⟨rfl, rfl⟩
    · exact hone.resolve_left (by rw [hk]; nofun)
    · exact hone.resolve_right (by rw [hk]; nofun)

end LinksForm

/-! ### Loans -/

/-- What the laws of borrowers see of an entry: not its lender. -/
def LoanEntry.loanView (e : LoanEntry) : Nat × BitVec 4 × Nat × LoanState := (e.borrower, e.borrowerGeneration, e.tile, e.state)

/-- The Loan Stack and its borrowers, the entries of the records `K` being RETURNED and those not yet PARKED (R73, R149, R155). -/
structure LoansForm (K : List Nat) (s : State) : Prop where
  capacity : s.loans.length ≤ 4
  borrower : ∀ r i, (s.claim r).onLoan = some i → (s.claim r).cls = .voice ∧ ∃ e, s.loans[i]? = some e ∧ e.borrower = r ∧
    e.borrowerGeneration = (s.claim r).generation ∧ (s.claim r).run = some ⟨e.tile, 1⟩ ∧
    e.state = if (s.claim r).phase = .parked ∨ r ∈ K then .returned else .out
  parked : ∀ r, (s.claim r).phase = .parked → (s.claim r).onLoan.isSome = true
  entry : ∀ i e, s.loans[i]? = some e → e.state ≠ .void → (s.claim e.borrower).onLoan = some i

/-- The top entry of the Loan Stack is OUT (R158). -/
def TopOut (s : State) : Prop := ∀ e ∈ s.loans.getLast?, e.state = .out

/-- A change of a record that leaves its part in a loan, or a record without one. -/
def LoanKept (c d : ClaimRecord) : Prop := d.onLoan = c.onLoan ∧
  (c.onLoan ≠ none → d.cls = c.cls ∧ d.generation = c.generation ∧ d.run = c.run ∧ (d.phase = .parked ↔ c.phase = .parked)) ∧
  (c.onLoan = none → d.phase ≠ .parked)

theorem LoanKept.without {c d : ClaimRecord} (hc : c.onLoan = none) (hd : d.onLoan = none) (hp : d.phase ≠ .parked) :
    LoanKept c d := ⟨hd.trans hc.symm, fun h => absurd hc h, fun _ => hp⟩

/-- The loan entries but for their lenders. -/
theorem loanView_getElem? {l m : List LoanEntry} (h : m.map (·.loanView) = l.map (·.loanView)) (i : Nat) :
    m[i]?.map (·.loanView) = l[i]?.map (·.loanView) := by
  rw [← List.getElem?_map, ← List.getElem?_map, h]

theorem loanView_eq {e f : LoanEntry} : e.loanView = f.loanView ↔ e.borrower = f.borrower ∧
    e.borrowerGeneration = f.borrowerGeneration ∧ e.tile = f.tile ∧ e.state = f.state := by
  simp [LoanEntry.loanView]

theorem TopOut.congr {s t : State} (h : TopOut s) (hv : t.loans.map (·.loanView) = s.loans.map (·.loanView)) : TopOut t := by
  intro e he
  have hl : t.loans.getLast?.map (·.loanView) = s.loans.getLast?.map (·.loanView) := by
    rw [← List.getLast?_map, ← List.getLast?_map, hv]
  rw [he, Option.map_some] at hl
  obtain ⟨f, hf, hfe⟩ := Option.map_eq_some_iff.mp hl.symm
  exact (loanView_eq.mp hfe).2.2.2.symm.trans (h f hf)

namespace LoansForm

variable {K : List Nat} {s t : State}

/-- A record in a phase without tiles has no loan. -/
theorem onLoan_none (h : LoansForm K s) {r : Nat} (hrun : (s.claim r).run = none) : (s.claim r).onLoan = none := by
  cases hi : (s.claim r).onLoan with
  | none => rfl
  | some i =>
    obtain ⟨-, e, -, -, -, hx, -⟩ := h.borrower r i hi
    rw [hrun] at hx; cases hx

theorem onLoan_none_of_cls (h : LoansForm K s) {r : Nat} (hk : (s.claim r).cls ≠ .voice) : (s.claim r).onLoan = none := by
  cases hi : (s.claim r).onLoan with
  | none => rfl
  | some i => exact absurd (h.borrower r i hi).1 hk

theorem congr (h : LoansForm K s) (hc : ∀ q, LoanKept (s.claim q) (t.claim q))
    (hv : t.loans.map (·.loanView) = s.loans.map (·.loanView)) : LoansForm K t := by
  have hat := loanView_getElem? hv
  refine ⟨?_, fun r i hi => ?_, fun r hp => ?_, fun i e he hs => ?_⟩
  · have := congrArg List.length hv
    rw [List.length_map, List.length_map] at this
    rw [this]; exact h.capacity
  · obtain ⟨hon, hkept, -⟩ := hc r
    rw [hon] at hi
    obtain ⟨hcls, hgen, hrun, hpark⟩ := hkept (by rw [hi]; nofun)
    obtain ⟨hk, e, he, hb, hg, hx, hst⟩ := h.borrower r i hi
    have := hat i
    rw [he, Option.map_some] at this
    obtain ⟨f, hf, hfe⟩ := Option.map_eq_some_iff.mp this
    obtain ⟨fb, fg, ft, fs⟩ := loanView_eq.mp hfe
    refine ⟨hcls.trans hk, f, hf, fb.trans hb, ?_, ?_, ?_⟩
    · rw [fg, hgen, hg]
    · rw [hrun, ft, hx]
    · rw [fs, hst]; simp only [hpark]
  · obtain ⟨hon, -, hnone⟩ := hc r
    rw [hon]
    exact Option.isSome_iff_ne_none.mpr fun k => hnone k hp
  · have := hat i
    rw [he, Option.map_some] at this
    obtain ⟨f, hf, hfe⟩ := Option.map_eq_some_iff.mp this.symm
    obtain ⟨fb, -, -, fs⟩ := loanView_eq.mp hfe
    rw [← fb, (hc f.borrower).1]
    exact h.entry i f hf (fs ▸ hs)

/-- A record loses its loan, and its entry is VOID (R157). -/
theorem lose (h : LoansForm K s) {r i : Nat} (hi : (s.claim r).onLoan = some i) (hr : (t.claim r).onLoan = none)
    (hp : (t.claim r).phase ≠ .parked) (hc : ∀ q, q ≠ r → LoanKept (s.claim q) (t.claim q))
    (hl : t.loans = s.loans.modify i (fun e => { e with state := .void })) : LoansForm K t := by
  obtain ⟨-, e, he, hb, -, -, -⟩ := h.borrower r i hi
  have hstay : ∀ j, j ≠ i → t.loans[j]? = s.loans[j]? := fun j hj => by
    rw [hl, List.getElem?_modify]
    cases s.loans[j]? with
    | none => rfl
    | some f => exact congrArg some (if_neg hj.symm)
  refine ⟨by rw [hl, List.length_modify]; exact h.capacity, fun q j hj => ?_, fun q hq => ?_, fun j f hf hs => ?_⟩
  · have hqr : q ≠ r := fun k => by rw [k, hr] at hj; cases hj
    obtain ⟨hon, hkept, -⟩ := hc q hqr
    rw [hon] at hj
    obtain ⟨hcls, hgen, hrun, hpark⟩ := hkept (by rw [hj]; nofun)
    obtain ⟨hk, f, hf, fb, hg, hx, hst⟩ := h.borrower q j hj
    have hji : j ≠ i := fun k => by
      rw [k, he] at hf; cases hf
      exact hqr (fb.symm.trans hb)
    refine ⟨hcls.trans hk, f, (hstay j hji).trans hf, fb, hg.trans hgen.symm, hrun.trans hx, ?_⟩
    rw [hst]; simp only [hpark]
  · by_cases hqr : q = r
    · exact absurd (hqr ▸ hq) hp
    · obtain ⟨hon, -, hnone⟩ := hc q hqr
      rw [hon]
      exact Option.isSome_iff_ne_none.mpr fun k => hnone k hq
  · by_cases hji : j = i
    · rw [hji, hl, List.getElem?_modify, he] at hf
      simp only [Option.map_some, Option.map_eq_map, if_true, Option.some.injEq] at hf
      rw [← hf] at hs; exact absurd rfl hs
    · rw [hstay j hji] at hf
      have hon := h.entry j f hf hs
      have hfr : f.borrower ≠ r := fun k => by rw [k, hi] at hon; exact hji (Option.some.inj hon).symm
      rw [(hc _ hfr).1]; exact hon

end LoansForm

/-! ### The held total -/

/-- The tiles that a record adds to the held total (R79). -/
def ClaimRecord.heldTiles (c : ClaimRecord) : Nat := if c.counted then c.runWidth else 0

theorem heldTotal_eq (s : State) : heldTotal s = (s.claims.map ClaimRecord.heldTiles).sum := by
  unfold heldTotal
  induction s.claims with
  | nil => rfl
  | cons c cs ih => by_cases h : c.counted = true <;> simp [ClaimRecord.heldTiles, h, ih]

theorem heldTotal_eq_sum (s : State) :
    heldTotal s = ∑ q ∈ Finset.range s.claims.length, (s.claim q).heldTiles := by
  rw [heldTotal_eq, Finset.sum_range, ← List.sum_ofFn]
  refine congrArg List.sum (List.ext_getElem (by simp) fun q hq _ => ?_)
  rw [List.length_map] at hq
  simp [State.claim]

theorem heldTotal_le {s t : State} (hl : t.claims.length = s.claims.length)
    (h : ∀ q, (t.claim q).heldTiles ≤ (s.claim q).heldTiles) : heldTotal t ≤ heldTotal s := by
  rw [heldTotal_eq_sum, heldTotal_eq_sum, hl]
  exact Finset.sum_le_sum fun q _ => h q

/-- Tiles pass from one record to another. -/
theorem heldTotal_pass {s t : State} {a b : Nat} (hl : t.claims.length = s.claims.length) (ha : a < s.claims.length)
    (hb : b < s.claims.length) (hne : a ≠ b)
    (hout : ∀ q, q ≠ a → q ≠ b → (t.claim q).heldTiles ≤ (s.claim q).heldTiles)
    (hpass : (t.claim a).heldTiles + (t.claim b).heldTiles ≤ (s.claim a).heldTiles + (s.claim b).heldTiles) :
    heldTotal t ≤ heldTotal s := by
  rw [heldTotal_eq_sum, heldTotal_eq_sum, hl]
  have hbm : b ∈ (Finset.range s.claims.length).erase a := Finset.mem_erase.mpr ⟨hne.symm, Finset.mem_range.mpr hb⟩
  rw [← Finset.add_sum_erase _ _ (Finset.mem_range.mpr ha), ← Finset.add_sum_erase _ _ (Finset.mem_range.mpr ha),
    ← Finset.add_sum_erase _ _ hbm, ← Finset.add_sum_erase _ _ hbm]
  have hrest : ∑ q ∈ ((Finset.range s.claims.length).erase a).erase b, (t.claim q).heldTiles ≤
      ∑ q ∈ ((Finset.range s.claims.length).erase a).erase b, (s.claim q).heldTiles := Finset.sum_le_sum fun q hq => by
    obtain ⟨hqb, hq⟩ := Finset.mem_erase.mp hq
    exact hout q (Finset.mem_erase.mp hq).1 hqb
  omega

theorem counted_iff {c : ClaimRecord} : c.counted = true ↔
    (c.phase = .tentative ∨ c.phase = .held ∨ c.phase = .moving ∨ c.phase = .parked) ∧ c.predecessor = none := by
  simp [ClaimRecord.counted, or_assoc]

theorem heldTiles_uncounted {c : ClaimRecord} (h : c.counted = false) : c.heldTiles = 0 := by
  simp [ClaimRecord.heldTiles, h]

theorem heldTiles_unrun {c : ClaimRecord} (h : c.run = none) : c.heldTiles = 0 := by
  simp [ClaimRecord.heldTiles, ClaimRecord.runWidth, h]

theorem heldTiles_le (c : ClaimRecord) : c.heldTiles ≤ c.runWidth := by
  unfold ClaimRecord.heldTiles; split <;> omega

/-! ### Grants -/

theorem grantLaw_iff {s : State} : GrantLaw s ↔ ∀ k, (s.grants.of k).entries = grantEntries s.claims k :=
  ⟨fun ⟨hd, hv, hc⟩ k => by cases k <;> assumption, fun h => ⟨h .data, h .video, h .voice⟩⟩

/-- The grant records but for that of service `k`. -/
def GrantsBut (k : ServiceClass) (s : State) : Prop := ∀ j, j ≠ k → (s.grants.of j).entries = grantEntries s.claims j

theorem grantEntries_of_shown {s t : State} {k : ServiceClass} (hl : t.claims.length = s.claims.length)
    (h : ∀ q, (t.claim q).shown k = (s.claim q).shown k) : grantEntries t.claims k = grantEntries s.claims k := by
  refine grantEntries_congr (List.ext_getElem (by simpa using hl) fun q hq hq' => ?_)
  rw [List.length_map] at hq hq'
  have := h q
  rw [State.claim, State.claim, List.getD_eq_getElem _ _ hq, List.getD_eq_getElem _ _ hq'] at this
  rw [List.getElem_map, List.getElem_map, this]

theorem GrantLaw.congr {s t : State} (h : GrantLaw s) (hl : t.claims.length = s.claims.length) (hg : t.grants = s.grants)
    (hs : ∀ q k, (t.claim q).shown k = (s.claim q).shown k) : GrantLaw t := by
  rw [grantLaw_iff] at h ⊢
  intro k
  rw [hg, h, grantEntries_of_shown hl fun q => hs q k]

theorem GrantLaw.but {s t : State} (h : GrantLaw s) (k : ServiceClass) (hl : t.claims.length = s.claims.length)
    (hg : t.grants = s.grants) (hs : ∀ q j, j ≠ k → (t.claim q).shown j = (s.claim q).shown j) : GrantsBut k t := by
  rw [grantLaw_iff] at h
  intro j hj
  rw [hg, h, grantEntries_of_shown hl fun q => hs q j hj]

theorem GrantsBut.commit {k : ServiceClass} {s : State} (h : GrantsBut k s) (c : GrantCause) (d : Option Nat) :
    GrantLaw (commitGrant k c d s) := by
  obtain ⟨hself, hother⟩ := commitGrant_of k c d s
  rw [grantLaw_iff]
  intro j
  by_cases hj : j = k
  · rw [hj, hself, after_entries]; rfl
  · rw [hother j hj]; exact h j hj

end Sys2Proof.Machine

/-! The whole form of the Claim Table, and what the unwinding of the Loan Stack keeps of it (R158 to R160; for O59). -/

namespace Sys2Proof.Machine

/-! ### The form -/

/-- The table but for its grant records and the top of the Loan Stack, the entries of the records `K` being RETURNED. -/
structure TableCore (K : List Nat) (s : State) : Prop where
  length : s.claims.length = 20
  record : ∀ q, RecordLaw (s.claim q)
  links : LinksForm s
  loans : LoansForm K s

/-- The laws of the Claim Table, over every record number. -/
structure TableForm (s : State) : Prop extends TableCore [] s where
  top : TopOut s
  grants : GrantLaw s

theorem tableForm_of_law {s : State} (h : ClaimTableLaw s) : TableForm s := by
  obtain ⟨hl, hrec, hlink, hslot, hborrow, ⟨hcap, htop, hentry⟩, hgrant⟩ := h
  have hbeyond : ∀ {q}, ¬q < 20 → s.claim q = ClaimRecord.reset := fun h => claim_beyond (hl ▸ Nat.le_of_not_lt h)
  refine { length := hl, record := fun q => ?_, links := ⟨fun r => ?_, fun q r hne hs => ?_⟩,
           loans := ⟨hcap, fun r i hi => ?_, fun r hp => ?_, fun i e he hs => ?_⟩, top := htop, grants := hgrant }
  · by_cases hq : q < 20
    · exact hrec _ (claim_mem (hl ▸ hq))
    · rw [hbeyond hq]; exact reset_recordLaw
  · by_cases hr : r < 20
    · exact hlink r hr
    · exact linkLaw_of_solo (by rw [hbeyond hr]; exact ⟨rfl, rfl, nofun⟩)
  · obtain ⟨-, -, hq, hr⟩ := sharesSlot_iff.mp hs
    have hlt : ∀ {j}, (s.claim j).phase.keepsSlot = true → j < 20 := fun {j} hj => by
      by_contra hn
      rw [hbeyond hn] at hj; cases hj
    exact hslot q (hlt hq) r (hlt hr) hne hs
  · by_cases hr : r < 20
    · obtain ⟨hk, e, he, hb, hg, hx, hst⟩ := (hborrow r hr).1 i hi
      exact ⟨hk, e, he, hb, hg, hx, by simpa using hst⟩
    · rw [hbeyond hr] at hi; cases hi
  · by_cases hr : r < 20
    · exact (hborrow r hr).2 hp
    · rw [hbeyond hr] at hp; cases hp
  · exact hentry i (List.getElem?_eq_some_iff.mp he).1 e he hs

theorem TableForm.law {s : State} (h : TableForm s) : ClaimTableLaw s := by
  refine ⟨h.length, fun c hc => ?_, fun r _ => h.links.link r, fun q _ r _ hne hs => h.links.slot q r hne hs,
    fun r _ => ⟨fun i hi => ?_, h.loans.parked r⟩, ⟨h.loans.capacity, h.top, fun i _ e he hs => h.loans.entry i e he hs⟩, h.grants⟩
  · obtain ⟨q, -, rfl⟩ := mem_claims hc; exact h.record q
  · obtain ⟨hk, e, he, hb, hg, hx, hst⟩ := h.loans.borrower r i hi
    exact ⟨hk, e, he, hb, hg, hx, by simpa using hst⟩

/-- An event keeps the form of the table, and adds nothing to the held total. -/
def Keeps (s t : State) : Prop := TableForm t ∧ heldTotal t ≤ heldTotal s

/-! ### Phases and records -/

theorem ended_recordLaw (c : ClaimRecord) : RecordLaw c.ended :=
  ⟨⟨nofun, nofun⟩, nofun, nofun, fun _ => ⟨.inl rfl, nofun, nofun⟩⟩

theorem freed_recordLaw (c : ClaimRecord) : RecordLaw c.freed :=
  ⟨⟨nofun, nofun⟩, nofun, nofun, fun _ => ⟨.inl rfl, nofun, nofun⟩⟩

theorem freed_solo (c : ClaimRecord) : c.freed.Solo := ⟨rfl, rfl, nofun⟩

/-! ### The return of a tile -/

/-- What an unwinding makes of record `q`: nothing; a borrower that is PARKED, or one of `K`, is ended; a lender is widened. -/
def Returned (K : List Nat) (q : Nat) (c d : ClaimRecord) : Prop :=
  d = c ∨ (c.cls = .voice ∧ (c.phase = .parked ∨ q ∈ K) ∧ d = c.ended) ∨
    c.cls = .data ∧ c.phase = .held ∧ ∃ x, d = { c with run := some x, width := x.width }

theorem ended_ended (c : ClaimRecord) : c.ended.ended = c.ended := by simp [ClaimRecord.ended]

theorem Returned.trans {K : List Nat} {q : Nat} {c d e : ClaimRecord} (h : Returned K q c d) (k : Returned K q d e) :
    Returned K q c e := by
  rcases h with rfl | ⟨hc, hp, rfl⟩ | ⟨hc, hp, x, rfl⟩
  · exact k
  · rcases k with rfl | ⟨-, -, rfl⟩ | ⟨-, hp', -⟩
    · exact .inr (.inl ⟨hc, hp, rfl⟩)
    · exact .inr (.inl ⟨hc, hp, ended_ended c⟩)
    · cases hp'
  · rcases k with rfl | ⟨hc', -, -⟩ | ⟨-, -, y, rfl⟩
    · exact .inr (.inr ⟨hc, hp, x, rfl⟩)
    · exact absurd (hc.symm.trans hc') nofun
    · exact .inr (.inr ⟨hc, hp, y, rfl⟩)

/-- The borrowers of `K` hold tiles and are not PARKED. -/
def Borrowing (K : List Nat) (s : State) : Prop :=
  ∀ q ∈ K, (s.claim q).onLoan ≠ none → (s.claim q).phase = .held ∨ (s.claim q).phase = .moving ∨ (s.claim q).phase = .draining

/-- Every borrower whose entry is RETURNED counts in the held total (R79). -/
def BorrowersCount (K : List Nat) (s : State) : Prop :=
  ∀ q, (s.claim q).onLoan ≠ none → (s.claim q).phase = .parked ∨ q ∈ K → (s.claim q).counted = true

/-- The stack as it unwinds. -/
structure Unwinding (K : List Nat) (s : State) : Prop where
  record : ∀ q, RecordLaw (s.claim q)
  loans : LoansForm K s
  borrowing : Borrowing K s

/-- What an unwinding keeps. -/
structure UnwindsTo (K : List Nat) (s t : State) : Prop where
  length : t.claims.length = s.claims.length
  change : ∀ q, Returned K q (s.claim q) (t.claim q)
  grants : t.grants = s.grants
  unwinding : Unwinding K t
  held : BorrowersCount K s → BorrowersCount K t ∧ heldTotal t ≤ heldTotal s

theorem UnwindsTo.trans {K : List Nat} {s t u : State} (h : UnwindsTo K s t) (k : UnwindsTo K t u) : UnwindsTo K s u where
  length := k.length.trans h.length
  change q := (h.change q).trans (k.change q)
  grants := k.grants.trans h.grants
  unwinding := k.unwinding
  held hb := by
    obtain ⟨ht, hle⟩ := h.held hb
    obtain ⟨hu, hle'⟩ := k.held ht
    exact ⟨hu, hle'.trans hle⟩

/-- A VOID top entry is popped from the stack. -/
theorem LoansForm.pop {K : List Nat} {s t : State} (h : LoansForm K s) {l : List LoanEntry} {e : LoanEntry}
    (hl : s.loans = l ++ [e]) (hv : e.state = .void) (hclaims : t.claims = s.claims) (hloans : t.loans = l) :
    LoansForm K t := by
  have hclaim : ∀ q, t.claim q = s.claim q := fun q => by rw [State.claim, hclaims]; rfl
  have hstay : ∀ (i : Nat) (f : LoanEntry), s.loans[i]? = some f → f.state ≠ .void → l[i]? = some f := by
    intro i f hf hs
    rw [hl] at hf
    by_cases hi : i < l.length
    · rwa [List.getElem?_append_left hi] at hf
    · have hi' : i = l.length := by
        have := (List.getElem?_eq_some_iff.mp hf).1
        rw [List.length_append, List.length_singleton] at this; omega
      rw [hi', List.getElem?_concat_length] at hf
      cases hf; exact absurd hv hs
  refine ⟨?_, fun r i hi => ?_, fun r hp => ?_, fun i f hf hs => ?_⟩
  · have := h.capacity
    rw [hl, List.length_append] at this
    rw [hloans]; exact (Nat.le_add_right _ _).trans this
  · rw [hclaim] at hi ⊢
    obtain ⟨hk, f, hf, hrest⟩ := h.borrower r i hi
    have hs : f.state ≠ .void := by
      rw [hrest.2.2.2]; split <;> nofun
    exact ⟨hk, f, by rw [hloans]; exact hstay i f hf hs, hrest⟩
  · rw [hclaim] at hp ⊢; exact h.parked r hp
  · rw [hloans] at hf
    rw [hclaim]
    refine h.entry i f ?_ hs
    rw [hl, List.getElem?_append_left (List.getElem?_eq_some_iff.mp hf).1]; exact hf

section
variable {K : List Nat} {s : State} (h : Unwinding K s) {l : List LoanEntry} {e : LoanEntry} (hl : s.loans = l ++ [e])
include h hl

theorem pop_void (hv : e.state = .void) : UnwindsTo K s { s with loans := l } :=
  ⟨rfl, fun _ => .inl rfl, rfl, ⟨h.record, h.loans.pop hl hv rfl rfl, h.borrowing⟩, fun hb => ⟨hb, le_rfl⟩⟩

/-- The borrower of a RETURNED top entry answers for its tile (R155, R159). -/
theorem returned_borrower (hv : e.state = .returned) : (s.claim e.borrower).onLoan = some l.length ∧
    (s.claim e.borrower).cls = .voice ∧ ((s.claim e.borrower).phase = .parked ∨ e.borrower ∈ K) ∧
    (s.claim e.borrower).run = some ⟨e.tile, 1⟩ ∧ answersFor e { s with loans := l } = true := by
  have hlast : s.loans[l.length]? = some e := by rw [hl, List.getElem?_concat_length]
  have hon := h.loans.entry _ e hlast (by rw [hv]; nofun)
  obtain ⟨hk, f, hf, -, hg, hx, hst⟩ := h.loans.borrower _ _ hon
  obtain rfl : e = f := Option.some.inj (hlast.symm.trans hf)
  have hret : (s.claim e.borrower).phase = .parked ∨ e.borrower ∈ K := by
    by_contra hn
    rw [if_neg hn, hv] at hst; cases hst
  refine ⟨hon, hk, hret, hx, answersFor_iff.mpr ⟨?_, hg.symm, hx⟩⟩
  rcases hret with hp | hm
  · exact .inl hp
  · exact .inr (h.borrowing _ hm (by rw [hon]; nofun))

/-- The pop of a RETURNED entry whose borrower is ended, another record widened at most. -/
theorem pop_ended (hv : e.state = .returned) {t : State} (hlen : t.claims.length = s.claims.length)
    (hloans : t.loans = l) (hgrants : t.grants = s.grants) (hb : t.claim e.borrower = (s.claim e.borrower).ended)
    (hout : ∀ q, q ≠ e.borrower → t.claim q = s.claim q ∨ (s.claim q).cls = .data ∧ (s.claim q).phase = .held ∧
      ∃ x, t.claim q = { s.claim q with run := some x, width := x.width })
    (hheld : (s.claim e.borrower).counted = true → heldTotal t ≤ heldTotal s) : UnwindsTo K s t := by
  obtain ⟨hon, hk, hret, hx, -⟩ := returned_borrower h hl hv
  have hlast : s.loans[l.length]? = some e := by rw [hl, List.getElem?_concat_length]
  have hfree : (t.claim e.borrower).onLoan = none := by rw [hb]; rfl
  have hsame : ∀ q, (t.claim q).onLoan ≠ none → t.claim q = s.claim q := fun q hq => by
    have hqb : q ≠ e.borrower := fun k => hq (k ▸ hfree)
    rcases hout q hqb with hs | ⟨hc, -, x, hs⟩
    · exact hs
    · rw [hs] at hq
      exact absurd (h.loans.onLoan_none_of_cls (r := q) (by rw [hc]; nofun)) hq
  have hkept : ∀ q, q ≠ e.borrower → LoanKept (s.claim q) (t.claim q) := fun q hq => by
    rcases hout q hq with hs | ⟨hc, hp, x, hs⟩
    · refine ⟨by rw [hs], fun _ => by rw [hs]; exact ⟨rfl, rfl, rfl, Iff.rfl⟩, fun hn hp => ?_⟩
      rw [hs] at hp
      have := h.loans.parked q hp
      rw [hn] at this; cases this
    · have hnone := h.loans.onLoan_none_of_cls (r := q) (by rw [hc]; nofun)
      exact .without hnone (by rw [hs]; exact hnone) (by rw [hs]; show (s.claim q).phase ≠ _; rw [hp]; nofun)
  have hform : LoansForm K t := by
    have hvoid : s.loans.modify l.length (fun e => { e with state := .void }) = l ++ [{ e with state := .void }] := by
      rw [List.modify_eq_set_get _ (by rw [hl]; simp)]
      simp [hl]
    have hlose := h.loans.lose (t := { t with loans := l ++ [{ e with state := .void }] }) hon hfree
      (by show (t.claim e.borrower).phase ≠ _; rw [hb]; nofun) hkept hvoid.symm
    exact hlose.pop rfl rfl rfl hloans
  refine ⟨hlen, fun q => ?_, hgrants, ⟨fun q => ?_, hform, fun q hq hon' => ?_⟩, fun hcount => ⟨fun q hq hp => ?_, hheld ?_⟩⟩
  · by_cases hq : q = e.borrower
    · subst hq; exact .inr (.inl ⟨hk, hret, hb⟩)
    · exact (hout q hq).imp_right .inr
  · by_cases hq : q = e.borrower
    · rw [hq, hb]; exact ended_recordLaw _
    · rcases hout q hq with hs | ⟨hc, hp, x, hs⟩
      · rw [hs]; exact h.record q
      · obtain ⟨-, -, -, hdata⟩ := h.record q
        rw [hs]
        exact ⟨⟨fun _ => by show (s.claim q).phase.holds = true; rw [hp]; rfl, fun _ => rfl⟩,
          fun y hy => (by cases hy; rfl), fun k => (by rw [show (s.claim q).phase = .tentative from k] at hp; cases hp),
          fun _ => ⟨.inr (.inr (.inr hp)), fun k => (by
            rcases k with k | k <;> rw [show (s.claim q).phase = _ from k] at hp <;> cases hp), (hdata hc).2.2⟩⟩
  · have hs := hsame q hon'
    rw [hs] at hon' ⊢; exact h.borrowing q hq hon'
  · have hs := hsame q hq
    rw [hs] at hq hp ⊢; exact hcount q hq hp
  · exact hcount _ (by rw [hon]; nofun) hret

/-- The pop of a RETURNED entry (R158, R159). -/
theorem pop_returned (hv : e.state = .returned) : UnwindsTo K s (settleReturned e { s with loans := l }) := by
  obtain ⟨-, hk, -, hx, ha⟩ := returned_borrower h hl hv
  have hended : (s.claim e.borrower).unrun.freed = (s.claim e.borrower).ended := unrun_freed_eq_ended hx
  have hbl := lt_length_of_run hx
  have hone : (s.claim e.borrower).counted = true → (s.claim e.borrower).heldTiles = 1 := fun hc => by
    simp [ClaimRecord.heldTiles, hc, ClaimRecord.runWidth, hx]
  have hnone : (s.claim e.borrower).ended.heldTiles = 0 := heldTiles_unrun rfl
  unfold settleReturned
  rw [if_pos ha]
  split
  · rename_i a hhome
    obtain ⟨-, y, hy, hdata, hheld, -⟩ := returnsHome_eq_some.mp hhome
    have hy : (s.claim a).run = some y := hy
    have hdata : (s.claim a).cls = .data := hdata
    have hheld : (s.claim a).phase = .held := hheld
    have hne : a ≠ e.borrower := fun k => by rw [k, hk] at hdata; cases hdata
    have hal := lt_length_of_run hy
    have hwide : (s.claim a).widened widenUp = { s.claim a with run := some (widenUp y), width := (widenUp y).width } := by
      rw [ClaimRecord.widened, hy]
    have hclaim : ∀ q, (mergeInto a e.borrower widenUp { s with loans := l }).claim q =
        if q = e.borrower then (s.claim e.borrower).ended else if q = a then
          { s.claim a with run := some (widenUp y), width := (widenUp y).width } else s.claim q := fun q => by
      refine (claim_setClaim e.borrower q _ _).trans ?_
      rw [if_congr (and_iff_left (by simpa using hbl)) rfl rfl]
      refine if_congr Iff.rfl hended ?_
      refine (claim_setClaim a q _ _).trans ?_
      rw [if_congr (and_iff_left hal) rfl rfl]
      exact if_congr Iff.rfl hwide rfl
    refine pop_ended h hl hv (by simp [mergeInto]) rfl rfl (by rw [hclaim, if_pos rfl]) (fun q hq => ?_) fun hc => ?_
    · rw [hclaim, if_neg hq]; split
      · rename_i hqa; rw [hqa]; exact .inr ⟨hdata, hheld, _, rfl⟩
      · exact .inl rfl
    · have hcount : (s.claim a).counted = ClaimRecord.counted
          { s.claim a with run := some (widenUp y), width := (widenUp y).width } := rfl
      refine heldTotal_pass (a := a) (b := e.borrower) (by simp [mergeInto]) hal hbl hne (fun q hqa hqb => ?_) ?_
      · rw [hclaim, if_neg hqb, if_neg hqa]
      · rw [hclaim, if_neg hne, if_pos rfl, hclaim, if_pos rfl, hone hc, hnone]
        unfold ClaimRecord.heldTiles
        rw [← hcount]
        split <;> simp [ClaimRecord.runWidth, hy, widenUp]
  · have hclaim : ∀ q, (urgentRequest (setClaim e.borrower (s.claim e.borrower).unrun.freed { s with loans := l })).claim q =
        if q = e.borrower then (s.claim e.borrower).ended else s.claim q := fun q => by
      refine (claim_setClaim e.borrower q _ _).trans ?_
      rw [if_congr (and_iff_left hbl) rfl rfl]
      exact if_congr Iff.rfl hended rfl
    refine pop_ended h hl hv (by simp [urgentRequest]) rfl rfl ((hclaim e.borrower).trans (if_pos rfl)) (fun q hq => ?_)
      fun _ => ?_
    · exact .inl ((hclaim q).trans (if_neg hq))
    · refine heldTotal_le (by simp [urgentRequest]) fun q => ?_
      refine (congrArg ClaimRecord.heldTiles (hclaim q)).trans_le ?_
      split
      · rw [hnone]; exact Nat.zero_le _
      · exact le_rfl

end

/-- The unwinding of the stack (R158). -/
theorem unwindStack_unwindsTo {K : List Nat} (n : Nat) : ∀ {s : State}, Unwinding K s → UnwindsTo K s (unwindStack n s) := by
  induction n with
  | zero => exact fun h => ⟨rfl, fun _ => .inl rfl, rfl, h, fun hb => ⟨hb, le_rfl⟩⟩
  | succ n ih =>
    intro s h
    have hstop : UnwindsTo K s s := ⟨rfl, fun _ => .inl rfl, rfl, h, fun hb => ⟨hb, le_rfl⟩⟩
    unfold unwindStack
    rcases List.eq_nil_or_concat s.loans with hl | ⟨l, e, hl⟩
    · rw [hl]; exact hstop
    · rw [List.concat_eq_append] at hl
      have hdrop : s.loans.dropLast = l := by rw [hl, List.dropLast_concat]
      rw [hdrop]
      rw [show s.loans.getLast? = some e by rw [hl, List.getLast?_concat]]
      dsimp only
      split
      · exact hstop
      · rename_i hv
        have hpop := pop_void h hl hv
        exact hpop.trans (ih hpop.unwinding)
      · rename_i hv
        have hpop := pop_returned h hl hv
        exact hpop.trans (ih hpop.unwinding)

/-- With as many pops as entries the unwinding reaches an OUT entry or the bottom. -/
theorem unwindStack_top (s : State) : TopOut (unwindStack s.loans.length s) := by
  have h := unwindStack_eq s.loans.length false s le_rfl
  rw [urgentIf_false] at h
  rw [h]
  show ∀ e ∈ (remainingEntries s.loans).getLast?, e.state = .out
  intro e he
  rw [remainingEntries, List.getLast?_reverse] at he
  have := List.head?_dropWhile_not (fun e : LoanEntry => e.state != .out) s.loans.reverse
  rw [he] at this
  simpa using this

end Sys2Proof.Machine

/-! Trims, returns and lost loans keep the form of the Claim Table (R145 to R147, R154, R157 to R160; for O59). -/

namespace Sys2Proof.Machine

/-! ### Changes of records in place -/

/-- An event keeps the table, but for its grant records. -/
structure CoreKept (s t : State) : Prop where
  core : TableCore [] t
  top : TopOut t
  held : heldTotal t ≤ heldTotal s

theorem CoreKept.granted {s t : State} (h : CoreKept s t) (hg : GrantLaw t) : Keeps s t :=
  ⟨{ h.core with top := h.top, grants := hg }, h.held⟩

theorem CoreKept.trans {s t u : State} (h : CoreKept s t) (k : CoreKept t u) : CoreKept s u := ⟨k.core, k.top, k.held.trans h.held⟩

theorem Keeps.trans {s t u : State} (h : Keeps s t) (k : Keeps t u) : Keeps s u := ⟨k.1, k.2.trans h.2⟩

theorem TableForm.refl {s : State} (h : TableForm s) : Keeps s s := ⟨h, le_rfl⟩

namespace TableCore

variable {s t : State}

theorem loanKept (h : TableCore [] s) (q : Nat) : LoanKept (s.claim q) (s.claim q) :=
  ⟨rfl, fun _ => ⟨rfl, rfl, rfl, Iff.rfl⟩, fun hn hp => by
    have := h.loans.parked q hp
    rw [hn] at this; cases this⟩

/-- An event that leaves every loan as it is. -/
theorem calm (h : TableCore [] s) (htop : TopOut s) (hlen : t.claims.length = s.claims.length)
    (hrec : ∀ q, RecordLaw (t.claim q)) (hlinks : LinksForm t) (hloan : ∀ q, LoanKept (s.claim q) (t.claim q))
    (hloans : t.loans.map (·.loanView) = s.loans.map (·.loanView)) (hheld : heldTotal t ≤ heldTotal s) : CoreKept s t :=
  ⟨⟨hlen.trans h.length, hrec, hlinks, h.loans.congr hloan hloans⟩, htop.congr hloans, hheld⟩

end TableCore

/-- What one record may become without its links or its loan being touched, or with none. -/
structure Changes (s : State) (r : Nat) (c : ClaimRecord) : Prop where
  record : RecordLaw c
  links : c.linkView = (s.claim r).linkView ∨ (s.claim r).Solo ∧ c.Solo ∧ (c.phase.keepsSlot = true →
    (s.claim r).phase.keepsSlot = true ∧ c.cls = (s.claim r).cls ∧ c.slot = (s.claim r).slot)
  loan : LoanKept (s.claim r) c
  held : c.heldTiles ≤ (s.claim r).heldTiles

theorem TableCore.one {s t : State} (h : TableCore [] s) (htop : TopOut s) {r : Nat} {c : ClaimRecord}
    (hr : r < s.claims.length) (hc : Changes s r c) (hclaims : t.claims = s.claims.set r c)
    (hloans : t.loans.map (·.loanView) = s.loans.map (·.loanView)) : CoreKept s t := by
  have hlen : t.claims.length = s.claims.length := by rw [hclaims, List.length_set]
  have hself : t.claim r = c := claim_of_set_same hclaims hr
  have hother : ∀ q, q ≠ r → t.claim q = s.claim q := fun q hq => claim_of_set_other hclaims hq
  have hall : ∀ (P : Nat → ClaimRecord → Prop), P r c → (∀ q, P q (s.claim q)) → ∀ q, P q (t.claim q) := fun P hp hs q => by
    by_cases hq : q = r
    · subst hq; rw [hself]; exact hp
    · rw [hother q hq]; exact hs q
  refine h.calm htop hlen (hall (fun _ => RecordLaw) hc.record h.record) ?_
    (hall (fun q d => LoanKept (s.claim q) d) hc.loan h.loanKept) hloans
    (heldTotal_le hlen (hall (fun q d => d.heldTiles ≤ (s.claim q).heldTiles) hc.held fun q => le_rfl))
  rcases hc.links with hv | ⟨hs, ht, hk⟩
  · exact h.links.congr (hall (fun q d => d.linkView = (s.claim q).linkView) hv fun q => rfl)
  · exact h.links.solo hs (hself ▸ ht) (fun q hq => by rw [hother q hq]) (by rw [hself]; exact hk)

/-- The grant records see one record change. -/
theorem GrantLaw.one {s t : State} (h : GrantLaw s) {r : Nat} {c : ClaimRecord} (hclaims : t.claims = s.claims.set r c)
    (hg : t.grants = s.grants) (hs : ∀ k, c.shown k = (s.claim r).shown k) : GrantLaw t := by
  rw [grantLaw_iff] at h ⊢
  intro k
  rw [hg, h, hclaims, ← setClaim_claims, grantEntries_setClaim (hs k)]

theorem GrantLaw.oneBut {s t : State} (h : GrantLaw s) {r : Nat} {c : ClaimRecord} (k : ServiceClass)
    (hclaims : t.claims = s.claims.set r c) (hg : t.grants = s.grants) (hs : ∀ j, j ≠ k → c.shown j = (s.claim r).shown j) :
    GrantsBut k t := by
  rw [grantLaw_iff] at h
  intro j hj
  rw [hg, h, hclaims, ← setClaim_claims, grantEntries_setClaim (hs j hj)]

/-- The blocks outside the table may change. -/
theorem TableForm.same {s t : State} (h : TableForm s) (hc : t.claims = s.claims) (hg : t.grants = s.grants)
    (hl : t.loans = s.loans) : Keeps s t := by
  have hclaim : ∀ q, t.claim q = s.claim q := fun q => by rw [State.claim, hc]; rfl
  refine (h.calm h.top (by rw [hc]) (fun q => by rw [hclaim]; exact h.record q) (h.links.congr fun q => by rw [hclaim])
    (fun q => by rw [hclaim]; exact h.loanKept q) (by rw [hl])
    (heldTotal_le (by rw [hc]) fun q => by rw [hclaim])).granted ?_
  exact h.grants.congr (by rw [hc]) hg fun q k => by rw [hclaim]

theorem Keeps.same {s t u : State} (h : Keeps s t) (hc : u.claims = t.claims) (hg : u.grants = t.grants)
    (hl : u.loans = t.loans) : Keeps s u := h.trans (h.1.same hc hg hl)

/-! ### Trims -/

theorem orphanLoans_view (r : Nat) (g : BitVec 4) (l : List LoanEntry) :
    (orphanLoans r g l).map (·.loanView) = l.map (·.loanView) := by
  rw [orphanLoans, List.map_map]
  refine List.map_congr_left fun e _ => ?_
  dsimp only [Function.comp]
  split <;> rfl

/-- A DATA record that holds tiles keeps some of them, or is freed (R145). -/
theorem keeping_changes {s : State} {r : Nat} (h : TableCore [] s) {x : Run} (hd : (s.claim r).isData = true)
    (hx : (s.claim r).run = some x) {kept : Option Run} (g : BitVec 4) (hk : ∀ y ∈ kept, 0 < y.width ∧ y.width < x.width) :
    Changes s r (ClaimRecord.keeping { s.claim r with generation := g } kept) := by
  obtain ⟨hcls, hphase⟩ := isData_iff.mp hd
  obtain ⟨-, hwidth, htent, hdata⟩ := h.record r
  obtain ⟨hall, hone, hretry⟩ := hdata hcls
  have hsolo := h.links.data_solo hcls
  have hon : (s.claim r).onLoan = none := h.loans.onLoan_none_of_cls (by rw [hcls]; nofun)
  have hnp : (s.claim r).phase ≠ .parked := by rcases hphase with k | k <;> rw [k] <;> nofun
  cases kept with
  | none =>
    exact ⟨freed_recordLaw _, .inr ⟨hsolo, freed_solo _, nofun⟩, .without hon rfl nofun, by rw [heldTiles_unrun rfl]; exact Nat.zero_le _⟩
  | some y =>
    obtain ⟨hpos, hlt⟩ := hk y rfl
    have hheld : (s.claim r).phase = .held := hphase.resolve_left fun k => by
      have hw := hone (.inr k)
      rw [← hwidth x hx] at hw
      omega
    refine ⟨⟨⟨fun _ => by show (s.claim r).phase.holds = true; rw [hheld]; rfl, fun _ => rfl⟩, fun z hz => (by cases hz; rfl),
      fun k => ?_, fun _ => ⟨hall, fun k => ?_, hretry⟩⟩, .inr ⟨hsolo, hsolo, fun k => ⟨k, rfl, rfl⟩⟩, .without hon hon hnp, ?_⟩
    · exact absurd (hheld.symm.trans k) nofun
    · rcases k with k | k <;> exact absurd (hheld.symm.trans k) nofun
    · have hcount : ClaimRecord.counted (ClaimRecord.keeping { s.claim r with generation := g } (some y)) =
          (s.claim r).counted := rfl
      have hyw : ClaimRecord.runWidth (ClaimRecord.keeping { s.claim r with generation := g } (some y)) = y.width := rfl
      unfold ClaimRecord.heldTiles
      rw [hcount, hyw]
      simp only [ClaimRecord.runWidth, hx]
      split <;> omega

theorem trimmedRun_narrower {x y : Run} {n : Nat} (hn : runHas x n = true) (h : trimmedRun x n = some y) :
    0 < y.width ∧ y.width < x.width := by
  obtain ⟨h1, h2⟩ := runHas_iff.mp hn
  unfold trimmedRun runLast at h
  dsimp only at h
  split at h
  · cases h
  · split at h <;> cases h <;> dsimp only <;> omega

theorem dropLastTile_narrower {x y : Run} (h : dropLastTile x = some y) : 0 < y.width ∧ y.width < x.width := by
  unfold dropLastTile at h
  split at h
  · cases h
  · cases h; dsimp only; omega

theorem cutTop_coreKept {r : Nat} (cut : List Nat) {s : State} (h : TableCore [] s) (htop : TopOut s) {x : Run}
    (hd : (s.claim r).isData = true) (hx : (s.claim r).run = some x) : CoreKept s (cutTop r cut s) := by
  obtain ⟨hclaims, hloans, -, -, -⟩ := cutTop_cutsTop cut hx
  refine h.one htop (lt_length_of_run hx) (keeping_changes h hd hx _ fun y hy => dropLastTile_narrower hy) hclaims ?_
  rw [hloans]; split
  · rfl
  · exact orphanLoans_view _ _ _

theorem cutHighest_coreKept (k : Nat) : ∀ (cut : List Nat) {s : State}, TableCore [] s → TopOut s →
    CoreKept s (cutHighest k cut s) ∧ OnlyData s (cutHighest k cut s) := by
  induction k with
  | zero => exact fun _ _ h htop => ⟨⟨h, htop, le_rfl⟩, .refl _⟩
  | succ k ih =>
    intro cut s h htop; unfold cutHighest; split
    · rename_i r hr
      have hh := highestData_highest s
      rw [hr] at hh
      obtain ⟨x, hd, hx, -⟩ := hh
      have hcut := cutTop_coreKept cut h htop hd hx
      obtain ⟨hkept, hdata⟩ := ih (r :: cut) hcut.core hcut.top
      exact ⟨hcut.trans hkept, (cutTop_onlyData cut (isData_iff.mp hd).1 hx).trans hdata⟩
    · exact ⟨⟨h, htop, le_rfl⟩, .refl s⟩

/-- Where only DATA records have changed, the other grant records are still right. -/
theorem OnlyData.but {s t : State} (h : OnlyData s t) (hg : GrantsBut .data s) : GrantsBut .data t := by
  intro j hj
  have hof : t.grants.of j = s.grants.of j := by
    cases j with
    | data => exact absurd rfl hj
    | video => exact h.video
    | voice => exact h.voice
  rw [hof, hg j hj]
  exact (h.grantEntries hj).symm

theorem GrantLaw.toBut {s : State} (h : GrantLaw s) (k : ServiceClass) : GrantsBut k s := fun j _ => grantLaw_iff.mp h j

theorem topDownTrim_keeps (k : Nat) {s : State} (h : TableForm s) : Keeps s (topDownTrim k s) := by
  unfold topDownTrim; split
  · exact h.refl
  · obtain ⟨hkept, hdata⟩ := cutHighest_coreKept k [] h.toTableCore h.top
    have hg : GrantsBut .data (urgentRequest (cutHighest k [] s)) := hdata.but (h.grants.toBut .data)
    exact CoreKept.granted ⟨⟨hkept.core.length, hkept.core.record, ⟨hkept.core.links.link, hkept.core.links.slot⟩,
      ⟨hkept.core.loans.capacity, hkept.core.loans.borrower, hkept.core.loans.parked, hkept.core.loans.entry⟩⟩, hkept.top,
      hkept.held⟩ (hg.commit .trimmed none)

/-- The returned tiles are granted, and trimmed to the ceiling (R160, R147). -/
theorem grantReturns_keeps {v : State} (hcore : TableCore [] v) (htop : TopOut v) (hg : GrantsBut .data v) :
    Keeps v (grantReturns v) := by
  by_cases h : grantEntries v.claims .data = v.grants.data.entries
  · rw [grantReturns_unmoved h]
    refine CoreKept.granted ⟨hcore, htop, le_rfl⟩ (grantLaw_iff.mpr fun k => ?_)
    by_cases hk : k = .data
    · rw [hk]; exact h.symm
    · exact hg k hk
  · rw [grantReturns_moved h]
    have hcommit : TableForm (commitGrant .data .returned none v) :=
      { hcore with
        links := ⟨hcore.links.link, hcore.links.slot⟩
        loans := ⟨hcore.loans.capacity, hcore.loans.borrower, hcore.loans.parked, hcore.loans.entry⟩
        top := htop
        grants := hg.commit .returned none }
    exact ⟨(topDownTrim_keeps _ hcommit).1, (topDownTrim_keeps _ hcommit).2⟩

/-! ### Unwindings -/

theorem TableCore.unwinding {s : State} (h : TableCore [] s) : Unwinding [] s := ⟨h.record, h.loans, nofun⟩

/-- PARKED borrowers count (R79). -/
theorem TableCore.borrowersCount {s : State} (h : TableCore [] s) : BorrowersCount [] s := fun q _ hp => by
  have hp := hp.resolve_right nofun
  exact counted_iff.mpr ⟨.inr (.inr (.inr hp)), (h.links.solo_of_not_keeps (by rw [hp]; rfl)).1⟩

/-- A return changes PARKED records and lenders only, which have no links. -/
theorem Returned.unlinked {s : State} (hs : LinksForm s) {q : Nat} {d : ClaimRecord} (h : Returned [] q (s.claim q) d)
    (hq : d ≠ s.claim q) : (s.claim q).Solo ∧ d.Solo ∧ (d.phase.keepsSlot = true →
      (s.claim q).phase.keepsSlot = true ∧ d.cls = (s.claim q).cls ∧ d.slot = (s.claim q).slot) := by
  rcases h with k | ⟨-, hp, k⟩ | ⟨hc, hp, x, k⟩
  · exact absurd k hq
  · have hp := hp.resolve_right nofun
    rw [k]
    exact ⟨hs.solo_of_not_keeps (by rw [hp]; rfl), ⟨rfl, rfl, nofun⟩, nofun⟩
  · have hsolo := hs.data_solo hc
    rw [k]
    exact ⟨hsolo, hsolo, fun hk => ⟨hk, rfl, rfl⟩⟩

/-- The grant records of video and voice do not see a return by a PARKED record. -/
theorem Returned.shown {q : Nat} {c d : ClaimRecord} (h : Returned [] q c d) {k : ServiceClass} (hk : k ≠ .data) :
    d.shown k = c.shown k := by
  rcases h with e | ⟨-, hp, e⟩ | ⟨hc, -, x, e⟩
  · rw [e]
  · have hp := hp.resolve_right nofun
    rw [e, shown_of_phase (by rfl), shown_of_phase (by rw [hp]; rfl)]
  · rw [e, shown_of_cls (c := c) (by rw [hc]; exact hk.symm)]
    exact shown_of_cls (by show c.cls ≠ k; rw [hc]; exact hk.symm)

theorem UnwindsTo.linksForm {s t : State} (h : UnwindsTo [] s t) (hs : LinksForm s) : LinksForm t := by
  have hchange : ∀ q, t.claim q ≠ s.claim q → _ := fun q hq => (h.change q).unlinked hs hq
  exact hs.sever (fun q => t.claim q ≠ s.claim q) (fun q hq => by rw [not_not.mp hq])
    (fun q p hq hl => absurd hl (LinksForm.not_linked (hchange q hq).1 p)) (fun q hq => (hchange q hq).2.1)
    (fun q hq => (hchange q hq).2.2) fun q p hq hl => absurd hl (LinksForm.not_linked (hchange q hq).1 p)

theorem unwind_keeps {s : State} (h : TableCore [] s) (hg : GrantLaw s) : Keeps s (unwind s) := by
  have hu := unwindStack_unwindsTo s.loans.length h.unwinding
  have htop := unwindStack_top s
  rw [unwind_eq]
  generalize unwindStack s.loans.length s = u at hu htop
  have hcore : TableCore [] u := ⟨hu.length.trans h.length, hu.unwinding.record, hu.linksForm h.links, hu.unwinding.loans⟩
  have hbut : GrantsBut .data u := hg.but .data hu.length hu.grants fun q j hj => (hu.change q).shown hj
  have hkeep := grantReturns_keeps hcore htop hbut
  exact ⟨hkeep.1, hkeep.2.trans (hu.held h.borrowersCount).2⟩

/-! ### Lost loans -/

/-- Record `r` has lost its tiles, its loan with them, if it had one (R157). -/
theorem TableForm.lost {s v : State} (h : TableForm s) (r : Nat) (hlen : v.claims.length = s.claims.length)
    (hrec : ∀ q, RecordLaw (v.claim q)) (hlinks : LinksForm v) (hfree : (v.claim r).onLoan = none)
    (hphase : (v.claim r).phase ≠ .parked) (hloan : ∀ q, q ≠ r → LoanKept (s.claim q) (v.claim q))
    (hloans : v.loans = s.loans) (hg : GrantLaw v) (hheld : heldTotal v ≤ heldTotal s) :
    Keeps s (voidLoanOf r (s.claim r) v) := by
  unfold voidLoanOf
  cases hi : (s.claim r).onLoan with
  | none =>
    refine (h.calm h.top hlen hrec hlinks (fun q => ?_) (by rw [hloans]) hheld).granted hg
    by_cases hq : q = r
    · rw [hq]; exact .without hi hfree hphase
    · exact hloan q hq
  | some i =>
    obtain ⟨-, e, he, hb, hgen, -, hst⟩ := h.loans.borrower r i hi
    have hev : v.loans[i]? = some e := by rw [hloans]; exact he
    dsimp only
    rw [voidLoan_names hev hb hgen (by rw [hst]; split <;> nofun)]
    have hform : LoansForm [] (markLoan i .void v) := h.loans.lose (t := markLoan i .void v) hi hfree hphase hloan
      (by rw [markLoan_loans, hloans])
    have hcore : TableCore [] (markLoan i .void v) := ⟨hlen.trans h.length, hrec, ⟨hlinks.link, hlinks.slot⟩, hform⟩
    split
    · have hkeep := unwind_keeps hcore hg
      exact ⟨hkeep.1, hkeep.2.trans hheld⟩
    · rename_i htop
      refine CoreKept.granted ⟨hcore, ?_, hheld⟩ hg
      have hlast : (markLoan i .void v).loans.getLast? = s.loans.getLast? := by
        rw [markLoan_set hev, hloans, List.getLast?_eq_getElem?, List.getLast?_eq_getElem?, List.length_set,
          List.getElem?_set_ne (by rw [hloans] at htop; have := (List.getElem?_eq_some_iff.mp he).1; omega)]
      show ∀ y ∈ (markLoan i .void v).loans.getLast?, y.state = .out
      rw [hlast]; exact h.top

end Sys2Proof.Machine

/-! Loss, noise and quiet notices keep the form of the Claim Table (R87 to R92, R123, R129 to R133; for O59). -/

namespace Sys2Proof.Machine

/-! ### Records by phase -/

section
variable {s : State} (h : TableCore [] s) {r : Nat}
include h

theorem TableCore.run_of_holds (hp : (s.claim r).phase.holds = true) : ∃ x, (s.claim r).run = some x :=
  Option.isSome_iff_exists.mp ((h.record r).1.mpr hp)

theorem TableCore.run_none (hp : (s.claim r).phase.holds = false) : (s.claim r).run = none := by
  cases hx : (s.claim r).run with
  | none => rfl
  | some x =>
    have := (h.record r).1.mp (by rw [hx]; rfl)
    rw [hp] at this; cases this

theorem TableCore.onLoan_none (hp : (s.claim r).phase.holds = false ∨ (s.claim r).phase = .tentative) :
    (s.claim r).onLoan = none := by
  obtain ⟨-, -, htent, -⟩ := h.record r
  exact hp.elim (fun k => h.loans.onLoan_none (h.run_none k)) fun k => (htent k).2

/-- MOVING, DRAINING and PARKED records are not DATA (R141, R142). -/
theorem TableCore.not_data (hp : (s.claim r).phase = .moving ∨ (s.claim r).phase = .draining ∨ (s.claim r).phase = .parked) :
    (s.claim r).cls ≠ .data := fun hd => by
  obtain ⟨-, -, -, hdata⟩ := h.record r
  rcases (hdata hd).1 with k | k | k | k <;> rw [k] at hp <;> rcases hp with hp | hp | hp <;> cases hp

theorem TableCore.solo_tentative (hp : (s.claim r).phase = .seeking ∨ (s.claim r).phase = .tentative)
    (hn : (s.claim r).predecessor = none) : (s.claim r).Solo := by
  refine ⟨hn, h.links.successor_none ?_ ?_, ?_⟩ <;> rcases hp with k | k <;> rw [k] <;> nofun

theorem TableCore.solo_held (hp : (s.claim r).phase = .held) (hn : (s.claim r).successor = none) : (s.claim r).Solo :=
  ⟨h.links.predecessor_none (by rw [hp]; nofun) (by rw [hp]; nofun), hn, by rw [hp]; nofun⟩

end

/-- A record that stays in its loan. -/
theorem loanKept_of {c d : ClaimRecord} (hl : d.onLoan = c.onLoan) (hc : d.cls = c.cls) (hg : d.generation = c.generation)
    (hx : d.run = c.run) (hp : c.phase ≠ .parked) (hd : d.phase ≠ .parked) : LoanKept c d :=
  ⟨hl, fun _ => ⟨hc, hg, hx, ⟨fun k => absurd k hd, fun k => absurd k hp⟩⟩, fun _ => hd⟩

theorem heldTiles_of_run {c : ClaimRecord} {x : Run} (hx : c.run = some x) :
    c.heldTiles = if c.counted = true then x.width else 0 := by simp [ClaimRecord.heldTiles, ClaimRecord.runWidth, hx]

/-- A change of the phase of a record without links that keeps its run adds no held tile while it counted before. -/
theorem heldTiles_le_of_run {c d : ClaimRecord} (hx : d.run = c.run) (hc : d.counted = true → c.counted = true) :
    d.heldTiles ≤ c.heldTiles := by
  unfold ClaimRecord.heldTiles ClaimRecord.runWidth
  rw [hx]; split
  · rename_i hd; rw [if_pos (hc hd)]
  · exact Nat.zero_le _

theorem recordLaw_without {c : ClaimRecord} (hp : c.phase = .free ∨ c.phase = .seeking) (hx : c.run = none)
    (hw : c.cls = .data → c.phase = .seeking → c.width = 1) : RecordLaw c := by
  refine ⟨?_, fun x k => (by rw [hx] at k; cases k), fun k => ?_, fun hd => ⟨hp.elim .inl fun k => .inr (.inl k), fun k => ?_, fun k => ?_⟩⟩
  · rw [hx]; rcases hp with k | k <;> rw [k] <;> exact ⟨nofun, nofun⟩
  · rcases hp with k' | k' <;> cases k'.symm.trans k
  · rcases k with k | k
    · exact hw hd k
    · rcases hp with k' | k' <;> cases k'.symm.trans k
  · rcases hp with k' | k' <;> cases k'.symm.trans k

/-- A record that is not DATA, HELD, MOVING or DRAINING with its run. -/
theorem recordLaw_holding {c : ClaimRecord} (hp : c.phase = .held ∨ c.phase = .moving ∨ c.phase = .draining ∨ c.phase = .parked)
    (hd : c.cls ≠ .data) (hx : c.run.isSome = true) (hw : ∀ x ∈ c.run, x.width = c.width) : RecordLaw c := by
  refine ⟨⟨fun _ => ?_, fun _ => hx⟩, hw, fun k => ?_, fun k => absurd k hd⟩
  · rcases hp with k | k | k | k <;> rw [k] <;> rfl
  · rcases hp with k' | k' | k' | k' <;> cases k'.symm.trans k

/-! ### A change of two records -/

/-- Records `r` and `p` become `c` and `d`. -/
structure PairChange (s t : State) (r : Nat) (c : ClaimRecord) (p : Nat) (d : ClaimRecord) : Prop where
  length : t.claims.length = s.claims.length
  self : t.claim r = c
  partner : t.claim p = d
  others : ∀ q, q ≠ r → q ≠ p → t.claim q = s.claim q

section
variable {s t : State} {r p : Nat} {c d : ClaimRecord}

theorem pairChange_of_set (hr : r < s.claims.length) (hp : p < s.claims.length) (hne : r ≠ p)
    (h : t.claims = (s.claims.set r c).set p d) : PairChange s t r c p d where
  length := by rw [h, List.length_set, List.length_set]
  self := (claim_of_set_other (s := setClaim r c s) h hne).trans (claim_setClaim_same c hr)
  partner := claim_of_set_same (s := setClaim r c s) h (by simpa using hp)
  others q hqr hqp := (claim_of_set_other (s := setClaim r c s) h hqp).trans (claim_setClaim_other c hqr)

theorem PairChange.all (h : PairChange s t r c p d) {P : Nat → ClaimRecord → Prop} (hr : P r c) (hp : P p d)
    (hs : ∀ q, q ≠ r → q ≠ p → P q (s.claim q)) (q : Nat) : P q (t.claim q) := by
  by_cases hqr : q = r
  · subst hqr; rw [h.self]; exact hr
  · by_cases hqp : q = p
    · subst hqp; rw [h.partner]; exact hp
    · rw [h.others q hqr hqp]; exact hs q hqr hqp

theorem PairChange.heldTotal (h : PairChange s t r c p d) (hr : r < s.claims.length) (hp : p < s.claims.length) (hne : r ≠ p)
    (hpass : c.heldTiles + d.heldTiles ≤ (s.claim r).heldTiles + (s.claim p).heldTiles) :
    Machine.heldTotal t ≤ Machine.heldTotal s :=
  heldTotal_pass h.length hr hp hne (fun q hqr hqp => by rw [h.others q hqr hqp]) (by rw [h.self, h.partner]; exact hpass)

/-- Two records change with their loans left as they are. -/
theorem PairChange.coreKept (h : PairChange s t r c p d) (hs : TableCore [] s) (htop : TopOut s) (hr : r < s.claims.length)
    (hp : p < s.claims.length) (hne : r ≠ p) (hrec : RecordLaw c) (hrec' : RecordLaw d) (hlinks : LinksForm t)
    (hloan : LoanKept (s.claim r) c) (hloan' : LoanKept (s.claim p) d) (hloans : t.loans = s.loans)
    (hpass : c.heldTiles + d.heldTiles ≤ (s.claim r).heldTiles + (s.claim p).heldTiles) : CoreKept s t :=
  hs.calm htop h.length (h.all (P := fun _ => RecordLaw) hrec hrec' fun q _ _ => hs.record q) hlinks
    (h.all (P := fun q e => LoanKept (s.claim q) e) hloan hloan' fun q _ _ => hs.loanKept q) (by rw [hloans])
    (h.heldTotal hr hp hne hpass)

theorem PairChange.grantLaw (h : PairChange s t r c p d) (hs : GrantLaw s) (hg : t.grants = s.grants)
    (hc : ∀ k, c.shown k = (s.claim r).shown k) (hd : ∀ k, d.shown k = (s.claim p).shown k) : GrantLaw t :=
  hs.congr h.length hg fun q k => h.all (P := fun q e => e.shown k = (s.claim q).shown k) (hc k) (hd k) (fun _ _ _ => rfl) q

theorem PairChange.grantsBut (h : PairChange s t r c p d) (hs : GrantLaw s) (k : ServiceClass) (hg : t.grants = s.grants)
    (hc : ∀ j, j ≠ k → c.shown j = (s.claim r).shown j) (hd : ∀ j, j ≠ k → d.shown j = (s.claim p).shown j) : GrantsBut k t :=
  hs.but k h.length hg fun q j hj =>
    h.all (P := fun q e => e.shown j = (s.claim q).shown j) (hc j hj) (hd j hj) (fun _ _ _ => rfl) q

end

/-- A record that is not granted before and after shows nothing. -/
theorem shown_hidden {c d : ClaimRecord} (hc : c.phase.granted = false) (hd : d.phase.granted = false) (k : ServiceClass) :
    d.shown k = c.shown k := (shown_of_phase hd).trans (shown_of_phase hc).symm

/-- Other services do not see a record of service `k`. -/
theorem shown_other {c d : ClaimRecord} (h : d.cls = c.cls) {j : ServiceClass} (hj : j ≠ c.cls) : d.shown j = c.shown j :=
  (shown_of_cls (by rw [h]; exact hj.symm)).trans (shown_of_cls hj.symm).symm

/-- HELD and MOVING are alike to a grant record (R95). -/
theorem shown_granted {c d : ClaimRecord} (hcls : d.cls = c.cls) (hslot : d.slot = c.slot) (hx : d.run = c.run)
    (hc : c.phase.granted = true) (hd : d.phase.granted = true) (k : ServiceClass) : d.shown k = c.shown k := by
  simp [ClaimRecord.shown, hcls, hslot, hx, hc, hd]

/-! ### Losses -/

section
variable {s : State} (h : TableForm s) {r : Nat}
include h

theorem tentativeLoss_keeps (hp : (s.claim r).phase = .tentative) (hn : (s.claim r).predecessor = none) :
    Keeps s (tentativeLoss r s) := by
  have hr := lt_length_of_not_free (s := s) (r := r) (by rw [hp]; nofun)
  obtain ⟨-, -, -, hdata⟩ := h.record r
  have hclaims : (tentativeLoss r s).claims = s.claims.set r (s.claim r).outbid := by
    rw [tentativeLoss_eq]; split <;> rfl
  have hkeep : (tentativeLoss r s).loans = s.loans ∧ (tentativeLoss r s).grants = s.grants := by
    rw [tentativeLoss_eq]; split <;> exact ⟨rfl, rfl⟩
  have hsolo := h.solo_tentative (.inr hp) hn
  have hon := h.onLoan_none (.inr hp)
  have hchange : Changes s r (s.claim r).outbid :=
    ⟨recordLaw_without (.inr rfl) rfl fun hd _ => (hdata hd).2.1 (.inr hp),
      .inr ⟨hsolo, ⟨hsolo.1, hsolo.2.1, nofun⟩, fun _ => ⟨by rw [hp]; rfl, rfl, rfl⟩⟩, .without hon hon nofun, by
        rw [heldTiles_unrun (c := (s.claim r).outbid) rfl]; exact Nat.zero_le _⟩
  refine (h.one h.top hr hchange hclaims (by rw [hkeep.1])).granted ?_
  exact h.grants.one hclaims hkeep.2 (shown_hidden (by rw [hp]; rfl) rfl)

/-- The single-tile trim of a HELD DATA record, with its one change of the data grant (R89, R91, R145). -/
theorem trimTile_keeps {x : Run} {n : Nat} (hp : (s.claim r).phase = .held) (hd : (s.claim r).cls = .data)
    (hx : (s.claim r).run = some x) (hn : runHas x n = true) (c : GrantCause) (d : Option Nat) :
    Keeps s (commitGrant .data c d (trimTile r n s)) := by
  have hdata : (s.claim r).isData = true := isData_iff.mpr ⟨hd, .inr hp⟩
  have hclaims := trimTile_claims (t := n) hx
  have hchange := keeping_changes h.toTableCore hdata hx (kept := trimmedRun x n) ((s.claim r).generation + 1)
    fun y hy => trimmedRun_narrower hn hy
  have hloans : (trimTile r n s).loans.map (·.loanView) = s.loans.map (·.loanView) := by
    rw [trimTile_eq hx]; exact orphanLoans_view _ _ _
  have hcls : (ClaimRecord.keeping { s.claim r with generation := (s.claim r).generation + 1 } (trimmedRun x n)).cls =
      (s.claim r).cls := by cases trimmedRun x n <;> rfl
  have hkept := h.one (t := commitGrant .data c d (trimTile r n s)) h.top (lt_length_of_run hx) hchange hclaims hloans
  refine hkept.granted (GrantsBut.commit (h.grants.oneBut .data hclaims (trimTile_grants r n s) fun j hj => ?_) c d)
  exact shown_other hcls (by rw [hd]; exact hj)

theorem heldLoss_keeps (w : Nat) (hp : (s.claim r).phase = .held) (hk : (s.claim r).cls ≠ .data) : Keeps s (heldLoss r w s) := by
  have hr := lt_length_of_not_free (s := s) (r := r) (by rw [hp]; nofun)
  have hpred : (s.claim r).predecessor = none := h.links.predecessor_none (by rw [hp]; nofun) (by rw [hp]; nofun)
  obtain ⟨hself, hother⟩ := relocated_claim hr
  have hrel : (s.claim r).relocating.Solo := ⟨hpred, rfl, nofun⟩
  have hrec : RecordLaw (s.claim r).relocating := recordLaw_without (.inr rfl) rfl fun k => absurd k hk
  have hloans := (relocatedAndGranted_keeps r w s).1
  obtain ⟨hfgrants, -⟩ := freeSuccessor_keeps (s.claim r) (requestPlacement r (relocated r s))
  rw [heldLoss_eq]
  change Keeps s (voidLoanOf r (s.claim r) (relocatedAndGranted r w s))
  cases hsucc : (s.claim r).successor with
  | none =>
    have hclaims : (relocatedAndGranted r w s).claims = s.claims.set r (s.claim r).relocating := by
      show (freeSuccessor (s.claim r) (requestPlacement r (relocated r s))).claims = _
      rw [freeSuccessor, hsucc]; rfl
    have hv : (relocatedAndGranted r w s).claim r = (s.claim r).relocating := claim_of_set_same hclaims hr
    have ho : ∀ q, q ≠ r → (relocatedAndGranted r w s).claim q = s.claim q := fun q hq => claim_of_set_other hclaims hq
    refine h.lost r (by rw [hclaims, List.length_set]) (fun q => ?_) ?_ (by rw [hv]; rfl) (by rw [hv]; nofun)
      (fun q hq => by rw [ho q hq]; exact h.loanKept q) hloans ?_ ?_
    · by_cases hq : q = r
      · rw [hq, hv]; exact hrec
      · rw [ho q hq]; exact h.record q
    · exact h.links.solo (h.solo_held hp hsucc) (by rw [hv]; exact hrel) (fun q hq => by rw [ho q hq])
        (by rw [hv, hp]; exact fun _ => ⟨rfl, rfl, rfl⟩)
    · have hbut := h.grants.oneBut (t := freeSuccessor (s.claim r) (requestPlacement r (relocated r s))) (s.claim r).cls hclaims
        hfgrants fun j hj => shown_other (c := s.claim r) (d := (s.claim r).relocating) rfl hj
      exact hbut.commit .lost (some w)
    · refine heldTotal_le (by rw [hclaims, List.length_set]) fun q => ?_
      by_cases hq : q = r
      · rw [hq, hv, heldTiles_unrun rfl]; exact Nat.zero_le _
      · rw [ho q hq]
  | some q =>
    obtain ⟨-, hqp⟩ := h.links.successor hsucc
    have hqs : (s.claim q).phase = .seeking := ((h.links.successor_phase hsucc).resolve_right fun k => by
      rw [hp] at k; cases k.2).1
    have hne : q ≠ r := fun k => by rw [k, hp] at hqs; cases hqs
    have hql := lt_length_of_not_free (s := s) (r := q) (by rw [hqs]; nofun)
    have hclaim := freeSuccessor_claim (s.claim r) (requestPlacement r (relocated r s))
    have hpair : PairChange s (relocatedAndGranted r w s) q (s.claim q).freed r (s.claim r).relocating := by
      refine ⟨?_, (hclaim q).trans ?_, (hclaim r).trans ?_, fun j hjq hjr => (hclaim j).trans ?_⟩
      · show (freeSuccessor (s.claim r) (requestPlacement r (relocated r s))).claims.length = _
        unfold freeSuccessor; split <;> simp [relocated, urgentIf]
      · rw [if_pos hsucc, hother q hne]
      · rw [hsucc, if_neg fun k => hne (Option.some.inj k), hself]
      · rw [hsucc, if_neg fun k => hjq (Option.some.inj k).symm, hother j hjr]
    have hqon := h.onLoan_none (r := q) (.inl (by rw [hqs]; rfl))
    refine h.lost r hpair.length (hpair.all (P := fun _ => RecordLaw) (freed_recordLaw _) hrec fun q _ _ => h.record q) ?_
      (by rw [hpair.partner]; rfl) (by rw [hpair.partner]; nofun) (fun j hj => ?_) hloans ?_ ?_
    · refine h.links.part hqp (by rw [hpair.self]; exact freed_solo _) (by rw [hpair.partner]; exact hrel)
        (fun j hjq hjr => by rw [hpair.others j hjq hjr]) (by rw [hpair.self]; exact ⟨rfl, rfl⟩)
        (by rw [hpair.partner]; exact ⟨rfl, rfl⟩) (.inl (by rw [hpair.self]; rfl))
    · by_cases hjq : j = q
      · rw [hjq, hpair.self]; exact .without hqon rfl nofun
      · rw [hpair.others j hjq hj]; exact h.loanKept j
    · have hbut : GrantsBut (s.claim r).cls (freeSuccessor (s.claim r) (requestPlacement r (relocated r s))) :=
        PairChange.grantsBut (t := freeSuccessor (s.claim r) (requestPlacement r (relocated r s)))
          ⟨hpair.length, hpair.self, hpair.partner, hpair.others⟩ h.grants _ hfgrants
          (fun j _ => shown_hidden (by rw [hqs]; rfl) rfl j)
          fun j hj => shown_other (c := s.claim r) (d := (s.claim r).relocating) rfl hj
      exact hbut.commit .lost (some w)
    · refine hpair.heldTotal hql hr hne ?_
      rw [heldTiles_unrun rfl, heldTiles_unrun rfl]; exact Nat.zero_le _

theorem movingLoss_keeps (w : Nat) (hp : (s.claim r).phase = .moving) : Keeps s (movingLoss r w s) := by
  have hr := lt_length_of_not_free (s := s) (r := r) (by rw [hp]; nofun)
  obtain ⟨x, hx⟩ := h.run_of_holds (r := r) (by rw [hp]; rfl)
  obtain ⟨q, hsucc⟩ := Option.isSome_iff_exists.mp ((h.links.link r).2.2 hp)
  obtain ⟨-, hqp⟩ := h.links.successor hsucc
  obtain ⟨-, -, hqd, -, -, hwidth, -⟩ := h.links.predecessor hqp
  have hqt : (s.claim q).phase = .tentative := ((h.links.successor_phase hsucc).resolve_left fun k => by
    rw [hp] at k; cases k.2).1
  have hne : q ≠ r := fun k => by rw [k, hp] at hqt; cases hqt
  have hql := lt_length_of_not_free (s := s) (r := q) (by rw [hqt]; nofun)
  obtain ⟨y, hy⟩ := h.run_of_holds (r := q) (by rw [hqt]; rfl)
  obtain ⟨hself, hother⟩ := succeeded_claim (s := s) hr fun j hj => by
    rw [hsucc] at hj; exact Option.some.inj hj ▸ hne
  obtain ⟨hgrants, hloans, -⟩ := succeeded_keeps r s
  rw [movingLoss_eq hx]
  set d : ClaimRecord := { s.claim q with predecessor := none, seekReason := .relocate } with hd
  have hqs : (s.claim q).successor = none := h.links.successor_none (by rw [hqt]; nofun) (by rw [hqt]; nofun)
  have hpair : PairChange s (succeeded r s) q d r (s.claim r).ended := by
    refine ⟨?_, (hother q hne).trans (if_pos ⟨hsucc, hql⟩), hself, fun j hjq hjr => (hother j hjr).trans (if_neg fun k => ?_)⟩
    · unfold succeeded; split <;> simp [inheritSuccessor, urgentIf]
    · rw [hsucc] at k; exact hjq (Option.some.inj k.1).symm
  have hqon := h.onLoan_none (r := q) (.inr hqt)
  have hrec : RecordLaw d := by
    obtain ⟨h1, h2, h3, h4⟩ := h.record q
    exact ⟨h1, h2, h3, h4⟩
  refine h.lost (v := commitGrant _ _ _ (succeeded r s)) r hpair.length
    (hpair.all (P := fun _ => RecordLaw) hrec (ended_recordLaw _) fun q _ _ => h.record q) ?_ (by
      rw [show (commitGrant _ _ _ (succeeded r s)).claim r = _ from hpair.partner]; rfl) (by
      rw [show (commitGrant _ _ _ (succeeded r s)).claim r = _ from hpair.partner]; nofun) (fun j hj => ?_) hloans
    ((hpair.grantsBut h.grants _ hgrants (fun j _ => rfl) fun j hj =>
      shown_other (c := s.claim r) (d := (s.claim r).ended) rfl hj).commit _ _) ?_
  · have := h.links.part (t := succeeded r s) hqp (by rw [hpair.self]; exact ⟨rfl, hqs, by show (s.claim q).phase ≠ _; rw [hqt]; nofun⟩)
      (by rw [hpair.partner]; exact ⟨rfl, rfl, nofun⟩) (fun j hjq hjr => by rw [hpair.others j hjq hjr])
      (by rw [hpair.self]; exact ⟨rfl, rfl⟩) (by rw [hpair.partner]; exact ⟨rfl, rfl⟩) (.inr (by rw [hpair.partner]; rfl))
    exact ⟨this.link, this.slot⟩
  · by_cases hjq : j = q
    · rw [hjq, show (commitGrant _ _ _ (succeeded r s)).claim q = _ from hpair.self]
      exact .without hqon hqon (by show (s.claim q).phase ≠ _; rw [hqt]; nofun)
    · rw [show (commitGrant _ _ _ (succeeded r s)).claim j = _ from hpair.others j hjq hj]; exact h.loanKept j
  · refine hpair.heldTotal hql hr hne ?_
    have hrc : (s.claim r).counted = true := counted_iff.mpr ⟨.inr (.inr (.inl hp)),
      h.links.predecessor_none (by rw [hp]; nofun) (by rw [hp]; nofun)⟩
    have hrw := (h.record r).2.1 x hx
    have hqw := (h.record q).2.1 y hy
    have hle : d.heldTiles ≤ d.runWidth := heldTiles_le d
    have hdw : d.runWidth = y.width := by simp [hd, ClaimRecord.runWidth, hy]
    rw [heldTiles_unrun (c := (s.claim r).ended) rfl, heldTiles_of_run hx, if_pos hrc]
    omega

theorem releaseAndFree_keeps (hp : (s.claim r).phase = .draining ∨ (s.claim r).phase = .parked) :
    Keeps s (releaseAndFree r s) := by
  have hr := lt_length_of_not_free (s := s) (r := r) (by rcases hp with k | k <;> rw [k] <;> nofun)
  obtain ⟨x, hx⟩ := h.run_of_holds (r := r) (by rcases hp with k | k <;> rw [k] <;> rfl)
  rw [releaseAndFree_eq (by rw [hx]; rfl)]
  have hclaims : (urgentIf true (setClaim r (s.claim r).ended s)).claims = s.claims.set r (s.claim r).ended := rfl
  have hv := claim_of_set_same (t := urgentIf true (setClaim r (s.claim r).ended s)) hclaims hr
  have ho : ∀ q, q ≠ r → (urgentIf true (setClaim r (s.claim r).ended s)).claim q = s.claim q :=
    fun q hq => claim_of_set_other hclaims hq
  refine h.lost r (by rw [hclaims, List.length_set]) (fun q => ?_) ?_ (by rw [hv]; rfl) (by rw [hv]; nofun)
    (fun q hq => by rw [ho q hq]; exact h.loanKept q) rfl ?_ ?_
  · by_cases hq : q = r
    · rw [hq, hv]; exact ended_recordLaw _
    · rw [ho q hq]; exact h.record q
  · exact h.links.solo (h.links.solo_of_not_keeps (by rcases hp with k | k <;> rw [k] <;> rfl)) (by rw [hv]; exact ⟨rfl, rfl, nofun⟩)
      (fun q hq => by rw [ho q hq]) (by rw [hv]; exact nofun)
  · exact h.grants.one hclaims rfl (shown_hidden (by rcases hp with k | k <;> rw [k] <;> rfl) rfl)
  · refine heldTotal_le (by rw [hclaims, List.length_set]) fun q => ?_
    by_cases hq : q = r
    · rw [hq, hv, heldTiles_unrun rfl]; exact Nat.zero_le _
    · rw [ho q hq]

end

end Sys2Proof.Machine

/-! Migrations, and the notices that start and end them, keep the form of the Claim Table (R87 to R92, R122 to R133; for O59). -/

namespace Sys2Proof.Machine

/-- A successor and its predecessor change their phases together (R80, R130). -/
theorem LinksForm.rephase {s t : State} (h : LinksForm s) {r p : Nat} (hq : (s.claim r).predecessor = some p) (hr : r < 20)
    {c d : ClaimRecord} (hpair : PairChange s t r c p d)
    (hc : c.cls = (s.claim r).cls ∧ c.slot = (s.claim r).slot ∧ c.width = (s.claim r).width ∧
      c.predecessor = (s.claim r).predecessor ∧ c.successor = (s.claim r).successor)
    (hd : d.cls = (s.claim p).cls ∧ d.slot = (s.claim p).slot ∧ d.width = (s.claim p).width ∧
      d.predecessor = (s.claim p).predecessor ∧ d.successor = (s.claim p).successor)
    (hphase : c.phase = .seeking ∧ d.phase = .held ∨ c.phase = .tentative ∧ d.phase = .moving) : LinksForm t := by
  obtain ⟨hp20, hsucc, hdata, hpcls, hpslot, hpwidth, hold⟩ := h.predecessor hq
  obtain ⟨ccls, cslot, cwidth, cpred, csucc⟩ := hc
  obtain ⟨dcls, dslot, dwidth, dpred, dsucc⟩ := hd
  have hpn : (s.claim p).predecessor = none := h.predecessor_none
    (by rcases hold with ⟨-, k⟩ | ⟨-, k⟩ <;> rw [k] <;> nofun) (by rcases hold with ⟨-, k⟩ | ⟨-, k⟩ <;> rw [k] <;> nofun)
  have hrs : (s.claim r).successor = none := h.successor_none
    (by rcases hold with ⟨k, -⟩ | ⟨k, -⟩ <;> rw [k] <;> nofun) (by rcases hold with ⟨k, -⟩ | ⟨k, -⟩ <;> rw [k] <;> nofun)
  have hpartner : ∀ q u, q = r ∨ q = p → Linked s q u → u = r ∨ u = p := by
    rintro q u (rfl | rfl) (k | k)
    · rw [hrs] at k; cases k
    · exact .inr (Option.some.inj (k.symm.trans hq))
    · exact .inl (Option.some.inj (k.symm.trans hsucc))
    · rw [hpn] at k; cases k
  have hview : ∀ q, q = r ∨ q = p → (t.claim q).cls = (s.claim q).cls ∧ (t.claim q).slot = (s.claim q).slot ∧
      (s.claim q).phase.keepsSlot = true := by
    rintro q (rfl | rfl)
    · rw [hpair.self]; exact ⟨ccls, cslot, by rcases hold with ⟨k, -⟩ | ⟨k, -⟩ <;> rw [k] <;> rfl⟩
    · rw [hpair.partner]; exact ⟨dcls, dslot, by rcases hold with ⟨-, k⟩ | ⟨-, k⟩ <;> rw [k] <;> rfl⟩
  refine h.change (fun q => q = r ∨ q = p) (fun q hq => ?_) hpartner ?_ fun q u hqA hne hs => ?_
  · obtain ⟨h1, h2⟩ := not_or.mp hq; rw [hpair.others q h1 h2]
  · rintro q (rfl | rfl)
    · refine ⟨fun u hu => ?_, fun u hu => ?_, fun k => ?_⟩
      · rw [hpair.self, cpred] at hu
        obtain rfl : p = u := Option.some.inj (hq.symm.trans hu)
        rw [hpair.self, hpair.partner, ccls, cslot, cwidth, dcls, dslot, dwidth, dsucc]
        exact ⟨hp20, hsucc, hdata, hpcls, hpslot, hpwidth, hphase⟩
      · rw [hpair.self, csucc] at hu; cases hrs.symm.trans hu
      · rw [hpair.self] at k
        rcases hphase with ⟨k', -⟩ | ⟨k', -⟩ <;> cases k'.symm.trans k
    · refine ⟨fun u hu => ?_, fun u hu => ?_, fun k => ?_⟩
      · rw [hpair.partner, dpred] at hu; cases hpn.symm.trans hu
      · rw [hpair.partner, dsucc] at hu
        obtain rfl : r = u := Option.some.inj (hsucc.symm.trans hu)
        rw [hpair.self, cpred]
        exact ⟨hr, hq⟩
      · rw [hpair.partner, dsucc, hsucc]; rfl
  · obtain ⟨h1, h2, -, h4⟩ := sharesSlot_iff.mp hs
    obtain ⟨qcls, qslot, qkeep⟩ := hview q hqA
    rw [qcls] at h1
    rw [qslot] at h2
    by_cases hu : u = r ∨ u = p
    · rcases hqA with rfl | rfl <;> rcases hu with rfl | rfl
      · exact absurd rfl hne
      · exact .inr (by rw [hpair.self, cpred, hq])
      · exact .inl (by rw [hpair.partner, dsucc, hsucc])
      · exact absurd rfl hne
    · obtain ⟨hur, hup⟩ := not_or.mp hu
      rw [hpair.others u hur hup] at h1 h2 h4
      exact absurd (hpartner q u hqA (h.slot q u hne (sharesSlot_iff.mpr ⟨h1, h2, qkeep, h4⟩))) hu

section
variable {s : State} (h : TableForm s)
include h

/-! ### The end of a migration -/

/-- A HELD record that is not DATA waits on its retry timer, or no longer does (R124). -/
theorem setRetry_keeps {p : Nat} (hp : (s.claim p).phase = .held ∨ (s.claim p).phase = .seeking)
    (hd : (s.claim p).cls ≠ .data ∨ (s.claim p).phase = .seeking) (n : Option Nat) {t : State}
    (hclaims : t.claims = s.claims.set p { s.claim p with retry := n }) (hl : t.loans = s.loans) (hg : t.grants = s.grants) :
    Keeps s t := by
  have hpl := lt_length_of_not_free (s := s) (r := p) (by rcases hp with k | k <;> rw [k] <;> nofun)
  obtain ⟨h1, h2, h3, h4⟩ := h.record p
  have hrec : RecordLaw { s.claim p with retry := n } := by
    refine ⟨h1, h2, fun k => ⟨?_, (h3 k).2⟩, fun k => ⟨(h4 k).1, (h4 k).2.1, fun k' => ?_⟩⟩
    · rcases hp with k' | k' <;> cases k'.symm.trans k
    · rcases hd with hd | hd
      · exact absurd k hd
      · cases hd.symm.trans k'
  refine (h.one h.top hpl ⟨hrec, .inl rfl, h.loanKept p, le_rfl⟩ hclaims (by rw [hl])).granted ?_
  exact h.grants.one hclaims hg fun _ => rfl

theorem degrade_keeps {p : Nat} (hp : (s.claim p).phase = .held) (hd : (s.claim p).cls ≠ .data) : Keeps s (degrade p s) :=
  setRetry_keeps h (.inl hp) (.inl hd) (some Config.retryTime) (t := degrade p s) rfl rfl rfl

/-- A successor ends, and its predecessor goes on in HELD, its retry timer at `n` (R126, R129, R132). -/
theorem endSuccessor_keeps {r p : Nat} (hq : (s.claim r).predecessor = some p) {c : ClaimRecord} (hc : c.Solo)
    (hfree : c.phase = .free) (hrun : c.run = none) (hon : c.onLoan = none) (hcls : c.cls = (s.claim r).cls)
    (hslot : c.slot = (s.claim r).slot) {n : Option Nat} {t : State}
    (hpair : PairChange s t r c p { s.claim p with phase := .held, successor := none, retry := n })
    (hl : t.loans = s.loans) (hg : t.grants = s.grants) : Keeps s t := by
  obtain ⟨-, hsucc, hdata, hpcls, -, -, hphase⟩ := h.links.predecessor hq
  have hrp : (s.claim r).phase = .seeking ∨ (s.claim r).phase = .tentative := hphase.imp (·.1) (·.1)
  have hpp : (s.claim p).phase = .held ∨ (s.claim p).phase = .moving := hphase.imp (·.2) (·.2)
  have hne : r ≠ p := h.links.ne_of_linked (.inr hq)
  have hr := lt_length_of_not_free (s := s) (r := r) (by rcases hrp with k | k <;> rw [k] <;> nofun)
  have hpl := lt_length_of_not_free (s := s) (r := p) (by rcases hpp with k | k <;> rw [k] <;> nofun)
  have hpd : (s.claim p).cls ≠ .data := by rw [hpcls]; exact hdata
  have hpn : (s.claim p).predecessor = none := h.links.predecessor_none
    (by rcases hpp with k | k <;> rw [k] <;> nofun) (by rcases hpp with k | k <;> rw [k] <;> nofun)
  obtain ⟨x, hx⟩ := h.run_of_holds (r := p) (by rcases hpp with k | k <;> rw [k] <;> rfl)
  have hron : (s.claim r).onLoan = none := h.onLoan_none (hrp.imp (fun k => by rw [k]; rfl) id)
  refine (hpair.coreKept h.toTableCore h.top hr hpl hne (recordLaw_without (.inl hfree) hrun fun _ k => by cases hfree.symm.trans k)
    (recordLaw_holding (.inl rfl) hpd (by show (s.claim p).run.isSome = true; rw [hx]; rfl) (h.record p).2.1) ?_
    (.without hron hon (by rw [hfree]; nofun)) (loanKept_of rfl rfl rfl rfl
      (by rcases hpp with k | k <;> rw [k] <;> nofun) nofun) hl ?_).granted ?_
  · refine h.links.part hq (by rw [hpair.self]; exact hc) (by rw [hpair.partner]; exact ⟨hpn, rfl, nofun⟩)
      (fun j hj hj' => by rw [hpair.others j hj hj']) (by rw [hpair.self]; exact ⟨hcls, hslot⟩)
      (by rw [hpair.partner]; exact ⟨rfl, rfl⟩) (.inl (by rw [hpair.self, hfree]; rfl))
  · rw [heldTiles_unrun hrun, Nat.zero_add]
    refine le_trans (heldTiles_le_of_run (c := s.claim p) rfl fun _ => counted_iff.mpr ⟨?_, hpn⟩) (Nat.le_add_left _ _)
    exact hpp.elim (fun k => .inr (.inl k)) fun k => .inr (.inr (.inl k))
  · refine hpair.grantLaw h.grants hg (shown_hidden (by rcases hrp with k | k <;> rw [k] <;> rfl) (by rw [hfree]; rfl)) ?_
    exact shown_granted rfl rfl rfl (by rcases hpp with k | k <;> rw [k] <;> rfl) rfl

theorem successorLoss_keeps_form {r p : Nat} (hp : (s.claim r).phase = .tentative) (hq : (s.claim r).predecessor = some p) :
    Keeps s (successorLoss r p s) := by
  obtain ⟨x, hx⟩ := h.run_of_holds (r := r) (by rw [hp]; rfl)
  have hne : r ≠ p := h.links.ne_of_linked (.inr hq)
  have hr := lt_length_of_run hx
  obtain ⟨hself, hother, -⟩ := successorLoss_spec (p := p) hr hx hne.symm
  obtain ⟨hloans, hgrants, -⟩ := successorLoss_keeps (p := p) hx
  obtain ⟨-, -, -, -, -, -, hphase⟩ := h.links.predecessor hq
  have hpl := lt_length_of_not_free (s := s) (r := p) (by rcases hphase with ⟨-, k⟩ | ⟨-, k⟩ <;> rw [k] <;> nofun)
  have hpair : PairChange s (successorLoss r p s) r (s.claim r).ended p { s.claim p with
      phase := .held, successor := none, retry := if anyNoisy s p then some 2000000 else (s.claim p).retry } :=
    ⟨(successorLoss_receding r p s).length, hself, (hother p hne.symm).trans (if_pos ⟨rfl, hpl⟩),
      fun j hj hj' => (hother j hj).trans (if_neg fun k => hj' k.1)⟩
  exact endSuccessor_keeps h hq (c := (s.claim r).ended) ⟨rfl, rfl, nofun⟩ rfl rfl rfl rfl rfl hpair hloans hgrants

theorem dropSuccessor_keeps_form {p : Nat} (hp : (s.claim p).phase = .held) : Keeps s (dropSuccessor p s) := by
  unfold dropSuccessor; split
  · rename_i q hq
    obtain ⟨-, hqp⟩ := h.links.successor hq
    have hne : q ≠ p := (h.links.ne_of_linked (.inl hq)).symm
    have hpl := lt_length_of_not_free (s := s) (r := p) (by rw [hp]; nofun)
    have hqs : (s.claim q).phase = .seeking := ((h.links.successor_phase hq).resolve_right fun k => by
      rw [hp] at k; cases k.2).1
    have hql := lt_length_of_not_free (s := s) (r := q) (by rw [hqs]; nofun)
    have hpd : ({ s.claim p with successor := none } : ClaimRecord) =
        { s.claim p with phase := .held, successor := none, retry := (s.claim p).retry } := by rw [← hp]
    have hpair := pairChange_of_set (s := s) (c := (s.claim q).freed) (d := { s.claim p with successor := none })
      (t := cancel q (setClaim q (s.claim q).freed (setClaim p { s.claim p with successor := none } s))) hql hpl hne
      (List.set_comm _ _ hne.symm)
    rw [hpd] at hpair ⊢
    exact endSuccessor_keeps h hqp (freed_solo _) rfl rfl rfl rfl rfl hpair rfl rfl
  · exact h.refl

/-! ### A TENTATIVE record meets noise -/

theorem seekAgain_keeps {r : Nat} (hp : (s.claim r).phase = .tentative) (hn : (s.claim r).predecessor = none) :
    Keeps s (requestPlacement r (seekAgain r s)) := by
  have hr := lt_length_of_not_free (s := s) (r := r) (by rw [hp]; nofun)
  have hclaims : (requestPlacement r (seekAgain r s)).claims = _ := seekAgain_claims r s
  obtain ⟨-, -, -, hdata⟩ := h.record r
  have hsolo := h.solo_tentative (.inr hp) hn
  have hon := h.onLoan_none (.inr hp)
  have hchange : Changes s r { s.claim r with generation := (s.claim r).generation + 1, phase := .seeking, run := none } :=
    ⟨recordLaw_without (.inr rfl) rfl fun hd _ => (hdata hd).2.1 (.inr hp),
      .inr ⟨hsolo, ⟨hsolo.1, hsolo.2.1, nofun⟩, fun _ => ⟨by rw [hp]; rfl, rfl, rfl⟩⟩, .without hon hon nofun, by
        rw [heldTiles_unrun rfl]; exact Nat.zero_le _⟩
  exact (h.one h.top hr hchange hclaims rfl).granted (h.grants.one hclaims rfl (shown_hidden (by rw [hp]; rfl) rfl))

/-- The successor seeks again, and its predecessor is HELD again (R130). -/
theorem heldAgain_keeps {r p : Nat} (hp : (s.claim r).phase = .tentative) (hq : (s.claim r).predecessor = some p) :
    Keeps s (heldAgain p (requestPlacement r (seekAgain r s))) ∧
      ((heldAgain p (requestPlacement r (seekAgain r s))).claim p).phase = .held := by
  obtain ⟨hp20, hsucc, hdata, hpcls, hpslot, hpwidth, hphase⟩ := h.links.predecessor hq
  have hpm : (s.claim p).phase = .moving := (hphase.resolve_left fun k => by rw [hp] at k; cases k.1).2
  have hne : r ≠ p := h.links.ne_of_linked (.inr hq)
  have hr := lt_length_of_not_free (s := s) (r := r) (by rw [hp]; nofun)
  have hpl := lt_length_of_not_free (s := s) (r := p) (by rw [hpm]; nofun)
  have hpd : (s.claim p).cls ≠ .data := by rw [hpcls]; exact hdata
  have hpn : (s.claim p).predecessor = none := h.links.predecessor_none (by rw [hpm]; nofun) (by rw [hpm]; nofun)
  have hrs : (s.claim r).successor = none := h.links.successor_none (by rw [hp]; nofun) (by rw [hp]; nofun)
  obtain ⟨x, hx⟩ := h.run_of_holds (r := p) (by rw [hpm]; rfl)
  have hron := h.onLoan_none (.inr hp)
  have hpc : (requestPlacement r (seekAgain r s)).claim p = s.claim p := claim_of_set_other (seekAgain_claims r s) hne.symm
  have hpair : PairChange s (heldAgain p (requestPlacement r (seekAgain r s))) r
      { s.claim r with generation := (s.claim r).generation + 1, phase := .seeking, run := none } p
      { s.claim p with phase := .held } := by
    refine pairChange_of_set hr hpl hne ?_
    rw [heldAgain, setClaim_claims, hpc, requestPlacement_claims, seekAgain_claims]
  refine ⟨(hpair.coreKept h.toTableCore h.top hr hpl hne (recordLaw_without (.inr rfl) rfl fun k => absurd k hdata)
    (recordLaw_holding (.inl rfl) hpd (by show (s.claim p).run.isSome = true; rw [hx]; rfl) (h.record p).2.1) ?_
    (.without hron hron nofun) (loanKept_of rfl rfl rfl rfl (by rw [hpm]; nofun) nofun) rfl ?_).granted
      (hpair.grantLaw h.grants rfl (shown_hidden (by rw [hp]; rfl) rfl) (shown_granted rfl rfl rfl (by rw [hpm]; rfl) rfl)),
    by rw [hpair.partner]⟩
  · exact h.links.rephase hq (h.length ▸ hr) hpair ⟨rfl, rfl, rfl, rfl, rfl⟩ ⟨rfl, rfl, rfl, rfl, rfl⟩ (.inl ⟨rfl, rfl⟩)
  · rw [heldTiles_unrun rfl, Nat.zero_add]
    exact le_trans (heldTiles_le_of_run (c := s.claim p) rfl fun _ => counted_iff.mpr ⟨.inr (.inr (.inl hpm)), hpn⟩)
      (Nat.le_add_left _ _)

theorem tentativeNoise_keeps_form {r : Nat} (hp : (s.claim r).phase = .tentative) : Keeps s (tentativeNoise r s) := by
  cases hq : (s.claim r).predecessor with
  | none => rw [tentativeNoise_primary hq]; exact seekAgain_keeps h hp hq
  | some p =>
    obtain ⟨hkeeps, hheld⟩ := heldAgain_keeps h hp hq
    rw [tentativeNoise_successor hq]
    by_cases hclean : allQuiet (heldAgain p (requestPlacement r (seekAgain r s))) p = true
    · rw [show resumeSeeking p (requestPlacement r (seekAgain r s)) =
        dropSuccessor p (heldAgain p (requestPlacement r (seekAgain r s))) from if_pos hclean]
      exact hkeeps.trans (dropSuccessor_keeps_form hkeeps.1 hheld)
    · rw [resumeSeeking_unclean hclean]; exact hkeeps

/-! ### The start of a migration -/

theorem startMigration_keeps {p : Nat} (hp : (s.claim p).phase = .held) (hd : (s.claim p).cls ≠ .data)
    (hn : (s.claim p).successor = none) : Keeps s (startMigration p s) := by
  unfold startMigration; split
  · rename_i q hq
    obtain ⟨hql, hqf⟩ := takable_spec hq
    have hne : q ≠ p := fun k => by rw [k, hp] at hqf; cases hqf
    have hpl := lt_length_of_not_free (s := s) (r := p) (by rw [hp]; nofun)
    have hps := h.solo_held hp hn
    have hqs : (s.claim q).Solo := h.links.solo_of_not_keeps (by rw [hqf]; rfl)
    have hqon := h.onLoan_none (r := q) (.inl (by rw [hqf]; rfl))
    obtain ⟨x, hx⟩ := h.run_of_holds (r := p) (by rw [hp]; rfl)
    have hpair : PairChange s (requestPlacement q (linkSuccessor p q s)) q
        ((s.claim q).taken (s.claim p).cls (s.claim p).slot (s.claim p).width .migrate (some p)) p
        { s.claim p with successor := some q } := pairChange_of_set hql hpl hne rfl
    refine (hpair.coreKept h.toTableCore h.top hql hpl hne (recordLaw_without (.inr rfl) rfl fun k => absurd k hd)
      (recordLaw_holding (.inl hp) hd (by show (s.claim p).run.isSome = true; rw [hx]; rfl) (h.record p).2.1) ?_
      (.without hqon rfl nofun) (loanKept_of rfl rfl rfl rfl (by rw [hp]; nofun) (by show (s.claim p).phase ≠ _; rw [hp]; nofun))
      rfl ?_).granted (hpair.grantLaw h.grants rfl (shown_hidden (by rw [hqf]; rfl) rfl) fun _ => rfl)
    · refine h.links.change (fun u => u = q ∨ u = p) (fun u hu => ?_) (fun u v hu hl => ?_) ?_ fun u v hu hne' hs => ?_
      · obtain ⟨h1, h2⟩ := not_or.mp hu; rw [hpair.others u h1 h2]
      · rcases hu with rfl | rfl
        · exact absurd hl (LinksForm.not_linked hqs v)
        · exact absurd hl (LinksForm.not_linked hps v)
      · rintro u (rfl | rfl)
        · refine ⟨fun v hv => ?_, fun v hv => ?_, fun k => ?_⟩
          · rw [hpair.self] at hv
            obtain rfl : p = v := Option.some.inj hv
            rw [hpair.self, hpair.partner]
            exact ⟨(h.length ▸ hpl : p < 20), rfl, hd, rfl, rfl, rfl, .inl ⟨rfl, hp⟩⟩
          · rw [hpair.self] at hv; cases hv
          · rw [hpair.self] at k; cases k
        · refine ⟨fun v hv => ?_, fun v hv => ?_, fun k => ?_⟩
          · rw [hpair.partner] at hv; cases hps.1.symm.trans hv
          · rw [hpair.partner] at hv
            obtain rfl : q = v := Option.some.inj hv
            rw [hpair.self]
            exact ⟨(h.length ▸ hql : q < 20), rfl⟩
          · rw [hpair.partner] at k; cases hp.symm.trans k
      · obtain ⟨h1, h2, -, h4⟩ := sharesSlot_iff.mp hs
        have hview : (s.claim p).cls = (requestPlacement q (linkSuccessor p q s) |>.claim v).cls ∧
            (s.claim p).slot = (requestPlacement q (linkSuccessor p q s) |>.claim v).slot := by
          rcases hu with rfl | rfl
          · rw [hpair.self] at h1 h2; exact ⟨h1, h2⟩
          · rw [hpair.partner] at h1 h2; exact ⟨h1, h2⟩
        by_cases hv : v = q ∨ v = p
        · rcases hu with rfl | rfl <;> rcases hv with rfl | rfl
          · exact absurd rfl hne'
          · exact .inr (by rw [hpair.self]; rfl)
          · exact .inl (by rw [hpair.partner])
          · exact absurd rfl hne'
        · obtain ⟨hvq, hvp⟩ := not_or.mp hv
          rw [hpair.others v hvq hvp] at hview h4
          refine absurd (h.links.slot p v (Ne.symm hvp) ?_) (LinksForm.not_linked hps v)
          exact sharesSlot_iff.mpr ⟨hview.1, hview.2, by rw [hp]; rfl, h4⟩
    · rw [heldTiles_unrun (by rfl), Nat.zero_add]
      exact le_trans (heldTiles_le_of_run (c := s.claim p) rfl fun k => k) (Nat.le_add_left _ _)
  · exact degrade_keeps h hp hd

/-! ### The notices -/

theorem applyLoss_keeps (r : Nat) (g : BitVec 4) (n w : Nat) : Keeps s (applyLoss r g n w s) := by
  unfold applyLoss; split
  · rename_i hnotice
    obtain ⟨-, x, hx, hn⟩ := ownsTile_eq_true.mp (noticeApplies_iff.mp hnotice).1
    split
    · rename_i hp
      split
      · rename_i p hq; exact successorLoss_keeps_form h hp hq
      · rename_i hq; exact tentativeLoss_keeps h hp hq
    · rename_i hp
      split
      · rename_i hk
        have hlatched : Keeps s (latch .lost s) := h.same rfl rfl rfl
        exact hlatched.trans (trimTile_keeps hlatched.1 hp hk hx hn .lost (some w))
      · rename_i hk; exact heldLoss_keeps h w hp hk
    · rename_i hp; exact movingLoss_keeps h w hp
    · rename_i hp; exact releaseAndFree_keeps h (.inl hp)
    · rename_i hp; exact releaseAndFree_keeps h (.inr hp)
    · exact h.refl
    · exact h.refl
  · exact h.refl

theorem applyNoise_keeps (r : Nat) (g : BitVec 4) (n : Nat) : Keeps s (applyNoise r g n s) := by
  unfold applyNoise; split
  · rename_i hnotice
    obtain ⟨-, x, hx, hn⟩ := ownsTile_eq_true.mp (noticeApplies_iff.mp hnotice).1
    split
    · rename_i hp; exact tentativeNoise_keeps_form h hp
    · rename_i hp
      split
      · rename_i hk; exact trimTile_keeps h hp hk hx hn .trimmed none
      · rename_i hk
        unfold heldNoise; split
        · rename_i hs; exact startMigration_keeps h hp hk hs.1
        · exact h.refl
    · exact h.refl
  · exact h.refl

theorem applyQuiet_keeps (r : Nat) (g : BitVec 4) (n : Nat) : Keeps s (applyQuiet r g n s) := by
  unfold applyQuiet; split
  · rename_i hc
    obtain ⟨-, hp, hk, -⟩ := hc
    split
    · exact dropSuccessor_keeps_form h hp
    · exact setRetry_keeps h (.inl hp) (.inl hk) none rfl rfl rfl
  · exact h.refl

end

end Sys2Proof.Machine

/-! Promotions, loans, outcomes, growth and opens keep the form of the Claim Table (R74, R78, R81 to R86, R127, R142 to R144, R147,
R151, R152; for O59). -/

namespace Sys2Proof.Machine

/-! ### Two records without links -/

/-- Two records without links change, and take no slot that they did not keep. -/
theorem LinksForm.solos {s t : State} (h : LinksForm s) {r p : Nat} {c d : ClaimRecord} (hpair : PairChange s t r c p d)
    (hr : (s.claim r).Solo) (hp : (s.claim p).Solo) (hc : c.Solo) (hd : d.Solo)
    (hck : c.phase.keepsSlot = true → (s.claim r).phase.keepsSlot = true ∧ c.cls = (s.claim r).cls ∧ c.slot = (s.claim r).slot)
    (hdk : d.phase.keepsSlot = true → (s.claim p).phase.keepsSlot = true ∧ d.cls = (s.claim p).cls ∧ d.slot = (s.claim p).slot) :
    LinksForm t := by
  have hsolo : ∀ q, q = r ∨ q = p → (s.claim q).Solo := fun q hq => hq.elim (· ▸ hr) (· ▸ hp)
  refine h.sever (fun q => q = r ∨ q = p) (fun q hq => ?_) (fun q u hq hl => absurd hl (not_linked (hsolo q hq) u)) ?_ ?_
    fun q u hq hl => absurd hl (not_linked (hsolo q hq) u)
  · obtain ⟨h1, h2⟩ := not_or.mp hq; rw [hpair.others q h1 h2]
  · rintro q (rfl | rfl)
    · rw [hpair.self]; exact hc
    · rw [hpair.partner]; exact hd
  · rintro q (rfl | rfl)
    · rw [hpair.self]; exact hck
    · rw [hpair.partner]; exact hdk

section
variable {s : State} (h : TableForm s)
include h

/-! ### Listening and draining -/

theorem endDrain_keeps (r : Nat) : Keeps s (endDrain r s) := by
  unfold endDrain; split
  · rename_i hc; exact releaseAndFree_keeps h (.inl hc.1)
  · exact h.refl

theorem sentItem_keeps (i : CarriedItem) : Keeps s (sentItem s i) := by
  have hcount : ∀ c : ClaimRecord, (s.claim i.record).phase ≠ .free → RecordLaw c → c.linkView = (s.claim i.record).linkView →
      LoanKept (s.claim i.record) c → c.run = (s.claim i.record).run → Keeps s (setClaim i.record c s) := by
    intro c hp hrec hview hloan hrun
    obtain ⟨hcls, hslot, -, hphase, hpred, -⟩ := linkView_eq.mp hview
    refine (h.one (t := setClaim i.record c s) h.top (lt_length_of_not_free hp)
      ⟨hrec, .inl hview, hloan, heldTiles_le_of_run hrun fun k => ?_⟩ rfl rfl).granted
      (h.grants.one (t := setClaim i.record c s) rfl rfl fun k => ?_)
    · obtain ⟨k1, k2⟩ := counted_iff.mp k
      exact counted_iff.mpr ⟨hphase ▸ k1, hpred ▸ k2⟩
    · simp [ClaimRecord.shown, hcls, hslot, hphase, hrun]
  unfold sentItem; dsimp only; split
  · exact h.refl
  · split
    · rename_i hc
      exact hcount _ (by rw [hc.1]; nofun) (h.record _) rfl (h.loanKept _) rfl
    · split
      · rename_i hc
        have hk := hcount { s.claim i.record with drainCount := min Config.drainFrames ((s.claim i.record).drainCount + 1) }
          (by rw [hc.1]; nofun) (h.record _) rfl (h.loanKept _) rfl
        exact hk.trans (endDrain_keeps hk.1 i.record)
      · exact h.refl

/-! ### Promotion -/

/-- A due record is HELD, its grant entry not yet made (R84). -/
theorem promoted_coreKept {r : Nat} (hp : (s.claim r).phase = .tentative) (hn : (s.claim r).predecessor = none) :
    CoreKept s (setClaim r (s.claim r).promoted s) ∧ GrantsBut (s.claim r).cls (setClaim r (s.claim r).promoted s) := by
  have hr := lt_length_of_not_free (s := s) (r := r) (by rw [hp]; nofun)
  obtain ⟨h1, h2, h3, h4⟩ := h.record r
  have hsolo := h.solo_tentative (.inr hp) hn
  have hon := h.onLoan_none (.inr hp)
  have hrec : RecordLaw (s.claim r).promoted :=
    ⟨⟨fun _ => rfl, fun _ => h1.mpr (by rw [hp]; rfl)⟩, h2, nofun, fun hd => ⟨.inr (.inr (.inr rfl)), nofun, fun _ => (h3 hp).1⟩⟩
  refine ⟨h.one h.top hr ⟨hrec, .inr ⟨hsolo, ⟨rfl, hsolo.2.1, nofun⟩, fun _ => ⟨by rw [hp]; rfl, rfl, rfl⟩⟩,
    .without hon hon nofun, heldTiles_le_of_run rfl fun _ => counted_iff.mpr ⟨.inl hp, hn⟩⟩ rfl rfl, ?_⟩
  exact h.grants.oneBut _ rfl rfl fun j hj => shown_other (c := s.claim r) (d := (s.claim r).promoted) rfl hj

theorem switchMigration_keeps {r p : Nat} (hp : (s.claim r).phase = .tentative) (hq : (s.claim r).predecessor = some p) :
    Keeps s (switchMigration r p s) := by
  obtain ⟨-, -, hdata, hpcls, -, hwidth, hphase⟩ := h.links.predecessor hq
  have hpm : (s.claim p).phase = .moving := (hphase.resolve_left fun k => by rw [hp] at k; cases k.1).2
  have hne : r ≠ p := h.links.ne_of_linked (.inr hq)
  obtain ⟨x, hx⟩ := h.run_of_holds (r := r) (by rw [hp]; rfl)
  obtain ⟨y, hy⟩ := h.run_of_holds (r := p) (by rw [hpm]; rfl)
  have hpn : (s.claim p).predecessor = none := h.links.predecessor_none (by rw [hpm]; nofun) (by rw [hpm]; nofun)
  have hrs : (s.claim r).successor = none := h.links.successor_none (by rw [hp]; nofun) (by rw [hp]; nofun)
  have hon := h.onLoan_none (.inr hp)
  have hset : (setClaim r (s.claim r).promoted s).claim p = s.claim p := claim_setClaim_other _ hne.symm
  have hpair : PairChange s (setClaim p { s.claim p with phase := .draining, drainCount := 0, successor := none }
      (setClaim r (s.claim r).promoted s)) r (s.claim r).promoted p
      { s.claim p with phase := .draining, drainCount := 0, successor := none } :=
    pairChange_of_set (lt_length_of_run hx) (lt_length_of_run hy) hne rfl
  have hcore := hpair.coreKept h.toTableCore h.top (lt_length_of_run hx) (lt_length_of_run hy) hne
    (recordLaw_holding (.inl rfl) hdata (by show (s.claim r).run.isSome = true; rw [hx]; rfl) (h.record r).2.1)
    (recordLaw_holding (.inr (.inr (.inl rfl))) (by rw [show _ = (s.claim p).cls from rfl, hpcls]; exact hdata)
      (by show (s.claim p).run.isSome = true; rw [hy]; rfl) (h.record p).2.1)
    (h.links.part hq (by rw [hpair.self]; exact ⟨rfl, hrs, nofun⟩) (by rw [hpair.partner]; exact ⟨hpn, rfl, nofun⟩)
      (fun j hj hj' => by rw [hpair.others j hj hj']) (by rw [hpair.self]; exact ⟨rfl, rfl⟩)
      (by rw [hpair.partner]; exact ⟨rfl, rfl⟩) (.inr (by rw [hpair.partner]; rfl)))
    (.without hon hon nofun) (loanKept_of rfl rfl rfl rfl (by rw [hpm]; nofun) nofun) rfl (by
      have hxw := (h.record r).2.1 x hx
      have hyw := (h.record p).2.1 y hy
      have hle := heldTiles_le (s.claim r).promoted
      have hrw : (s.claim r).promoted.runWidth = x.width := by simp [ClaimRecord.promoted, ClaimRecord.runWidth, hx]
      rw [heldTiles_of_run hy, if_pos (counted_iff.mpr ⟨.inr (.inr (.inl hpm)), hpn⟩),
        heldTiles_uncounted (c := { s.claim p with phase := .draining, drainCount := 0, successor := none }) (by
          rw [← Bool.not_eq_true, counted_iff]; rintro ⟨k | k | k | k, -⟩ <;> cases k)]
      omega)
  have hbut := hpair.grantsBut h.grants (s.claim r).cls rfl
    (fun j hj => shown_other (c := s.claim r) (d := (s.claim r).promoted) rfl hj) fun j hj =>
    shown_other (c := s.claim p) (d := { s.claim p with phase := .draining, drainCount := 0, successor := none }) rfl (by
      rw [hpcls]; exact hj)
  unfold switchMigration
  exact CoreKept.granted ⟨⟨hcore.core.length, hcore.core.record, ⟨hcore.core.links.link, hcore.core.links.slot⟩,
    ⟨hcore.core.loans.capacity, hcore.core.loans.borrower, hcore.core.loans.parked, hcore.core.loans.entry⟩⟩, hcore.top,
    hcore.held⟩ (hbut.commit .noiseMove none)

end

/-! ### Growth merges -/

/-- A commit of a grant record completes the form. -/
theorem CoreKept.commit {s t : State} (h : CoreKept s t) {k : ServiceClass} (hg : GrantsBut k t) (c : GrantCause)
    (d : Option Nat) : Keeps s (commitGrant k c d t) :=
  CoreKept.granted ⟨⟨h.core.length, h.core.record, ⟨h.core.links.link, h.core.links.slot⟩,
    ⟨h.core.loans.capacity, h.core.loans.borrower, h.core.loans.parked, h.core.loans.entry⟩⟩, h.top, h.held⟩ (hg.commit c d)

/-- A growth record of one tile merges into a HELD DATA record (R144). -/
theorem mergeInto_coreKept {u : State} (h : TableCore [] u) (htop : TopOut u) (hg : GrantsBut .data u) {a r : Nat} {f : Run → Run}
    {x z : Run} (hne : a ≠ r) (hrc : (u.claim r).cls = .data) (hrp : (u.claim r).phase = .held) (hx : (u.claim r).run = some x)
    (hxw : x.width = 1) (hac : (u.claim a).cls = .data) (hap : (u.claim a).phase = .held) (hz : (u.claim a).run = some z)
    (hf : (f z).width = z.width + 1) : CoreKept u (mergeInto a r f u) ∧ GrantsBut .data (mergeInto a r f u) := by
  have hal := lt_length_of_run hz
  have hrl := lt_length_of_run hx
  have hwide : (u.claim a).widened f = { u.claim a with run := some (f z), width := (f z).width } := by
    rw [ClaimRecord.widened, hz]
  have hpair : PairChange u (mergeInto a r f u) a { u.claim a with run := some (f z), width := (f z).width } r
      (u.claim r).unrun.freed := pairChange_of_set hal hrl hne (by rw [mergeInto, hwide]; rfl)
  have hasolo := h.links.data_solo hac
  have hrsolo := h.links.data_solo hrc
  have haon := h.loans.onLoan_none_of_cls (r := a) (by rw [hac]; nofun)
  have hron := h.loans.onLoan_none_of_cls (r := r) (by rw [hrc]; nofun)
  obtain ⟨-, -, -, hdata⟩ := h.record a
  have hrec : RecordLaw { u.claim a with run := some (f z), width := (f z).width } :=
    ⟨⟨fun _ => by show (u.claim a).phase.holds = true; rw [hap]; rfl, fun _ => rfl⟩, fun y hy => (by cases hy; rfl),
      fun k => (by cases hap.symm.trans k), fun _ => ⟨.inr (.inr (.inr hap)), fun k => (by
        rcases k with k | k <;> cases hap.symm.trans k), (hdata hac).2.2⟩⟩
  have hcount : ∀ {q}, (u.claim q).cls = .data → (u.claim q).phase = .held → (u.claim q).counted = true := fun hc hp =>
    counted_iff.mpr ⟨.inr (.inl hp), (h.links.data_solo hc).1⟩
  refine ⟨hpair.coreKept h htop hal hrl hne hrec (freed_recordLaw _)
    (h.links.solos hpair hasolo hrsolo hasolo (freed_solo _) (fun k => ⟨k, rfl, rfl⟩) nofun)
    (.without haon haon (by show (u.claim a).phase ≠ _; rw [hap]; nofun)) (.without hron rfl nofun) rfl ?_, ?_⟩
  · have hle := heldTiles_le { u.claim a with run := some (f z), width := (f z).width }
    have hw : ClaimRecord.runWidth { u.claim a with run := some (f z), width := (f z).width } = z.width + 1 := hf
    rw [heldTiles_unrun (c := (u.claim r).unrun.freed) rfl, heldTiles_of_run hx, if_pos (hcount hrc hrp), heldTiles_of_run hz,
      if_pos (hcount hac hap)]
    omega
  · intro j hj
    have hshown : grantEntries (mergeInto a r f u).claims j = grantEntries u.claims j := by
      refine grantEntries_of_shown hpair.length (hpair.all (P := fun q e => e.shown j = (u.claim q).shown j) ?_ ?_ fun _ _ _ => rfl)
      · exact shown_other (c := u.claim a) (d := { u.claim a with run := some (f z), width := (f z).width }) rfl (by rw [hac]; exact hj)
      · exact shown_other (c := u.claim r) (d := (u.claim r).unrun.freed) rfl (by rw [hrc]; exact hj)
    rw [hshown]; exact hg j hj

theorem promote_keeps_form {s : State} (h : TableForm s) {r : Nat} (hp : (s.claim r).phase = .tentative) : Keeps s (promote r s) := by
  unfold promote; split
  · rename_i p hq; exact switchMigration_keeps h hp hq
  · rename_i hn
    obtain ⟨hcore, hbut⟩ := promoted_coreKept h hp hn
    have hr := lt_length_of_not_free (s := s) (r := r) (by rw [hp]; nofun)
    have hself : (setClaim r (s.claim r).promoted s).claim r = (s.claim r).promoted := claim_setClaim_same _ hr
    dsimp only
    split
    · rename_i x hk hx
      rw [hk] at hbut
      have hxw : x.width = 1 := ((h.record r).2.1 x hx).trans (((h.record r).2.2.2 hk).2.1 (.inr hp))
      have hmerge : ∀ {a f z}, a ≠ r → ((setClaim r (s.claim r).promoted s).claim a).cls = .data →
          ((setClaim r (s.claim r).promoted s).claim a).phase = .held →
          ((setClaim r (s.claim r).promoted s).claim a).run = some z → (f z).width = z.width + 1 →
          Keeps s (commitGrant .data .grown none (mergeInto a r f (setClaim r (s.claim r).promoted s))) := by
        intro a f z hne hac hap hz hf
        obtain ⟨hm, hmb⟩ := mergeInto_coreKept hcore.core hcore.top hbut hne (by rw [hself]; exact hk) (by rw [hself]; rfl)
          (by rw [hself]; exact hx) hxw hac hap hz hf
        exact (hcore.trans hm).commit hmb .grown none
      unfold mergeGrowth; split
      · rename_i a ha
        obtain ⟨-, hac, hap, z, hz, -, hside⟩ := lowerNeighbour_spec ha
        refine hmerge (fun k => ?_) hac hap hz rfl
        rw [k, hself, show (s.claim r).promoted.run = (s.claim r).run from rfl, hx] at hz
        cases hz; omega
      · split
        · rename_i a ha
          obtain ⟨-, hac, hap, z, hz, -, hside⟩ := upperNeighbour_spec ha
          refine hmerge (fun k => ?_) hac hap hz rfl
          rw [k, hself, show (s.claim r).promoted.run = (s.claim r).run from rfl, hx] at hz
          cases hz; omega
        · exact hcore.commit hbut .placed none
    · exact hcore.commit hbut .placed none

/-- Fewer than five DATA records leave a data slot free (R78). -/
theorem freeDataSlot_free {s : State} (hd : dataRecords s < 5) (q : Nat) (hc : (s.claim q).cls = .data)
    (hs : (s.claim q).slot = freeDataSlot s) : (s.claim q).phase = .free := by
  set P : ClaimRecord → Bool := fun c => c.cls == .data && c.phase != .free with hP
  have hexists : ∃ n ∈ List.range 5, (!s.claims.any (fun c => c.cls == .data && c.phase != .free && c.slot == n)) = true := by
    by_contra hno
    have hsub : List.range 5 ⊆ (s.claims.filter P).map (·.slot) := fun n hn => by
      have hused : s.claims.any (fun c => c.cls == .data && c.phase != .free && c.slot == n) = true := by
        by_contra hu
        exact hno ⟨n, hn, by simpa using hu⟩
      obtain ⟨c, hcm, hcn⟩ := List.any_eq_true.mp hused
      obtain ⟨hcp, hcs⟩ := Bool.and_eq_true_iff.mp hcn
      exact List.mem_map.mpr ⟨c, List.mem_filter.mpr ⟨hcm, hcp⟩, beq_iff_eq.mp hcs⟩
    have hle := (List.subperm_of_subset List.nodup_range hsub).length_le
    rw [List.length_range, List.length_map, ← List.countP_eq_length_filter] at hle
    exact absurd hd (Nat.not_lt.mpr hle)
  obtain ⟨n, hn, hfree⟩ := hexists
  have hfind : ∃ m, (List.range 5).find? (fun n =>
      !s.claims.any (fun c => c.cls == .data && c.phase != .free && c.slot == n)) = some m := by
    rw [← Option.isSome_iff_exists, List.find?_isSome]; exact ⟨n, hn, hfree⟩
  obtain ⟨m, hm⟩ := hfind
  have hslot : freeDataSlot s = m := by
    show ((List.range 5).find? _).getD 0 = m
    rw [hm]; rfl
  have hnone := List.find?_some hm
  by_contra hp
  have hql := lt_length_of_not_free hp
  have hused : s.claims.any (fun c => c.cls == .data && c.phase != .free && c.slot == m) = true :=
    List.any_eq_true.mpr ⟨_, claim_mem hql, by simp [hc, hp, hs, hslot]⟩
  rw [hused] at hnone; cases hnone

section
variable {s : State} (h : TableForm s)
include h

theorem promoteIfDue_keeps (r : Nat) : Keeps s (promoteIfDue s r) := by
  unfold promoteIfDue; split
  · rename_i hc
    split
    · exact applyLoss_keeps h _ _ _ _
    · exact promote_keeps_form h hc.1
  · exact h.refl

/-! ### Outcomes and retries -/

/-- A SEEKING primary is freed (R81, R147). -/
theorem freeSeeking_keeps {r : Nat} (hp : (s.claim r).phase = .seeking) (hn : (s.claim r).predecessor = none) {t : State}
    (hclaims : t.claims = s.claims.set r (s.claim r).freed) (hl : t.loans = s.loans) (hg : t.grants = s.grants) : Keeps s t := by
  have hr := lt_length_of_not_free (s := s) (r := r) (by rw [hp]; nofun)
  have hchange : Changes s r (s.claim r).freed := ⟨freed_recordLaw _,
    .inr ⟨h.solo_tentative (.inl hp) hn, freed_solo _, nofun⟩, .without (h.onLoan_none (.inl (by rw [hp]; rfl))) rfl nofun, by
      rw [heldTiles_unrun (c := (s.claim r).freed) rfl]; exact Nat.zero_le _⟩
  exact (h.one h.top hr hchange hclaims (by rw [hl])).granted
    (h.grants.one hclaims hg (shown_hidden (by rw [hp]; rfl) rfl))

theorem applyOutcome_keeps {r : Nat} (hp : (s.claim r).phase = .seeking) : Keeps s (applyOutcome r s) := by
  unfold applyOutcome; split
  · rename_i p hq
    have hne : r ≠ p := h.links.ne_of_linked (.inr hq)
    obtain ⟨-, -, -, -, -, -, hphase⟩ := h.links.predecessor hq
    have hph : (s.claim p).phase = .held := (hphase.resolve_right fun k => by rw [hp] at k; cases k.1).2
    have hr := lt_length_of_not_free (s := s) (r := r) (by rw [hp]; nofun)
    have hpl := lt_length_of_not_free (s := s) (r := p) (by rw [hph]; nofun)
    have hpc : (setClaim p { s.claim p with successor := none } (setClaim r (s.claim r).freed s)).claim p =
        { s.claim p with successor := none } := claim_setClaim_same _ (by simpa using hpl)
    have hpair : PairChange s (degrade p (setClaim p { s.claim p with successor := none } (setClaim r (s.claim r).freed s)))
        r (s.claim r).freed p { s.claim p with phase := .held, successor := none, retry := some Config.retryTime } := by
      refine pairChange_of_set hr hpl hne ?_
      show ((s.claims.set r _).set p _).set p _ = _
      rw [hpc, List.set_set, ← hph]
    exact endSuccessor_keeps h hq (freed_solo _) rfl rfl rfl rfl rfl hpair rfl rfl
  · rename_i hn
    split
    · unfold unmetBelowFloor
      split <;> exact freeSeeking_keeps h hp hn rfl rfl rfl
    · exact setRetry_keeps h (.inr hp) (.inr hp) (some Config.retryTime) rfl rfl rfl

theorem expireRetry_keeps {r : Nat} (hr : (s.claim r).retry.isSome = true) : Keeps s (expireRetry r s) := by
  unfold expireRetry; split
  · rename_i hp
    have hrl := lt_length_of_not_free (s := s) (r := r) (by rw [hp]; nofun)
    obtain ⟨h1, h2, h3, h4⟩ := h.record r
    have hrec : RecordLaw { s.claim r with retry := none, tentativeLosses := 0 } :=
      recordLaw_without (.inr hp) (h.run_none (by rw [hp]; rfl)) fun hd _ => (h4 hd).2.1 (.inl hp)
    exact (h.one (t := requestPlacement r (setClaim r { s.claim r with retry := none, tentativeLosses := 0 } s)) h.top hrl
      ⟨hrec, .inl rfl, h.loanKept r, le_rfl⟩ rfl rfl).granted (h.grants.one rfl rfl fun _ => rfl)
  · rename_i hp
    have hrl := lt_length_of_not_free (s := s) (r := r) (by rw [hp]; nofun)
    have hd : (s.claim r).cls ≠ .data := fun hd => by
      rw [((h.record r).2.2.2 hd).2.2 hp] at hr; cases hr
    have hset : Keeps s (setClaim r { s.claim r with retry := none } s) := setRetry_keeps h (.inl hp) (.inl hd) none rfl rfl rfl
    have hself : (setClaim r { s.claim r with retry := none } s).claim r = { s.claim r with retry := none } :=
      claim_setClaim_same _ hrl
    dsimp only; split
    · rename_i hc
      exact hset.trans (startMigration_keeps hset.1 (by rw [hself]; exact hp) (by rw [hself]; exact hd) (by rw [hself]; exact hc.2))
    · exact hset
  · exact h.refl

theorem freeCaughtGrowth_keeps : Keeps s (freeCaughtGrowth s) := by
  unfold freeCaughtGrowth; split
  · split
    · rename_i r hr
      obtain ⟨hrl, hc, -⟩ := List.findIdx?_eq_some_iff_getElem.mp hr
      rw [← List.getD_eq_getElem _ ClaimRecord.reset hrl] at hc
      obtain ⟨hd, hp⟩ : (s.claim r).cls = .data ∧ (s.claim r).phase = .seeking := by simpa [State.claim] using hc
      exact freeSeeking_keeps h hp (h.links.data_solo hd).1 rfl rfl rfl
    · exact h.refl
  · exact h.refl

/-! ### Records taken -/

/-- A FREE record is taken for a slot that no record keeps (R74, R78, R142). -/
theorem take_keeps {r : Nat} (hp : (s.claim r).phase = .free) (hr : r < s.claims.length) {k : ServiceClass} {n w : Nat}
    (reason : SeekReason) (hw : k = .data → w = 1)
    (hfree : ∀ q, (s.claim q).cls = k → (s.claim q).slot = n → (s.claim q).phase.keepsSlot = false) :
    Keeps s (requestPlacement r (setClaim r ((s.claim r).taken k n w reason none) s)) := by
  set t := requestPlacement r (setClaim r ((s.claim r).taken k n w reason none) s)
  have hclaims : t.claims = s.claims.set r ((s.claim r).taken k n w reason none) := rfl
  have hself : t.claim r = (s.claim r).taken k n w reason none := claim_of_set_same hclaims hr
  have hother : ∀ q, q ≠ r → t.claim q = s.claim q := fun q hq => claim_of_set_other hclaims hq
  have hlen : t.claims.length = s.claims.length := by rw [hclaims, List.length_set]
  have hsolo : (s.claim r).Solo := h.links.solo_of_not_keeps (by rw [hp]; rfl)
  have hon := h.onLoan_none (r := r) (.inl (by rw [hp]; rfl))
  refine (h.calm h.top hlen (fun q => ?_) ?_ (fun q => ?_) rfl (heldTotal_le hlen fun q => ?_)).granted
    (h.grants.one hclaims rfl (shown_hidden (by rw [hp]; rfl) rfl))
  · by_cases hq : q = r
    · rw [hq, hself]; exact recordLaw_without (.inr rfl) rfl fun hd _ => hw hd
    · rw [hother q hq]; exact h.record q
  · refine h.links.change (· = r) (fun q hq => by rw [hother q hq])
      (fun q p hq hl => absurd hl (LinksForm.not_linked (hq ▸ hsolo) p))
      (fun q hq => linkLaw_of_solo (by rw [hq, hself]; exact ⟨rfl, rfl, nofun⟩)) fun q u hq hne hs => ?_
    subst hq
    obtain ⟨h1, h2, -, h4⟩ := sharesSlot_iff.mp hs
    rw [hself, hother u hne.symm] at h1 h2
    rw [hother u hne.symm, hfree u h1.symm h2.symm] at h4; cases h4
  · by_cases hq : q = r
    · rw [hq, hself]; exact .without hon rfl nofun
    · rw [hother q hq]; exact h.loanKept q
  · by_cases hq : q = r
    · rw [hq, hself, heldTiles_unrun (by rfl)]; exact Nat.zero_le _
    · rw [hother q hq]

theorem openSlot_keeps {k : ServiceClass} {n : Nat} (w : Nat) (hk : k ≠ .data) (hopen : slotOpen s k n = false) :
    Keeps s (openSlot k n w s) := by
  unfold openSlot; split
  · rename_i r hr
    obtain ⟨hrl, hf⟩ := takable_spec hr
    refine take_keeps h hf hrl .new (fun k' => absurd k' hk) fun q hc hs => ?_
    rw [slotOpen_eq_false] at hopen
    have hno : ∀ j, (s.claim j).cls = k → (s.claim j).slot = n → (s.claim j).predecessor = none →
        (s.claim j).phase.keepsSlot = false := fun j jc js jp => by
      by_contra hkeep
      have hjl : j < s.claims.length := lt_length_of_not_free fun k' => hkeep (by rw [k']; rfl)
      have := hopen j hjl
      rw [← Bool.not_eq_true, opens_iff] at this
      refine this ⟨jc, js, jp, ?_⟩
      cases hph : (s.claim j).phase <;> rw [hph] at hkeep <;> simp [Phase.keepsSlot] at hkeep ⊢
    cases hp : (s.claim q).predecessor with
    | none => exact hno q hc hs hp
    | some p =>
      obtain ⟨-, -, -, hpc, hps, -, hphase⟩ := h.links.predecessor hp
      have hkeep := hno p (hpc.trans hc) (hps.trans hs) (h.links.predecessor_none
        (by rcases hphase with ⟨-, k'⟩ | ⟨-, k'⟩ <;> rw [k'] <;> nofun) (by rcases hphase with ⟨-, k'⟩ | ⟨-, k'⟩ <;> rw [k'] <;> nofun))
      rcases hphase with ⟨-, k'⟩ | ⟨-, k'⟩ <;> rw [k'] at hkeep <;> cases hkeep
  · exact h.refl

theorem requestGrowth_keeps : Keeps s (requestGrowth s) := by
  unfold requestGrowth; split
  · rename_i r hr
    obtain ⟨hrl, hf⟩ := takable_spec hr
    have hd : dataRecords s < 5 := by
      by_contra hn
      rw [takable, if_pos ⟨rfl, Nat.le_of_not_lt hn⟩] at hr; cases hr
    exact take_keeps h hf hrl .grow (fun _ => rfl) fun q hc hs => by rw [freeDataSlot_free hd q hc hs]; rfl
  · exact h.refl

end

end Sys2Proof.Machine

/-! Lending, closes and commits keep the form of the Claim Table, and so does every step (R79, R80, R93 to R95, R150 to R152, R155; O59). -/

namespace Sys2Proof.Machine

/-! ### Lending -/

/-- A new entry on the stack, for a record that had no loan (R152). -/
theorem LoansForm.push {s t : State} (h : LoansForm [] s) {b : Nat} {e : LoanEntry} (hcap : s.loans.length < 4)
    (hb : (s.claim b).onLoan = none) (heb : e.borrower = b) (heo : e.state = .out)
    (hon : (t.claim b).onLoan = some s.loans.length) (hcls : (t.claim b).cls = .voice) (hph : (t.claim b).phase ≠ .parked)
    (hgen : e.borrowerGeneration = (t.claim b).generation) (hrun : (t.claim b).run = some ⟨e.tile, 1⟩)
    (hc : ∀ q, q ≠ b → LoanKept (s.claim q) (t.claim q)) (hl : t.loans = s.loans ++ [e]) : LoansForm [] t := by
  refine ⟨by rw [hl, List.length_append]; exact hcap, fun r i hi => ?_, fun r hp => ?_, fun i f hf hs => ?_⟩
  · by_cases hr : r = b
    · subst hr
      rw [hon] at hi
      obtain rfl : s.loans.length = i := Option.some.inj hi
      refine ⟨hcls, e, by rw [hl, List.getElem?_concat_length], heb, hgen, hrun, ?_⟩
      rw [if_neg fun k => k.elim hph nofun, heo]
    · obtain ⟨hon', hkept, -⟩ := hc r hr
      rw [hon'] at hi
      obtain ⟨hcls', hgen', hrun', hpark⟩ := hkept (by rw [hi]; nofun)
      obtain ⟨hk, f, hf, fb, fg, fx, fs⟩ := h.borrower r i hi
      refine ⟨hcls'.trans hk, f, ?_, fb, fg.trans hgen'.symm, hrun'.trans fx, ?_⟩
      · rw [hl, List.getElem?_append_left (List.getElem?_eq_some_iff.mp hf).1]; exact hf
      · rw [fs]; simp only [hpark]
  · by_cases hr : r = b
    · exact absurd (hr ▸ hp) hph
    · obtain ⟨hon', -, hnone⟩ := hc r hr
      rw [hon']
      exact Option.isSome_iff_ne_none.mpr fun k => hnone k hp
  · rw [hl] at hf
    by_cases hi : i < s.loans.length
    · rw [List.getElem?_append_left hi] at hf
      have hon' := h.entry i f hf hs
      have hfb : f.borrower ≠ b := fun k => by rw [k, hb] at hon'; cases hon'
      rw [(hc _ hfb).1]; exact hon'
    · have hi' : i = s.loans.length := by
        have := (List.getElem?_eq_some_iff.mp hf).1
        rw [List.length_append, List.length_singleton] at this; omega
      rw [hi', List.getElem?_concat_length] at hf
      cases hf
      rw [heb, hon, hi']

theorem lend_keeps {s : State} (h : TableForm s) {b l n : Nat} {bg lg : BitVec 4} (ht : lendTaken b bg l lg n s = true) :
    Keeps s (lend b bg l lg n s) := by
  obtain ⟨-, hcap, ⟨hbc, hbp, hbg, hbn⟩, hlc, hlp, -, x, hx, hw, hn⟩ := lendTaken_spec ht
  have hne : l ≠ b := by rintro rfl; rw [hlc] at hbc; cases hbc
  have hll := lt_length_of_run hx
  have hbl := lt_length_of_not_free (s := s) (r := b) (by rw [hbp]; nofun)
  have hshort : (s.claim l).widened shortened = { s.claim l with run := some (shortened x), width := (shortened x).width } := by
    rw [ClaimRecord.widened, hx]
  set c : ClaimRecord := { s.claim l with run := some (shortened x), width := (shortened x).width } with hcdef
  set d : ClaimRecord := (s.claim b).lent n s.loans.length with hddef
  set t := lend b bg l lg n s
  have hpair : PairChange s t l c b d := pairChange_of_set hll hbl hne (by rw [← hshort]; exact lend_claims b bg l lg n s)
  have hlsolo := h.links.data_solo hlc
  have hbsolo := h.solo_tentative (.inl hbp) hbn
  have hlon := h.loans.onLoan_none_of_cls (r := l) (by rw [hlc]; nofun)
  have hbon := h.onLoan_none (r := b) (.inl (by rw [hbp]; rfl))
  have hloans : t.loans = s.loans ++ [⟨some l, lg, b, bg, n, .out⟩] := rfl
  have hcrec : RecordLaw c := by
    obtain ⟨-, -, -, hdata⟩ := h.record l
    exact ⟨⟨fun _ => by show (s.claim l).phase.holds = true; rw [hlp]; rfl, fun _ => rfl⟩, fun y hy => (by cases hy; rfl),
      fun k => (by cases hlp.symm.trans k), fun _ => ⟨.inr (.inr (.inr hlp)), fun k => (by
        rcases k with k | k <;> cases hlp.symm.trans k), (hdata hlc).2.2⟩⟩
  have hdrec : RecordLaw d := recordLaw_holding (.inl rfl) (by show (s.claim b).cls ≠ _; rw [hbc]; nofun) rfl
    fun y hy => (by cases hy; rfl)
  have hform : LoansForm [] t := h.loans.push hcap hbon rfl rfl (by rw [hpair.partner]; rfl)
    (by rw [hpair.partner]; exact hbc) (by rw [hpair.partner]; nofun) (by rw [hpair.partner]; exact hbg.symm)
    (by rw [hpair.partner]; rfl) (fun q hq => by
      by_cases hql : q = l
      · rw [hql, hpair.self]
        exact .without hlon hlon (by show (s.claim l).phase ≠ _; rw [hlp]; nofun)
      · rw [hpair.others q hql hq]; exact h.loanKept q) hloans
  have hlinks : LinksForm t := h.links.solos hpair hlsolo hbsolo hlsolo ⟨hbn, hbsolo.2.1, nofun⟩ (fun k => ⟨k, rfl, rfl⟩)
    fun _ => ⟨by rw [hbp]; rfl, rfl, rfl⟩
  have htop : TopOut t := by
    intro e he
    rw [hloans, List.getLast?_concat] at he
    cases he; rfl
  refine CoreKept.granted ⟨⟨hpair.length.trans h.length, hpair.all (P := fun _ => RecordLaw) hcrec hdrec fun q _ _ => h.record q,
    hlinks, hform⟩, htop, ?held⟩ ?grants
  case held =>
    refine hpair.heldTotal hll hbl hne ?_
    have hc := heldTiles_le c
    have hd := heldTiles_le d
    have hcw : c.runWidth = x.width - 1 := rfl
    have hdw : d.runWidth = 1 := rfl
    rw [heldTiles_of_run hx, if_pos (counted_iff.mpr ⟨.inr (.inl hlp), hlsolo.1⟩)]
    omega
  case grants =>
    set u : State := { setClaim b d (setClaim l ((s.claim l).widened shortened) s) with
      loans := s.loans ++ [⟨some l, lg, b, bg, n, .out⟩] } with hu
    have hgrants : t.grants = (commitGrant .voice .placed none (commitGrant .data .loaned none u)).grants := rfl
    obtain ⟨hdself, hdother⟩ := commitGrant_of .data .loaned none u
    obtain ⟨hvself, hvother⟩ := commitGrant_of .voice .placed none (commitGrant .data .loaned none u)
    refine grantLaw_iff.mpr fun k => ?_
    cases k with
    | data => rw [hgrants, hvother .data nofun, hdself, after_entries]; rfl
    | video =>
      rw [hgrants, hvother .video nofun, hdother .video nofun]
      refine (grantLaw_iff.mp h.grants .video).trans (grantEntries_of_shown hpair.length
        (hpair.all (P := fun q e => e.shown .video = (s.claim q).shown .video) ?_ ?_ fun _ _ _ => rfl)).symm
      · exact shown_other (c := s.claim l) (d := c) rfl (by rw [hlc]; nofun)
      · exact shown_other (c := s.claim b) (d := d) rfl (by rw [hbc]; nofun)
    | voice => rw [hgrants, hvself, after_entries]; rfl

/-! ### The close of a program -/

/-- The records that a close takes hold every link among them: a successor and its predecessor serve one program or call (R122). -/
theorem closing_linked {s : State} (h : TableForm s) {k : ServiceClass} {n q p : Nat} (hq : q ∈ closingRecords k n s)
    (hl : Linked s q p) : p ∈ closingRecords k n s := by
  obtain ⟨-, hk, hs, -, -⟩ := mem_closingRecords.mp hq
  have hshare : (s.claim p).cls = (s.claim q).cls ∧ (s.claim p).slot = (s.claim q).slot ∧ (s.claim p).phase ≠ .free ∧
      (s.claim p).phase ≠ .parked := by
    rcases hl with hl | hl
    · obtain ⟨-, hp⟩ := h.links.successor hl
      obtain ⟨-, -, -, hc, hsl, -, hphase⟩ := h.links.predecessor hp
      exact ⟨hc.symm, hsl.symm, by rcases hphase with ⟨k', -⟩ | ⟨k', -⟩ <;> rw [k'] <;> exact ⟨nofun, nofun⟩⟩
    · obtain ⟨-, -, -, hc, hsl, -, hphase⟩ := h.links.predecessor hl
      exact ⟨hc, hsl, by rcases hphase with ⟨-, k'⟩ | ⟨-, k'⟩ <;> rw [k'] <;> exact ⟨nofun, nofun⟩⟩
  obtain ⟨hc, hsl, hf, hp⟩ := hshare
  exact mem_closingRecords.mpr ⟨h.length ▸ lt_length_of_not_free hf, hc.trans hk, hsl.trans hs, hf, hp⟩

theorem closeProgram_keeps {s : State} (h : TableForm s) (n : Nat) : Keeps s (closeProgram n s) := by
  have hends := endsRecords_foldl (closingRecords .video n s) (closingRecords_nodup _ _ _) s
  have hgrants : ((closingRecords .video n s).foldl freeClosed s).grants = s.grants :=
    foldl_frame (fun s t => t.grants = s.grants) (fun _ => rfl) (fun h k => k.trans h) _ freeClosed_grants _ s
  unfold closeProgram
  generalize (closingRecords .video n s).foldl freeClosed s = u at hends hgrants
  have hvideo : ∀ {q}, q ∈ closingRecords .video n s → (s.claim q).cls = .video := fun hq => (mem_closingRecords.mp hq).2.1
  have hin : ∀ {q}, q ∈ closingRecords .video n s → u.claim q = (s.claim q).ended := fun hq => by
    rw [hends.claim, if_pos hq]
  have hout : ∀ {q}, q ∉ closingRecords .video n s → u.claim q = s.claim q := fun hq => by rw [hends.claim, if_neg hq]
  have hall : ∀ {P : Nat → ClaimRecord → Prop}, (∀ q ∈ closingRecords .video n s, P q (s.claim q).ended) →
      (∀ q, P q (s.claim q)) → ∀ q, P q (u.claim q) := fun {P} he hs q => by
    by_cases hq : q ∈ closingRecords .video n s
    · rw [hin hq]; exact he q hq
    · rw [hout hq]; exact hs q
  refine CoreKept.commit (h.calm h.top hends.length (hall (P := fun _ => RecordLaw) (fun q _ => ended_recordLaw _) h.record) ?_
    (hall (P := fun q e => LoanKept (s.claim q) e) (fun q hq => ?_) h.loanKept) (by rw [hends.loans])
    (heldTotal_le hends.length (hall (P := fun q e => e.heldTiles ≤ (s.claim q).heldTiles) (fun q _ => ?_) fun _ => le_rfl)))
    (k := .video) ?_ .closed none
  · exact h.links.sever (· ∈ closingRecords .video n s) (fun q hq => by rw [hout hq]) (fun q p hq => closing_linked h hq)
      (fun q hq => by rw [hin hq]; exact ⟨rfl, rfl, nofun⟩) (fun q hq hk => by rw [hin hq] at hk; cases hk)
      fun q p hq _ hk => by rw [hin hq] at hk; cases hk
  · exact .without (h.loans.onLoan_none_of_cls (by rw [hvideo hq]; nofun)) rfl nofun
  · rw [heldTiles_unrun rfl]; exact Nat.zero_le _
  · refine h.grants.but .video hends.length hgrants fun q j hj => hall (P := fun q e => e.shown j = (s.claim q).shown j)
      (fun q hq => shown_other (c := s.claim q) (d := (s.claim q).ended) rfl (by rw [hvideo hq]; exact hj)) (fun _ => rfl) q

/-! ### Every record freed -/

theorem freedAll_law {s t : State} (h : TableForm s) (hclaims : t.claims = s.claims.map (·.freedAll))
    (hg : ∀ k, (t.grants.of k).entries = List.replicate (slotCount k) none) (hl : t.loans = []) : Keeps s t := by
  have hfree : ∀ q, (t.claim q).phase = .free ∧ (t.claim q).run = none ∧ (t.claim q).predecessor = none ∧
      (t.claim q).successor = none ∧ (t.claim q).onLoan = none := fun q => by
    by_cases hq : q < s.claims.length
    · rw [claim_map hclaims hq, ClaimRecord.freedAll]
      split <;> exact ⟨rfl, rfl, rfl, rfl, rfl⟩
    · rw [claim_beyond (by rw [hclaims, List.length_map]; exact Nat.le_of_not_lt hq)]; exact ⟨rfl, rfl, rfl, rfl, rfl⟩
  have hlen : t.claims.length = s.claims.length := by rw [hclaims, List.length_map]
  have hsolo : ∀ q, (t.claim q).Solo := fun q => by
    obtain ⟨hp, -, hpr, hsu, -⟩ := hfree q
    exact ⟨hpr, hsu, by rw [hp]; nofun⟩
  refine CoreKept.granted ⟨⟨hlen.trans h.length, fun q => ?_, ⟨fun r => linkLaw_of_solo (hsolo r), fun q r _ hs => ?_⟩,
    ⟨by rw [hl]; exact Nat.zero_le _, fun r i hi => ?_, fun r hp => ?_, fun i e he => ?_⟩⟩, ?_, heldTotal_le hlen fun q => ?_⟩
    (grantLaw_iff.mpr fun k => ?_)
  · exact recordLaw_without (.inl (hfree q).1) (hfree q).2.1 fun _ k => by cases (hfree q).1.symm.trans k
  · have := (sharesSlot_iff.mp hs).2.2.1
    rw [(hfree q).1] at this; cases this
  · rw [(hfree r).2.2.2.2] at hi; cases hi
  · cases (hfree r).1.symm.trans hp
  · rw [hl] at he; cases he
  · rw [TopOut, hl]; exact nofun
  · rw [heldTiles_unrun (hfree q).2.1]; exact Nat.zero_le _
  · rw [hg, eq_comm, grantEntries, List.eq_replicate_iff]
    refine ⟨by rw [List.length_map, List.length_range], fun e he => ?_⟩
    obtain ⟨slot, -, rfl⟩ := List.mem_map.mp he
    have hnone : t.claims.find? (fun c => c.cls == k && c.slot == slot && c.phase.granted) = none :=
      List.find?_eq_none.mpr fun c hc => by
        obtain ⟨q, -, rfl⟩ := mem_claims hc
        simp [(hfree q).1, Phase.granted]
    rw [grantEntry, hnone]

end Sys2Proof.Machine

/-! Every event at the Claim Table keeps its form, and the held total in its limit (R79, R80, R95; for O59). -/

namespace Sys2Proof.Machine

/-! ### The limit -/

theorem HoldLaw.keep {s t : State} (h : HoldLaw s) (hheld : heldTotal t ≤ heldTotal s) (hc : t.loader.config = s.loader.config)
    (hs : t.loader.inReset = true ∨ t.loader.reading = true → s.loader.inReset = true ∨ s.loader.reading = true) : HoldLaw t := by
  obtain ⟨hle, hnone⟩ := h
  refine ⟨hheld.trans (hle.trans_eq ?_), fun k => hc.trans (hnone (hs k))⟩
  rw [holdLimit, holdLimit, hc]

/-- An event keeps the form of the table and the law of the held total. -/
def TableKept (s t : State) : Prop := TableForm t ∧ (HoldLaw s → HoldLaw t)

theorem TableKept.trans {s t u : State} (h : TableKept s t) (k : TableKept t u) : TableKept s u := ⟨k.1, k.2 ∘ h.2⟩

theorem Keeps.tableKept {s t : State} (h : Keeps s t) (hc : t.loader.config = s.loader.config)
    (hs : t.loader.inReset = true ∨ t.loader.reading = true → s.loader.inReset = true ∨ s.loader.reading = true) : TableKept s t :=
  ⟨h.1, fun hold => hold.keep h.2 hc hs⟩

theorem Keeps.onlyClaims {s t : State} (h : Keeps s t) (hf : OnlyClaims s t) : TableKept s t :=
  h.tableKept (by rw [hf.loader]) (by rw [hf.loader]; exact id)

/-! ### The events -/

theorem SameTable.tableKept {s t : State} (h : SameTable s t) (hs : TableForm s) : TableKept s t :=
  (hs.same h.claims h.grants h.loans).tableKept h.config h.starting

/-- A configuration is read where no tile is held, because no limit was in force (R181). -/
theorem configured_tableKept {s t : State} (h : TableForm s) (hread : s.loader.inReset = true ∨ s.loader.reading = true)
    (hc : t.claims = s.claims) (hg : t.grants = s.grants) (hl : t.loans = s.loans) (hr : t.loader.inReset = false)
    (hn : t.loader.reading = false) : TableKept s t := by
  obtain ⟨hform, hheld⟩ := h.same hc hg hl
  refine ⟨hform, fun ⟨hle, hnone⟩ => ⟨?_, fun k => ?_⟩⟩
  · have hzero : holdLimit s = 0 := by rw [holdLimit, hnone hread]; rfl
    exact (hheld.trans (hzero ▸ hle)).trans (Nat.zero_le _)
  · rw [hr, hn] at k
    exact k.elim nofun nofun

/-- The retry timers run (R82). -/
theorem tick_keeps {s t : State} (h : TableForm s) (hclaims : t.claims = s.claims.map (fun c => { c with retry := elapse c.retry }))
    (hg : t.grants = s.grants) (hl : t.loans = s.loans) : Keeps s t := by
  have hlen : t.claims.length = s.claims.length := by rw [hclaims, List.length_map]
  have hclaim : ∀ q, t.claim q = { s.claim q with retry := elapse (s.claim q).retry } := fun q => by
    by_cases hq : q < s.claims.length
    · exact claim_map hclaims hq
    · rw [claim_beyond (hlen ▸ Nat.le_of_not_lt hq), claim_beyond (Nat.le_of_not_lt hq)]; rfl
  refine (h.calm h.top hlen (fun q => ?_) (h.links.congr fun q => by rw [hclaim]; rfl)
    (fun q => by rw [hclaim]; exact h.loanKept q) (by rw [hl])
    (heldTotal_le hlen fun q => by rw [hclaim]; exact le_rfl)).granted
    (h.grants.congr hlen hg fun q k => by rw [hclaim]; rfl)
  obtain ⟨hrun, hwidth, htent, hdata⟩ := h.record q
  rw [hclaim]
  refine ⟨hrun, hwidth, fun hp => ⟨?_, (htent hp).2⟩, fun hd => ⟨(hdata hd).1, (hdata hd).2.1, fun hp => ?_⟩⟩
  · show elapse (s.claim q).retry = none
    rw [(htent hp).1]; rfl
  · show elapse (s.claim q).retry = none
    rw [(hdata hd).2.2 hp]; rfl

theorem TableEvents.tableKept {s t : State} (e : TableEvents s t) : TableForm s → TableKept s t := by
  induction e with
  | same h => exact h.tableKept
  | trans _ _ ih ih' => exact fun h => (ih h).trans (ih' (ih h).1)
  | loss r g n w s => exact fun h => (applyLoss_keeps h r g n w).onlyClaims (applyLoss_frame r g n w s)
  | noise r g n s => exact fun h => (applyNoise_keeps h r g n).onlyClaims (applyNoise_frame r g n s)
  | quiet r g n s => exact fun h => (applyQuiet_keeps h r g n).onlyClaims (applyQuiet_frame r g n s)
  | drain r s => exact fun h => (endDrain_keeps h r).onlyClaims (endDrain_frame r s)
  | sent s i => exact fun h => (sentItem_keeps h i).onlyClaims (sentItem_frame s i)
  | build s r => exact fun h => (promoteIfDue_keeps h r).onlyClaims (promoteIfDue_frame s r)
  | lend ht => exact fun h => (lend_keeps h ht).onlyClaims (lend_frame _ _ _ _ _ _)
  | outcome hp => exact fun h => (applyOutcome_keeps h hp).onlyClaims (applyOutcome_frame _ _)
  | retry hr => exact fun h => (expireRetry_keeps h hr).onlyClaims (expireRetry_frame _ _)
  | growth s => exact fun h => (requestGrowth_keeps h).onlyClaims (requestGrowth_frame s)
  | trim k s => exact fun h => (topDownTrim_keeps k h).onlyClaims (topDownTrim_frame k s)
  | caught s => exact fun h => (freeCaughtGrowth_keeps h).onlyClaims (freeCaughtGrowth_frame s)
  | opened w hk ho => exact fun h => (openSlot_keeps h w hk ho).onlyClaims (openSlot_frame _ _ w _)
  | closed n s => exact fun h => (closeProgram_keeps h n).onlyClaims (closeProgram_frame n s)
  | freed hclaims hg hl hc hs => exact fun h => (freedAll_law h hclaims hg hl).tableKept hc hs
  | configured hread hc hg hl hr hn => exact fun h => configured_tableKept h hread hc hg hl hr hn
  | tick hc hg hl hload =>
    exact fun h => (tick_keeps h hc hg hl).tableKept (by rw [hload]) (by rw [hload]; exact id)
  | reset hs =>
    have hk := hs.tableKept (tableForm_of_law reset_claimTableLaw)
    exact fun _ => ⟨hk.1, fun _ => hk.2 reset_holdLaw⟩

/-! ### A commit that is taken -/

/-- The tiles of one record come to count (R79). -/
theorem heldTotal_gain {s t : State} {r : Nat} {n : Nat} (hl : t.claims.length = s.claims.length)
    (hout : ∀ q, q ≠ r → (t.claim q).heldTiles ≤ (s.claim q).heldTiles) (hr : (t.claim r).heldTiles ≤ n) :
    heldTotal t ≤ heldTotal s + n := by
  by_cases hrl : r < s.claims.length
  · rw [heldTotal_eq_sum, heldTotal_eq_sum, hl, ← Finset.add_sum_erase _ _ (Finset.mem_range.mpr hrl),
      ← Finset.add_sum_erase (Finset.range s.claims.length) _ (Finset.mem_range.mpr hrl)]
    have hrest : ∑ q ∈ (Finset.range s.claims.length).erase r, (t.claim q).heldTiles ≤
        ∑ q ∈ (Finset.range s.claims.length).erase r, (s.claim q).heldTiles :=
      Finset.sum_le_sum fun q hq => hout q (Finset.mem_erase.mp hq).1
    omega
  · refine (heldTotal_le hl fun q => ?_).trans (Nat.le_add_right _ _)
    by_cases hq : q = r
    · rw [hq, heldTiles_unrun (c := t.claim r) (by rw [claim_beyond (hl ▸ Nat.le_of_not_lt hrl)]; rfl)]; exact Nat.zero_le _
    · exact hout q hq

section
variable {s : State} (h : TableForm s) {r : Nat} {g : BitVec 4} {x : Run} (hj : judgeCommit r g x s = .taken)
  (hw : x.width = (s.claim r).width)
include h hj hw

theorem committed_recordLaw : RecordLaw ((s.claim r).committed x) := by
  obtain ⟨-, hseek, -⟩ := judgeCommit_taken hj
  obtain ⟨-, -, -, hdata⟩ := h.record r
  refine ⟨⟨fun _ => rfl, fun _ => rfl⟩, fun y hy => (by cases hy; rfl), fun _ => ⟨rfl, h.onLoan_none (.inl (by rw [hseek]; rfl))⟩,
    fun hd => ⟨.inr (.inr (.inl rfl)), fun _ => ?_, nofun⟩⟩
  exact hw.trans ((hdata hd).2.1 (.inl hseek))

theorem takePrimary_tableKept (hn : (s.claim r).predecessor = none) : TableKept s (takeCommit r x s) := by
  obtain ⟨-, hseek, -, -, hlimit, -⟩ := judgeCommit_taken hj
  have hr := lt_length_of_not_free (s := s) (r := r) (by rw [hseek]; nofun)
  have hclaims : (takeCommit r x s).claims = s.claims.set r ((s.claim r).committed x) := by rw [takeCommit_claims, hn]; rfl
  have hkeep : (takeCommit r x s).loans = s.loans ∧ (takeCommit r x s).grants = s.grants := by
    unfold takeCommit; rw [hn]; exact ⟨rfl, rfl⟩
  have hlen : (takeCommit r x s).claims.length = s.claims.length := by rw [hclaims, List.length_set]
  have hself : (takeCommit r x s).claim r = (s.claim r).committed x := claim_of_set_same hclaims hr
  have hother : ∀ q, q ≠ r → (takeCommit r x s).claim q = s.claim q := fun q hq => claim_of_set_other hclaims hq
  have hsolo := h.solo_tentative (.inl hseek) hn
  have hon := h.onLoan_none (r := r) (.inl (by rw [hseek]; rfl))
  have hform : TableForm (takeCommit r x s) := by
    refine { length := hlen.trans h.length, record := fun q => ?_, links := h.links.solo hsolo ?_ (fun q hq => by rw [hother q hq]) ?_,
             loans := h.loans.congr (fun q => ?_) (by rw [hkeep.1]), top := h.top.congr (by rw [hkeep.1]),
             grants := h.grants.one hclaims hkeep.2 (shown_hidden (by rw [hseek]; rfl) rfl) }
    · by_cases hq : q = r
      · rw [hq, hself]; exact committed_recordLaw h hj hw
      · rw [hother q hq]; exact h.record q
    · rw [hself]; exact ⟨hn, hsolo.2.1, nofun⟩
    · rw [hself]; exact fun _ => ⟨by rw [hseek]; rfl, rfl, rfl⟩
    · by_cases hq : q = r
      · rw [hq, hself]; exact .without hon hon nofun
      · rw [hother q hq]; exact h.loanKept q
  have hload := (takeCommit_frame r x s).loader
  refine ⟨hform, fun hold => ⟨?_, by rw [hload]; exact hold.2⟩⟩
  have hgain : heldTotal (takeCommit r x s) ≤ heldTotal s + x.width :=
    heldTotal_gain hlen (fun q hq => by rw [hother q hq]) (by rw [hself]; exact heldTiles_le _)
  rw [holdLimit, hload]
  exact hgain.trans (hlimit hn)

/-- The commit of a successor: its predecessor is MOVING, and counts for both (R79, R80). -/
theorem takeSuccessor_tableKept {p : Nat} (hp : (s.claim r).predecessor = some p) : TableKept s (takeCommit r x s) := by
  obtain ⟨-, hseek, -, -, -, hheld⟩ := judgeCommit_taken hj
  have hr := lt_length_of_not_free (s := s) (r := r) (by rw [hseek]; nofun)
  have hpheld : (s.claim p).phase = .held := by
    rw [predecessorHeld, hp] at hheld; simpa using hheld
  obtain ⟨-, -, hdata, hpcls, -⟩ := h.links.predecessor hp
  have hpl := lt_length_of_not_free (s := s) (r := p) (by rw [hpheld]; nofun)
  have hne : r ≠ p := fun k => by rw [k, hpheld] at hseek; cases hseek
  have hpx : (s.claim p).run.isSome = true := (h.record p).1.mpr (by rw [hpheld]; rfl)
  set d : ClaimRecord := { s.claim p with phase := .moving } with hd
  have hclaims : (takeCommit r x s).claims = (s.claims.set r ((s.claim r).committed x)).set p d := by
    rw [takeCommit_claims, hp]; rfl
  have hkeep : (takeCommit r x s).loans = s.loans ∧ (takeCommit r x s).grants = s.grants := by
    unfold takeCommit; rw [hp]; exact ⟨rfl, rfl⟩
  have hpair := pairChange_of_set hr hpl hne hclaims
  have hon := h.onLoan_none (r := r) (.inl (by rw [hseek]; rfl))
  have hlinks : LinksForm (takeCommit r x s) := h.links.rephase hp (h.length ▸ hr) hpair ⟨rfl, rfl, hw, rfl, rfl⟩
    ⟨rfl, rfl, rfl, rfl, rfl⟩ (.inr ⟨rfl, rfl⟩)
  refine Keeps.onlyClaims ((hpair.coreKept h.toTableCore h.top hr hpl hne (committed_recordLaw h hj hw) ?_ hlinks
    (.without hon hon nofun) ?_ hkeep.1 ?_).granted (hpair.grantLaw h.grants hkeep.2 ?_ ?_)) (takeCommit_frame r x s)
  · exact recordLaw_holding (.inr (.inl rfl)) (by show (s.claim p).cls ≠ _; rw [hpcls]; exact hdata) hpx (h.record p).2.1
  · exact loanKept_of rfl rfl rfl rfl (by rw [hpheld]; nofun) nofun
  · have huncounted : ((s.claim r).committed x).counted = false := by
      simp [ClaimRecord.counted, ClaimRecord.committed, hp]
    have hsame : d.heldTiles ≤ (s.claim p).heldTiles := heldTiles_le_of_run rfl fun k =>
      counted_iff.mpr ⟨.inr (.inl hpheld), (counted_iff.mp k).2⟩
    rw [heldTiles_uncounted huncounted]
    omega
  · exact shown_hidden (c := s.claim r) (d := (s.claim r).committed x) (by rw [hseek]; rfl) rfl
  · exact shown_granted (c := s.claim p) (d := d) rfl rfl rfl (by rw [hpheld]; rfl) rfl

theorem takeCommit_tableKept : TableKept s (takeCommit r x s) := by
  cases hp : (s.claim r).predecessor with
  | none => exact takePrimary_tableKept h hj hw hp
  | some p => exact takeSuccessor_tableKept h hj hw hp

end

end Sys2Proof.Machine

/-! The close of a call keeps the form of the Claim Table (R94, R155, R158 to R160), and so does every step (O59). -/

namespace Sys2Proof.Machine

/-! ### The stages of a close -/

/-- The records of the call ended, or their loans marked RETURNED (R94, R155). -/
def callEnded (n : Nat) (s : State) : State := (closingRecords .voice n s).foldl closeCallRecord s

/-- The stack then unwound (R158). -/
def callUnwound (n : Nat) (s : State) : State := unwindStack (callEnded n s).loans.length (callEnded n s)

/-- The borrowers that are left then PARKED (R155). -/
def callParked (n : Nat) (s : State) : State := (closingRecords .voice n s).foldl parkRemaining (callUnwound n s)

theorem closeCall_eq (n : Nat) (s : State) :
    closeCall n s = grantReturns (commitGrant .voice .closed none (callParked n s)) := rfl

theorem parkedOf_reset (rs : List Nat) (q : Nat) : parkedOf rs q ClaimRecord.reset = ClaimRecord.reset := if_neg fun k => k.2 rfl

theorem callParked_claim (n : Nat) (s : State) (q : Nat) :
    (callParked n s).claim q = parkedOf (closingRecords .voice n s) q ((callUnwound n s).claim q) := by
  rw [callParked, parkRemaining_foldl]
  exact getD_mapIdx _ (parkedOf_reset _ q)

theorem callParked_keeps (n : Nat) (s : State) : (callParked n s).loans = (callUnwound n s).loans ∧
    (callParked n s).grants = (callUnwound n s).grants ∧
    (callParked n s).claims.length = (callUnwound n s).claims.length := by
  rw [callParked, parkRemaining_foldl]
  exact ⟨rfl, rfl, List.length_mapIdx ..⟩

theorem callEnded_ends (n : Nat) (s : State) : CallEnds (closingRecords .voice n s) s (callEnded n s) := closeCallRecord_ends n s

section
variable {s : State} (h : TableForm s) {n : Nat}
include h

/-! ### The records of the call -/

/-- A record of the call that is on loan is HELD, MOVING or DRAINING, and its entry is OUT. -/
theorem closing_onLoan {q : Nat} (hq : q ∈ closingRecords .voice n s) (hon : (s.claim q).onLoan ≠ none) :
    holdsLoan s q = true ∧ ((s.claim q).phase = .held ∨ (s.claim q).phase = .moving ∨ (s.claim q).phase = .draining) := by
  obtain ⟨-, -, -, -, hpark⟩ := mem_closingRecords.mp hq
  obtain ⟨i, hi⟩ := Option.ne_none_iff_exists'.mp hon
  obtain ⟨-, e, he, hb, hg, hx, hst⟩ := h.loans.borrower q i hi
  rw [if_neg fun k => k.elim hpark nofun] at hst
  refine ⟨holdsLoan_iff.mpr ⟨i, e, hi, he, hb, hg, hst⟩, ?_⟩
  have hholds : (s.claim q).phase.holds = true := (h.record q).1.mp (by rw [hx]; rfl)
  have htent : (s.claim q).phase ≠ .tentative := fun k => by
    rw [((h.record q).2.2.1 k).2] at hi; cases hi
  cases hp : (s.claim q).phase <;> simp [hp, Phase.holds] at hholds hpark htent ⊢

theorem callEnded_claim (q : Nat) : (callEnded n s).claim q =
    if q ∈ closingRecords .voice n s ∧ (s.claim q).onLoan = none then (s.claim q).ended else s.claim q := by
  rw [(callEnded_ends n s).claim]
  refine if_congr (and_congr_right fun hq => ⟨fun hh => ?_, holdsLoan_without⟩) rfl rfl
  by_contra hon
  rw [(closing_onLoan h hq hon).1] at hh; cases hh

/-- A record that is still on loan once the records of the call are ended is as it was. -/
theorem callEnded_onLoan {q : Nat} (hon : ((callEnded n s).claim q).onLoan ≠ none) : (callEnded n s).claim q = s.claim q := by
  rw [callEnded_claim h] at hon ⊢
  split at hon
  · exact absurd rfl hon
  · rename_i hk; rw [if_neg hk]

theorem callEnded_loans : LoansForm (closingRecords .voice n s) (callEnded n s) := by
  have hends := callEnded_ends n s
  have hat : ∀ i : Nat, (callEnded n s).loans[i]? = s.loans[i]?.map (markReturned s (closingRecords .voice n s) i) := fun i => by
    rw [hends.loans, List.getElem?_mapIdx]
  have hback : ∀ {q}, (s.claim q).onLoan ≠ none → (callEnded n s).claim q = s.claim q := fun hon => by
    rw [callEnded_claim h, if_neg fun k => hon k.2]
  refine ⟨?_, fun r i hi => ?_, fun r hp => ?_, fun i f hf hs => ?_⟩
  · rw [hends.loans, List.length_mapIdx]; exact h.loans.capacity
  · have hsame := callEnded_onLoan h (q := r) (by rw [hi]; nofun)
    rw [hsame] at hi ⊢
    obtain ⟨hk, e, he, hb, hg, hx, hst⟩ := h.loans.borrower r i hi
    refine ⟨hk, markReturned s (closingRecords .voice n s) i e, by rw [hat, he]; rfl, ?_⟩
    unfold markReturned
    by_cases hr : r ∈ closingRecords .voice n s
    · have hl := (closing_onLoan h hr (by rw [hi]; nofun)).1
      subst hb
      rw [if_pos ⟨hr, hl, hi⟩, if_pos (.inr hr)]
      exact ⟨rfl, hg, hx, rfl⟩
    · rw [if_neg fun k => hr (hb ▸ k.1)]
      refine ⟨hb, hg, hx, hst.trans (if_congr (or_congr_right ?_) rfl rfl)⟩
      exact ⟨nofun, fun k => absurd k hr⟩
  · rw [callEnded_claim h] at hp
    split at hp
    · cases hp
    · have hon := h.loans.parked r hp
      rw [hback (Option.isSome_iff_ne_none.mp hon)]; exact hon
  · rw [hat] at hf
    obtain ⟨e, he, rfl⟩ := Option.map_eq_some_iff.mp hf
    rw [markReturned_borrower]
    have hon : (s.claim e.borrower).onLoan = some i := by
      unfold markReturned at hs
      split at hs
      · rename_i hk; exact hk.2.2
      · exact h.loans.entry i e he hs
    rw [hback (by rw [hon]; nofun)]; exact hon

theorem callEnded_unwinding : Unwinding (closingRecords .voice n s) (callEnded n s) := by
  refine ⟨fun q => ?_, callEnded_loans h, fun q hq hon => ?_⟩
  · rw [callEnded_claim h]; split
    · exact ended_recordLaw _
    · exact h.record q
  · have hsame := callEnded_onLoan h hon
    rw [hsame] at hon ⊢
    exact (closing_onLoan h hq hon).2

theorem callUnwound_unwindsTo : UnwindsTo (closingRecords .voice n s) (callEnded n s) (callUnwound n s) :=
  unwindStack_unwindsTo _ (callEnded_unwinding h)

/-! ### What becomes of each record -/

/-- A record of the call, once the stack is unwound, is ended or still on loan; another has taken its tile back, if it was one to. -/
theorem callUnwound_claim (q : Nat) :
    (q ∈ closingRecords .voice n s ∧ ((callUnwound n s).claim q = (s.claim q).ended ∨
      (s.claim q).onLoan ≠ none ∧ (callUnwound n s).claim q = s.claim q)) ∨
    q ∉ closingRecords .voice n s ∧ Returned [] q (s.claim q) ((callUnwound n s).claim q) := by
  have hchange := (callUnwound_unwindsTo h (n := n)).change q
  by_cases hq : q ∈ closingRecords .voice n s
  · obtain ⟨-, hvoice, -⟩ := mem_closingRecords.mp hq
    refine .inl ⟨hq, ?_⟩
    by_cases hon : (s.claim q).onLoan = none
    · rw [callEnded_claim h, if_pos ⟨hq, hon⟩] at hchange
      rcases hchange with k | ⟨-, -, k⟩ | ⟨-, hp, -⟩
      · exact .inl k
      · exact .inl (k.trans (ended_ended _))
      · cases hp
    · rw [callEnded_claim h, if_neg fun k => hon k.2] at hchange
      rcases hchange with k | ⟨-, -, k⟩ | ⟨hc, -⟩
      · exact .inr ⟨hon, k⟩
      · exact .inl k
      · cases hvoice.symm.trans hc
  · rw [callEnded_claim h, if_neg fun k => hq k.1] at hchange
    refine .inr ⟨hq, hchange.imp_right fun k => k.imp_left fun ⟨hc, hp, hd⟩ => ⟨hc, .inl (hp.resolve_right hq), hd⟩⟩

/-- A record of the call is FREE in the end, or PARKED on its tile. -/
theorem callParked_change (q : Nat) :
    (q ∈ closingRecords .voice n s ∧ ((callParked n s).claim q = (s.claim q).ended ∨
      (s.claim q).onLoan ≠ none ∧ (callUnwound n s).claim q = s.claim q ∧ (callParked n s).claim q = (s.claim q).park)) ∨
    q ∉ closingRecords .voice n s ∧ (callParked n s).claim q = (callUnwound n s).claim q ∧
      Returned [] q (s.claim q) ((callParked n s).claim q) := by
  rw [callParked_claim, parkedOf]
  rcases callUnwound_claim h (n := n) q with ⟨hq, k | ⟨hon, k⟩⟩ | ⟨hq, k⟩
  · rw [k, if_neg fun hp => hp.2 rfl]
    exact .inl ⟨hq, .inl rfl⟩
  · obtain ⟨-, -, -, hf, -⟩ := mem_closingRecords.mp hq
    rw [k, if_pos ⟨hq, hf⟩]
    exact .inl ⟨hq, .inr ⟨hon, rfl, rfl⟩⟩
  · rw [if_neg fun hp => hq hp.1]
    exact .inr ⟨hq, rfl, k⟩

/-! ### The form -/

theorem callParked_record (q : Nat) : RecordLaw ((callParked n s).claim q) := by
  rcases callParked_change h (n := n) q with ⟨hq, k | ⟨hon, -, k⟩⟩ | ⟨-, k, -⟩ <;> rw [k]
  · exact ended_recordLaw _
  · obtain ⟨-, hvoice, -⟩ := mem_closingRecords.mp hq
    obtain ⟨i, hi⟩ := Option.ne_none_iff_exists'.mp hon
    obtain ⟨-, e, -, -, -, hx, -⟩ := h.loans.borrower q i hi
    refine recordLaw_holding (.inr (.inr (.inr rfl))) ?_ ?_ (h.record q).2.1
    · show (s.claim q).cls ≠ _; rw [hvoice]; nofun
    · show (s.claim q).run.isSome = true; rw [hx]; rfl
  · exact (callUnwound_unwindsTo h).unwinding.record q

theorem callParked_links : LinksForm (callParked n s) := by
  have hout : ∀ q, q ∉ closingRecords .voice n s → (callParked n s).claim q ≠ s.claim q → _ := fun q hq hne =>
    Returned.unlinked h.links (((callParked_change h (n := n) q).resolve_left fun k => hq k.1).2.2) hne
  have hin : ∀ q ∈ closingRecords .voice n s, ((callParked n s).claim q).Solo ∧
      ((callParked n s).claim q).phase.keepsSlot = false := fun q hq => by
    obtain ⟨-, k | ⟨-, -, k⟩⟩ := (callParked_change h (n := n) q).resolve_right fun k => k.1 hq
    · rw [k]; exact ⟨⟨rfl, rfl, nofun⟩, rfl⟩
    · rw [k]; exact ⟨⟨rfl, rfl, nofun⟩, rfl⟩
  refine h.links.sever (fun q => q ∈ closingRecords .voice n s ∨ (callParked n s).claim q ≠ s.claim q) (fun q hq => ?_)
    (fun q p hq hl => ?_) (fun q hq => ?_) (fun q hq hk => ?_) fun q p hq hl hk => ?_
  · rw [not_not.mp (not_or.mp hq).2]
  · by_cases hm : q ∈ closingRecords .voice n s
    · exact .inl (closing_linked h hm hl)
    · exact absurd hl (LinksForm.not_linked (hout q hm (hq.resolve_left hm)).1 p)
  · by_cases hm : q ∈ closingRecords .voice n s
    · exact (hin q hm).1
    · exact (hout q hm (hq.resolve_left hm)).2.1
  · by_cases hm : q ∈ closingRecords .voice n s
    · rw [(hin q hm).2] at hk; cases hk
    · exact (hout q hm (hq.resolve_left hm)).2.2 hk
  · by_cases hm : q ∈ closingRecords .voice n s
    · rw [(hin q hm).2] at hk; cases hk
    · exact absurd hl (LinksForm.not_linked (hout q hm (hq.resolve_left hm)).1 p)

theorem callParked_loans : LoansForm [] (callParked n s) := by
  have hx := (callUnwound_unwindsTo h (n := n)).unwinding
  obtain ⟨hloans, -⟩ := callParked_keeps n s
  have hon : ∀ q, ((callParked n s).claim q).onLoan = ((callUnwound n s).claim q).onLoan := fun q => by
    rw [callParked_claim, parkedOf]; split <;> rfl
  refine ⟨hloans ▸ hx.loans.capacity, fun r i hi => ?_, fun r hp => ?_, fun i e he hs => ?_⟩
  · rw [hon] at hi
    obtain ⟨hk, e, he, hb, hg, hrun, hst⟩ := hx.loans.borrower r i hi
    have hf : ((callUnwound n s).claim r).phase ≠ .free := fun k => by
      have := (hx.record r).1.mp (by rw [hrun]; rfl)
      rw [k] at this; cases this
    rw [callParked_claim, parkedOf]
    by_cases hr : r ∈ closingRecords .voice n s
    · rw [if_pos ⟨hr, hf⟩]
      rw [if_pos (.inr hr)] at hst
      exact ⟨hk, e, hloans ▸ he, hb, hg, hrun, hst.trans (if_pos (.inl rfl)).symm⟩
    · rw [if_neg fun k => hr k.1]
      refine ⟨hk, e, hloans ▸ he, hb, hg, hrun, hst.trans (if_congr (or_congr_right ?_) rfl rfl)⟩
      exact ⟨fun k => absurd k hr, nofun⟩
  · rw [hon]
    rcases callParked_change h (n := n) r with ⟨-, k | ⟨k, hu, -⟩⟩ | ⟨-, k, -⟩
    · rw [k] at hp; cases hp
    · rw [hu]; exact Option.isSome_iff_ne_none.mpr k
    · rw [k] at hp; exact hx.loans.parked r hp
  · rw [hon]; exact hx.loans.entry i e (hloans ▸ he) hs

theorem callParked_core : TableCore [] (callParked n s) ∧ TopOut (callParked n s) := by
  obtain ⟨hloans, -, hlen⟩ := callParked_keeps n s
  refine ⟨⟨?_, callParked_record h, callParked_links h, callParked_loans h⟩, ?_⟩
  · rw [hlen, (callUnwound_unwindsTo h).length, (callEnded_ends n s).length]; exact h.length
  · rw [TopOut, hloans]; exact unwindStack_top _

/-- The grant record of voice is committed at the close; that of video does not see it. -/
theorem callParked_grants : GrantsBut .data (commitGrant .voice .closed none (callParked n s)) := by
  obtain ⟨hself, hother⟩ := commitGrant_of .voice .closed none (callParked n s)
  obtain ⟨-, hgrants, hlen⟩ := callParked_keeps n s
  intro j hj
  by_cases hv : j = .voice
  · rw [hv, hself, after_entries]; rfl
  · have hkept : (callParked n s).grants = s.grants := by
      rw [hgrants, (callUnwound_unwindsTo h).grants, (callEnded_ends n s).grants]
    rw [hother j hv, hkept, grantLaw_iff.mp h.grants j]
    refine (grantEntries_of_shown (s := s) (t := callParked n s) ?_ fun q => ?_).symm
    · rw [hlen, (callUnwound_unwindsTo h).length, (callEnded_ends n s).length]
    · rcases callParked_change h (n := n) q with ⟨hq, k | ⟨-, -, k⟩⟩ | ⟨-, -, k⟩
      · rw [k]; exact shown_other (c := s.claim q) (d := (s.claim q).ended) rfl (by rw [(mem_closingRecords.mp hq).2.1]; exact hv)
      · rw [k]; exact shown_other (c := s.claim q) (d := (s.claim q).park) rfl (by rw [(mem_closingRecords.mp hq).2.1]; exact hv)
      · exact k.shown hj

theorem closeCall_keeps_parked (n : Nat) : Keeps (callParked n s) (closeCall n s) := by
  obtain ⟨hcore, htop⟩ := callParked_core h (n := n)
  have hkeep := grantReturns_keeps (v := commitGrant .voice .closed none (callParked n s))
    ⟨hcore.length, hcore.record, ⟨hcore.links.link, hcore.links.slot⟩,
      ⟨hcore.loans.capacity, hcore.loans.borrower, hcore.loans.parked, hcore.loans.entry⟩⟩ htop (callParked_grants h)
  rw [closeCall_eq]
  exact ⟨hkeep.1, hkeep.2⟩

/-! ### The held total -/

section
variable (hdrain : ∀ c ∈ s.claims, c.phase = .draining → c.onLoan = none)
include hdrain

/-- Every borrower counts where none is DRAINING (log 28). -/
theorem callEnded_borrowersCount : BorrowersCount (closingRecords .voice n s) (callEnded n s) := fun q hon hp => by
  have hsame := callEnded_onLoan h hon
  rw [hsame] at hon hp ⊢
  by_cases hpark : (s.claim q).phase = .parked
  · exact h.borrowersCount q hon (.inl hpark)
  · obtain ⟨-, hphase⟩ := closing_onLoan h (hp.resolve_left hpark) hon
    have hcount : (s.claim q).phase = .held ∨ (s.claim q).phase = .moving := by
      rcases hphase with k | k | k
      · exact .inl k
      · exact .inr k
      · exact absurd (hdrain _ (claim_mem (lt_length_of_not_free (by rw [k]; nofun))) k) hon
    refine counted_iff.mpr ⟨hcount.elim (.inr ∘ .inl) fun k => .inr (.inr (.inl k)), h.links.predecessor_none ?_ ?_⟩ <;>
      rcases hcount with k | k <;> rw [k] <;> nofun

theorem closeCall_heldTotal (n : Nat) : heldTotal (closeCall n s) ≤ heldTotal s := by
  have hends := callEnded_ends n s
  have hunwinds := callUnwound_unwindsTo h (n := n)
  obtain ⟨hcount, hunwound⟩ := hunwinds.held (callEnded_borrowersCount h hdrain)
  calc heldTotal (closeCall n s) ≤ heldTotal (callParked n s) := (closeCall_keeps_parked h n).2
    _ ≤ heldTotal (callUnwound n s) := heldTotal_le (callParked_keeps n s).2.2 fun q => ?parked
    _ ≤ heldTotal (callEnded n s) := hunwound
    _ ≤ heldTotal s := heldTotal_le hends.length fun q => ?ended
  case parked =>
    rcases callParked_change h (n := n) q with ⟨hq, k | ⟨hon, hu, k⟩⟩ | ⟨-, k, -⟩
    · rw [k, heldTiles_unrun (c := (s.claim q).ended) rfl]; exact Nat.zero_le _
    · have hcounted := hcount q (by rw [hu]; exact hon) (.inr hq)
      rw [hu] at hcounted
      rw [k, hu]
      exact heldTiles_le_of_run (d := (s.claim q).park) rfl fun _ => hcounted
    · rw [k]
  case ended =>
    rw [callEnded_claim h]; split
    · rw [heldTiles_unrun (c := (s.claim q).ended) rfl]; exact Nat.zero_le _
    · exact le_rfl

end

end

/-! ### Every step -/

/-- Settles O59: what a step does to the table is a row of events, the close of a call, or the taking of a commit. -/
theorem stepKeepsClaimTable : Obligations.StepKeepsClaimTable := by
  intro s t hlaw _ hwidth e
  have h := tableForm_of_law hlaw
  rcases step_tableStep e with (hev | ⟨n, u, hu, ht⟩) | ⟨r, g, x, hp, u, hu, hj, ht⟩
  · obtain ⟨hform, hhold⟩ := hev.tableKept h
    exact ⟨hform.law, fun hs _ => hhold hs⟩
  · obtain ⟨huform, huhold⟩ := hu.tableKept h
    have hclose := closeCall_keeps_parked huform n
    obtain ⟨hform, hhold⟩ := ht.tableKept hclose.1
    refine ⟨hform.law, fun hs hdrain => hhold ((huhold hs).keep (closeCall_heldTotal huform ?_ n) ?_ ?_)⟩
    · rw [hu.claims]; exact hdrain
    · rw [(closeCall_frame n u).loader]
    · rw [(closeCall_frame n u).loader]; exact id
  · have hused := hu.tableKept h
    have htaken := takeCommit_tableKept hused.1 hj (by rw [hu.claim]; exact hwidth r g x hp)
    obtain ⟨hform, hhold⟩ := hused.trans (htaken.trans (ht.tableKept htaken.1))
    exact ⟨hform.law, fun hs _ => hhold hs⟩

end Sys2Proof.Machine
